-- ==== Sys2Proof/Word.lean ====
section
/-!
DEFINITION. Word and byte types and their plainest arithmetic (R10: registers are 32 bits wide and little-endian).
-/

namespace Sys2Proof

/-- One byte of memory. -/
abbrev Byte := BitVec 8

/-- One 32-bit register word (R10). -/
abbrev Word32 := BitVec 32

/-- A physical address of the module (40 bits, chapter "Address map and register index"). -/
abbrev Addr := BitVec 40

/-- Bits `lo` to `lo + w - 1` of `n`. -/
def bitsOf (n lo w : Nat) : Nat := n / 2 ^ lo % 2 ^ w

/-- Bit `k` of `n`. -/
def bitOf (n k : Nat) : Bool := n / 2 ^ k % 2 == 1

/-- The number with bit `k` set for each `k` of the list (no repeats). -/
def bitSet (l : List Nat) : Nat := l.foldl (fun a k => a ||| 2 ^ k) 0

/-- `n` limited to `m`: how the manual's counters saturate. -/
def satTo (m n : Nat) : Nat := min m n

/-- 1 for true and 0 for false. -/
def b2n (b : Bool) : Nat := if b then 1 else 0

/-- The signed value of a `w`-bit field. -/
def sext (w n : Nat) : Int := if n % 2 ^ w < 2 ^ (w - 1) then (n % 2 ^ w : Nat) else ((n % 2 ^ w : Nat) : Int) - (2 ^ w : Nat)

/-- The `w`-bit field that holds a signed value. -/
def ofSigned (w : Nat) (z : Int) : Nat := (z % ((2 ^ w : Nat) : Int)).toNat

/-- `k` bytes of `n`, least significant first. -/
def leBytes : Nat → Nat → List Byte
  | 0, _ => []
  | k + 1, n => BitVec.ofNat 8 n :: leBytes k (n / 256)

/-- The number whose bytes, least significant first, are the list. -/
def leNat : List Byte → Nat
  | [] => 0
  | b :: bs => b.toNat + 256 * leNat bs

end Sys2Proof
end

