-- ==== Sys2Proof/Config.lean ====
section
/-!
DEFINITION. What the manual fixes per implementation or leaves open: opaque constants with no body (logged in
notes/assumptions), so that a statement holds for every value of them.
-/

namespace Sys2Proof

/-- Whether an ECDSA P-384 signature over SHA-384 of a message verifies under a public key (R533, R553, R554, R570). -/
opaque Config.ecdsaVerify : (key msg sig : List Byte) → Bool

/-- The public key that an X.509 v3 certificate in DER carries, if it is well formed (R552, R554). -/
opaque Config.certKey : (der : List Byte) → Option (List Byte)

/-- SHA-384 of a byte sequence: 48 bytes (FIPS 180-4, R7). -/
opaque Config.sha384 : List Byte → List Byte

/-- AES-256-GCM decryption under package key `keyId`: the plaintext, or none if the tag fails (R570). -/
opaque Config.gcmOpen : (keyId : Nat) → (nonce aad cipher : List Byte) → Option (List Byte)

/-- The secure element's ECDSA signature of a message under device key number `k` (R549, R552, R559). -/
opaque Config.deviceSign : (k : Nat) → (msg : List Byte) → List Byte

/-- The DER certification request of device key number `k` (R559). -/
opaque Config.deviceCsr : (k : Nat) → List Byte

/-- The certificate that Elnezo stored at manufacture (R552). -/
opaque Config.factoryCert : List Byte

/-- The Elnezo firmware release key of the boot ROM (R570). -/
opaque Config.releaseKey : List Byte

/-- Contents of the boot ROM (R26): the manual gives no byte of it. -/
opaque Config.bootRom : Nat → Byte

/-- The `n`-th fresh 128-bit nonce of the secure element (R553, R565). -/
opaque Config.nonce : Nat → List Byte

/-- The `n`-th free value of width up to 64 bits: a value the manual leaves open (see the assumption log). -/
opaque Config.freeValue : Nat → Nat

/-- The bits that a conversion of the NaN `src` to the floating type `dst` gives (R212 states none). -/
opaque Config.nanConvert : (dst src : Nat) → Nat

/-- Porter and DIO firmware versions of the module as built (R332): [23:16] major, [15:8] minor, [7:0] patch. -/
opaque Config.firmwareVersion : (part slot : Nat) → Nat

/-- The executables of an APP payload that is no change set, with the pair of each, and its task release table: the
manual gives no layout of it (R569). -/
opaque Config.appPrograms : (payload : List Byte) → List (Nat × List Byte)
opaque Config.appTable : (payload : List Byte) → List Byte

/-- Whether firmware from an update payload can read what it finds: item 1 a generation, item 2 a Ledger map record
(R587). -/
opaque Config.firmwareReads : (payload : List Byte) → (item : Nat) → Bool

end Sys2Proof
end

