-- ==== Sys2Proof/Syntax.lean ====
section
/-!
DEFINITION. The commands: one constructor of `Instr` per row of spec/opcode_table.json, and the operand types.
The table gives the rows no operand bits, so the operands are what the rules of each row need from outside: who
acts, which pair, task, port, channel or controller, and the values that arrive (logged in notes/assumptions/2.md).
-/

namespace Sys2Proof

/-- A processing pair (R14). -/
abbrev Pair := Fin 3
/-- A task index: 0 to 15 cyclic, 16 to 47 event (R109). -/
abbrev Task := Fin 48
/-- An FCN channel, and the Porter that carries it: 0 A, 1 B (R232). -/
abbrev Side := Fin 2
/-- A Porter port: 0 to 23 star, 24 and 25 backbone, 26 internal (R286). -/
abbrev Port := Fin 27
/-- A CAN controller (R364). -/
abbrev Ctrl := Fin 8
/-- A DIO channel (R452). -/
abbrev Chan := Fin 32
/-- A DIO group (R452). -/
abbrev Group := Fin 4

/-- Who issues a bus transaction (R13, R19, R624). -/
inductive Initiator where
  | pair (p : Pair)
  | split (p : Pair) (core : Fin 2)
  | mc
  | debug
  | cyc
  | lgr
  | gw
  | lbb
  deriving DecidableEq, Repr

/-- Width of a bus access. -/
inductive Width where
  | b1 | b2 | b4 | b8
  deriving DecidableEq, Repr

/-- Bytes of an access. -/
def Width.bytes : Width → Nat
  | .b1 => 1 | .b2 => 2 | .b4 => 4 | .b8 => 8

/-- The arithmetic of an atomic memory operation (RISC-V A, R34). -/
inductive AmoOp where
  | swap | add | xor | and | or | min | max | minu | maxu
  deriving DecidableEq, Repr

/-- A bus operation. `fetch` is an instruction fetch (the "execute" right of R624). -/
inductive BusOp where
  | read (w : Width)
  | write (w : Width) (data : BitVec 64)
  | amo (w : Width) (op : AmoOp) (data : BitVec 64)
  | lr (w : Width)
  | sc (w : Width) (data : BitVec 64)
  | fetch (w : Width)
  deriving DecidableEq, Repr

/-- The clock islands of R14. -/
inductive Island where
  | lane (p : Pair) | scl | lgr | cyc | prt (s : Side) | can | gw | lbb | dio | mc | sec
  deriving DecidableEq, Repr

/-- The memories with ECC kinds of their own in R22. -/
inductive EccMem where
  | sram | dram
  deriving DecidableEq, Repr

/-- Header of a received FCN frame with the facts R238 judges. -/
structure FrameHdr where
  fcsOk : Bool
  vlan : Bool
  version : Nat
  subtype : Nat
  src : Nat
  dst : Nat
  case_ : Nat
  channel : Nat
  cycle : Nat
  bodyLen : Nat
  /-- Bytes that follow the header in the frame. -/
  present : Nat
  deriving DecidableEq, Repr

/-- One data set record of a DATA body (R241). -/
structure DsRecord where
  ds : Nat
  pstatus : Nat
  len : Nat
  payload : List Byte
  dchk : Nat
  deriving DecidableEq, Repr

/-- A MASTER_POLL body (R239). -/
structure PollBody where
  timeSec : Nat
  timeNs : Nat
  group : Nat
  forced : Bool
  twinRole : Nat
  fallback : Nat
  nextCase : Nat
  nextKind : Nat
  nextCycle : Nat
  bcQ : Nat
  macro_ : Nat
  /-- Named nodes with their rate correction. -/
  named : List (Nat × Int)
  deriving DecidableEq, Repr

/-- A DISCOVERY_REPLY body (R310). -/
structure ReplyBody where
  node : Nat
  masterCapable : Bool
  linkDelay : Nat
  ratePpb : Int
  idHash : List Byte
  deriving DecidableEq, Repr

/-- One consist of an INAUGURATION list (R313). -/
structure Consist where
  id : Nat
  type : Nat
  orient : Nat
  deriving DecidableEq, Repr

/-- An INAUGURATION body (R313). -/
structure InaugBody where
  consistId : Nat
  type : Nat
  from_ : Nat
  round : Nat
  stable : Nat
  list : List Consist
  deriving DecidableEq, Repr

/-- A CLAIM body (R341). -/
structure ClaimBody where
  unit : Nat
  take : Bool
  state : Nat
  current : Bool
  prestart : Bool
  cycleSeen : Nat
  commit : Nat
  deriving DecidableEq, Repr

/-- A SURRENDER body (R342). -/
structure SurrenderBody where
  unit : Nat
  reason : Nat
  lastCycle : Nat
  commit : Nat
  deriving DecidableEq, Repr

/-- A COLDSTART body (R306). -/
structure ColdstartBody where
  timeSec : Nat
  timeNs : Nat
  bcQ : Nat
  macro_ : Nat
  case_ : Nat
  firstPoll : Nat
  deriving DecidableEq, Repr

/-- A heartbeat of the twin link (R338). -/
structure Heartbeat where
  unit : Nat
  state : Nat
  role : Nat
  mirrorEn : Bool
  sync : Bool
  changing : Bool
  trial : Bool
  swapping : Bool
  cycle : Nat
  commit : Nat
  deriving DecidableEq, Repr

/-- A Porter status message of the twin link (R339): a copy of PRT_STATUS, the excluded ports, the staged TABLE_ID and
up to four fault messages. -/
structure PorterStatusMsg where
  prtStatus : Nat
  excluded : Nat
  stagedId : Nat
  faults : List (BitVec 64)
  deriving DecidableEq, Repr

/-- What a frame at a Porter port carries, as far as a window judges it (R299). -/
inductive FrameBody where
  | poll (b : PollBody)
  | data
  | mgmt
  | reply (b : ReplyBody)
  | claim (b : ClaimBody)
  | surrender (b : SurrenderBody)
  | coldstart (b : ColdstartBody)
  | inaug (b : InaugBody)
  /-- Pattern bits of a returned TEST frame that differ from what was sent (R318). -/
  | test (bitErrors : Nat)
  deriving DecidableEq, Repr

/-- A frame that starts at a Porter port: its instant in Porter cycle time (cycle number and 100 ns units, R299), its
sender and its contents. -/
structure PorterFrame where
  good : Bool
  cycle : Nat
  tick : Nat
  src : Nat
  case_ : Nat
  body : FrameBody
  deriving DecidableEq, Repr

/-- A CAN frame on the bus (R386). -/
structure CanFrame where
  id : Nat
  ide : Bool
  rtr : Bool
  fdf : Bool
  brs : Bool
  esi : Bool
  dlc : Nat
  data : List Byte
  /-- Start-of-frame count of the shared 10 MHz counter (R391). -/
  ts : Nat
  /-- In TEST mode, payload bits that differ from the pattern (R394). -/
  bitErrors : Nat
  deriving DecidableEq, Repr

/-- What a CAN bus error or success does to the ISO 11898-1 error counters: the counters after the event (R395: TEC and
REC follow ISO 11898-1:2015). -/
structure CanCounters where
  tec : Nat
  rec_ : Nat
  deriving DecidableEq, Repr

/-- A commit that the active unit mirrors (R190): the commit's map contents and granules. -/
structure MirrorCommit where
  commit : Nat
  triad : Bool
  layoutIds : List Nat
  programIds : List Nat
  timeSec : Nat
  timeNs : Nat
  releases : Nat
  /-- Granule numbers with their 256 bytes. -/
  granules : List (Nat × List Byte)
  /-- Part of a full copy (R191). -/
  full : Bool
  deriving DecidableEq, Repr

/-- What an F2 card answers to one F2 cycle: data, or no FACK# within the timeout (R424, R428). -/
inductive CardReply where
  | ack (data : BitVec 16)
  | none
  deriving DecidableEq, Repr

/-- Arguments of a trigger (R129, R140). -/
structure TrigData where
  src : Nat
  opt : Nat
  id : Nat
  param : Nat
  time : Nat
  deriving DecidableEq, Repr

/-- A Tally key as it sits in the slot (R530, R531): the serial number its chip proves, whether the chip proves it, and
the flash, as the bytes that differ from the erased 0xFF in ascending order. -/
structure TallyKey where
  serial : Nat
  authentic : Bool
  flash : List (Nat × Byte)
  deriving DecidableEq, Repr

/-- A service port: 0 SVC0, 1 SVC1, 2 none (a port without a session). -/
abbrev Svc := Fin 3

/-- One constructor per row of spec/opcode_table.json, in the table's order. -/
inductive Instr where
  -- start-up
  | supplyOn (mv : BitVec 18) (cap10uF : Nat) (tamperLatched : Bool)
  | mcFirmwareRunning
  | pairReleaseFromReset (p : Pair)
  | selftestComplete (p : Pair) (pass : Bool)
  | startTransactionCommit
  | ledgerRestore
  | startupFinalState
  | moduleReset (who : Initiator) (value : Word32)
  -- interconnect
  | crossingEntry (src dst : Island) (data : BitVec 64) (parityOk : Bool) (reads : Nat)
  | islandReset (i : Island)
  | fabricAccess (who : Initiator) (op : BusOp) (addr : Addr)
  | txnTimeout (who : Initiator) (addr : Addr)
  | eccCorrected (m : EccMem) (addr : Addr)
  | eccUncorrectable (m : EccMem) (addr : Addr)
  | sysTxnPeakClr (who : Initiator) (value : Word32)
  | fabricErrClear (who : Initiator) (value : Word32)
  -- lanes
  | mfcache (p : Pair) (value : BitVec 64)
  | comparatorMismatch (p : Pair) (group : Fin 5) (addr : Addr)
  | delayParityError (p : Pair)
  | comparatorInvalid (p : Pair) (code : Bool)
  | pairResetComplete (p : Pair)
  | restoreBegin (p : Pair)
  | restoreComplete (p : Pair) (crcOk checkpointOk : Bool)
  | injectionTest (p : Pair) (latency : Fin 3)
  | stateEccUncorrectable (p : Pair) (addr : Addr)
  | tcmEccCorrected (p : Pair) (addr : Addr)
  | l2EccCorrected (p : Pair) (addr : Addr)
  | l2EccUncorrectable (p : Pair) (addr : Addr)
  | splitCoreFault (p : Pair) (core : Fin 2)
  | forceMismatch (who : Initiator) (p : Pair) (value : Word32)
  | mismatchInfoClear (who : Initiator) (p : Pair) (value : Word32)
  | debugEnable (value : Word32)
  -- releases
  | cyclicLatch (p : Pair) (t : Task)
  | eventTrigger (p : Pair) (t : Task) (d : TrigData)
  | bodyReturn (p : Pair) (t : Task) (execUs : Nat)
  | digestArrival (p : Pair) (t : Task) (enginesAgree : Bool)
  | releaseCopyComplete (t : Task) (copyOk : Bool)
  | skewWindowEnd (t : Task)
  | skewPeakClr (who : Initiator) (p : Pair) (value : Word32)
  | deadlineExpiry (p : Pair) (t : Task)
  | budgetExceeded (p : Pair) (t : Task)
  | taskTrap (p : Pair) (t : Task) (addr : Addr)
  -- runtime services of the release that runs on the pair
  | relInfo (p : Pair)
  | timeAtLatch (p : Pair)
  | monoAtLatch (p : Pair)
  | forceInfo (p : Pair)
  | trigger (p : Pair) (a0 : BitVec 64)
  | taskEnable (p : Pair) (a0 a1 : BitVec 64)
  | appFault (p : Pair) (a0 a1 a2 : BitVec 64)
  | canRxAck (p : Pair) (a0 a1 : BitVec 64)
  | mcRequest (p : Pair) (a0 a1 a2 : BitVec 64)
  -- Ledger
  | commitStart
  | commitPoint
  | commitLate
  | commitWithoutReleases
  | mirrorReceive (c : MirrorCommit)
  | mirrorAck (commit : Nat) (fullApplied : Bool)
  | coldStart (who : Initiator) (value : Word32)
  | mirrorLagClr (who : Initiator) (value : Word32)
  | commitTimeClr (who : Initiator) (value : Word32)
  | migrateTimeClr (who : Initiator) (value : Word32)
  | mramEccCorrected (dev : Fin 4) (addr : Addr)
  | mramEccUncorrectable (dev : Fin 4) (addr : Addr)
  | mramDeviceFail (dev : Fin 4)
  -- online change
  | loadAndArm
  | cancel
  | changeLoadingComplete
  | changeSetAck
  | changeAckTimeout
  | quiescenceReached
  | quiesceTimeout
  | migrationEnd
  | migrateLate
  /-- `mv`: supply voltage measured in this basic cycle (R574). -/
  | basicCycleStart (mv : BitVec 18)
  | forceSet
  | forceClear
  | forceClearAll
  | execPeakClr (who : Initiator) (p : Pair) (t : Task) (value : Word32)
  -- cycle network
  | groupPoll (g : Fin 8)
  | outputSlot (ch : Side) (entry : Nat)
  | localExchange (answered : Bool)
  | dataFrameReceived (ch : Side) (entry : Nat) (h : FrameHdr) (records : List DsRecord) (arrivalNs : Int)
  | dueTime (ch : Side) (entry : Nat)
  | admitWaitExpiry
  | channelLost (ch : Side)
  | channelRestored (ch : Side)
  | return_ (who : Initiator) (value : Word32)
  | schedSelect (who : Initiator) (value : Word32)
  | masterPollReceived (ch : Side) (port : Port) (h : FrameHdr) (b : PollBody)
  | timeLeaderLost
  | discoveryReply (ch : Side) (port : Port) (h : FrameHdr) (b : ReplyBody)
  | inauguration (ch : Side) (rear : Bool) (b : InaugBody) (delayNs : Nat)
  | inaugurationTimeout
  | backboneLinkChange (ch : Side) (rear up : Bool)
  -- Porters
  | porterFrame (s : Side) (port : Port) (f : PorterFrame)
  | windowCloseTruncate (s : Side) (port : Port)
  | porterLoadComplete (s : Side)
  | anchorMissed (s : Side)
  | freeRunTimeout (s : Side)
  | coldHoldTimeout (s : Side)
  | porterReset (s : Side)
  | cascadeLinkUp (s : Side) (delayNs : Nat)
  | directoryStaged (s : Side)
  | linkDown (s : Side) (port : Port)
  | listenTimeout
  | coldstartRoleDecision (echoA echoB : Option Nat)
  -- twin
  | heartbeatReceived (lane : Fin 2) (b : Heartbeat)
  | porterStatusReceived (lane : Fin 2) (m : PorterStatusMsg)
  | laneDown (lane : Fin 2)
  | twinLinkLost
  | claimSlot
  | surrenderReceived (ch : Side) (b : SurrenderBody) (early : Bool)
  | pollAbsence
  | claimAbandon
  | claimGrant
  | takeoverRestoreComplete
  | swap (who : Initiator) (value : Word32)
  | swapQuiesced
  | swapTimeout
  -- CAN
  | canCycleStart (n : Ctrl)
  | canCellOccurrence (n : Ctrl) (col : Fin 32)
  | canFrameSent (n : Ctrl) (ts : BitVec 32) (tdcv : BitVec 7) (c : CanCounters)
  | arbitrationLost (n : Ctrl)
  | canBusError (n : Ctrl) (c : CanCounters)
  | windowAbandoned (n : Ctrl)
  | canFrameReceived (n : Ctrl) (f : CanFrame) (c : CanCounters)
  | canIntegrated (n : Ctrl)
  | recover (who : Initiator) (n : Ctrl) (value : Word32)
  | recoveryComplete (n : Ctrl)
  | txdDominant (n : Ctrl)
  | canRxAckRegister (who : Initiator) (n : Ctrl) (value : Word32)
  | timestampCapture
  -- gateway
  | gatewayPhaseStart (phase : Fin 8) (cards : List CardReply)
  | gatewayPhaseEnd (cards : List CardReply)
  | phaseLate
  -- F2 backplane bridge
  | f2Access (who : Initiator) (op : BusOp) (addr : Addr) (cards : List CardReply)
  | f2Timeout
  | ackStuck
  | busRequest
  | busRequestRelease
  | busHold
  | inboundAccess (write : Bool) (f2 : BitVec 24) (data : BitVec 16) (fabricOk : Bool)
  | requestLinePoll (levels : BitVec 4)
  | prefetch (cards : List (BitVec 16))
  | prefetchExpiry (w : Fin 16)
  | prefetchDiscardClr (who : Initiator) (w : Fin 16) (value : Word32)
  -- on-module I/O
  | inputTransition (c : Chan) (level : Bool)
  | overload (c : Chan)
  | thermalShutdown (c : Chan)
  | readbackMismatch (c : Chan)
  | stuckOn (c : Chan)
  | dioWatchdogExpiry
  | supplyLow (g : Group) (mv : BitVec 16)
  | supplyLost (g : Group) (mv : BitVec 16)
  | groupSupplyRise (g : Group) (mv : BitVec 16)
  | supplyRestored (g : Group)
  | timedFiring (c : Chan) (late : Bool)
  | pulseEnd (c : Chan)
  | islandRestart
  -- faults and the Daybook
  | faultIntake
  | fcIntakeWrite (who : Initiator) (value : Word32)
  | ack (who : Initiator) (value : Word32)
  | release (who : Initiator) (value : Word32)
  | faultRecordTimeout
  | daybookWrite
  | archivePass
  | archSeqWrite (who : Initiator) (value : Word32)
  -- module time
  | step (who : Initiator) (value : Word32)
  | timeStep
  | rateSet (who : Initiator) (value : Word32)
  | utcOffsetSet (who : Initiator) (value : Word32)
  | triggerArm (who : Initiator) (n : Fin 8) (value : Word32)
  | triggerFire (n : Fin 8)
  -- configuration
  | begin_ (who : Initiator) (value : Word32)
  | commit (who : Initiator) (value : Word32)
  | abort (who : Initiator) (value : Word32)
  | registerWrite (who : Initiator) (addr : Addr) (value : Word32)
  | generationWritten
  | keyRemoved
  | keyReturned (key : TallyKey)
  | generationDelivery (svc : Svc) (image : List Byte)
  -- secure element
  | getNonce
  | getCsr
  | getCert
  | enrol
  | transfer
  | updateLock
  | debugUnlock
  | session (svc : Svc)
  | unlatch
  | installCert
  | tamperTrip
  | debugArmExpiry
  | sessionEnd (svc : Svc)
  | debugAccess (op : BusOp) (addr : Addr)
  -- field update
  | packageStage (svc : Svc) (pkg : List Byte)
  | updStaged
  | updCancel (who : Initiator) (value : Word32)
  | activate (who : Initiator) (svc : Svc) (value : Word32)
  | activationQuiesced
  | partStartCheck (pass : Bool)
  | porterUpdateCheck (forwarding : Bool)
  | confirm (who : Initiator) (value : Word32)
  | confirmWindowEnd
  | fallbackNow (who : Initiator) (value : Word32)
  | dbkArchive (on : Bool)
  | testStart (who : Initiator) (svc : Svc) (value : Word32)
  | testStop (who : Initiator) (svc : Svc) (value : Word32)
  | lbbWalkTest (who : Initiator) (value : Word32)
  | lbbWalkTestEnd (errors : Nat)
  -- power and environment
  | supplyInterruption (dv : BitVec 12)
  | supplyReturn (dv : BitVec 12)
  | holdupCharged (dv : BitVec 12)
  | holdupLow (dv : BitVec 12)
  | mateOpen
  | supplyReset
  | supplyOvervoltage (mv : BitVec 18)
  | overtemp (junction board : BitVec 8)
  | tempCritical (junction board : BitVec 8)
  | thermalReset
  | lampTest (who : Initiator) (value : Word32)
  | lampTestEnd
  | identify (who : Initiator) (value : Word32)
  | discoveryWindow
  | changeSetReceived (set : List Byte)
  | porterResetEnd (s : Side)
  | thermalResetRelease
  | hardwareResetLevel
  | fackReleased
  | readbackMatch (c : Chan)
  | invalidCleared (c : Chan)
  | testFrameReceived (lane : Fin 2) (isEcho : Bool) (bitErrors : Nat)
  deriving DecidableEq, Repr

end Sys2Proof
end

