-- ==== Sys2Proof/Machine/RegMap.lean ====
section
/-!
DEFINITION. The register map: every field of every register of the index of R630, with its word offset from
0x01_0000_0000, its bits, its access type and its reset value, as the rule named beside each field gives them.
-/

namespace Sys2Proof

/-- Access types of R12. -/
inductive Access where
  | ro | rw | w1c | w1s | wo | tx | live | rwl
  deriving DecidableEq, Repr

/-- One register field. The word of instance `i, j` lies at `off + s1 * i + s2 * j` from 0x01_0000_0000. -/
structure Fld where
  off : Nat
  s1 : Nat
  s2 : Nat
  lo : Nat
  width : Nat
  acc : Access
  reset : Nat
  deriving DecidableEq, Repr

/-- The place of a field instance in the field store: its bit address in the register region. -/
def Fld.key (f : Fld) (i j : Nat) : Nat := 32 * (f.off + f.s1 * i + f.s2 * j) + f.lo

/-- One register: its words `off + s1 * i + s2 * j` for `i < n1`, `j < n2`, and its fields. -/
structure RegRow where
  off : Nat
  s1 : Nat
  n1 : Nat
  s2 : Nat
  n2 : Nat
  flds : List Fld
  deriving DecidableEq, Repr

namespace Reg

/-- SYS_ID.FAMILY [31:16], R627. -/
def SYS_ID_FAMILY : Fld := ⟨0x0, 0x0, 0x0, 16, 16, .ro, 0xf93⟩
/-- SYS_ID.VARIANT [15:0], R627. -/
def SYS_ID_VARIANT : Fld := ⟨0x0, 0x0, 0x0, 0, 16, .ro, 0x3150⟩
/-- SYS_HWREV.REV [7:0], R628. -/
def SYS_HWREV_REV : Fld := ⟨0x4, 0x0, 0x0, 0, 8, .ro, 0x1⟩
/-- SYS_SERIAL_LO.SERIAL_LO [31:0], R629. -/
def SYS_SERIAL_LO_SERIAL_LO : Fld := ⟨0x8, 0x0, 0x0, 0, 32, .ro, 0x0⟩
/-- SYS_SERIAL_HI.SERIAL_HI [31:0], R629. -/
def SYS_SERIAL_HI_SERIAL_HI : Fld := ⟨0xc, 0x0, 0x0, 0, 32, .ro, 0x0⟩
/-- SYS_PROFILE.TWIN_POS [9:8], R562. -/
def SYS_PROFILE_TWIN_POS : Fld := ⟨0x10, 0x0, 0x0, 8, 2, .rwl, 0x0⟩
/-- SYS_PROFILE.PAIR2_MODE [6], R562. -/
def SYS_PROFILE_PAIR2_MODE : Fld := ⟨0x10, 0x0, 0x0, 6, 1, .rwl, 0x0⟩
/-- SYS_PROFILE.PAIR1_MODE [5], R562. -/
def SYS_PROFILE_PAIR1_MODE : Fld := ⟨0x10, 0x0, 0x0, 5, 1, .rwl, 0x0⟩
/-- SYS_PROFILE.PAIR0_MODE [4], R562. -/
def SYS_PROFILE_PAIR0_MODE : Fld := ⟨0x10, 0x0, 0x0, 4, 1, .rwl, 0x0⟩
/-- SYS_PROFILE.PROFILE [0], R562. -/
def SYS_PROFILE_PROFILE : Fld := ⟨0x10, 0x0, 0x0, 0, 1, .rwl, 0x0⟩
/-- SYS_STATE.ROLE [10:8], R562. -/
def SYS_STATE_ROLE : Fld := ⟨0x14, 0x0, 0x0, 8, 3, .ro, 0x0⟩
/-- SYS_STATE.SAFE_LATCH [7], R562. -/
def SYS_STATE_SAFE_LATCH : Fld := ⟨0x14, 0x0, 0x0, 7, 1, .ro, 0x0⟩
/-- SYS_STATE.TRIAL [6], R562. -/
def SYS_STATE_TRIAL : Fld := ⟨0x14, 0x0, 0x0, 6, 1, .ro, 0x0⟩
/-- SYS_STATE.LOCKSTEP_BROKEN [5], R562. -/
def SYS_STATE_LOCKSTEP_BROKEN : Fld := ⟨0x14, 0x0, 0x0, 5, 1, .ro, 0x0⟩
/-- SYS_STATE.ORPHAN_FORCE [4], R562. -/
def SYS_STATE_ORPHAN_FORCE : Fld := ⟨0x14, 0x0, 0x0, 4, 1, .ro, 0x0⟩
/-- SYS_STATE.FORCED [3], R562. -/
def SYS_STATE_FORCED : Fld := ⟨0x14, 0x0, 0x0, 3, 1, .ro, 0x0⟩
/-- SYS_STATE.STATE [2:0], R562. -/
def SYS_STATE_STATE : Fld := ⟨0x14, 0x0, 0x0, 0, 3, .ro, 0x0⟩
/-- SYS_RESET_CAUSE.THERMAL [4], R562. -/
def SYS_RESET_CAUSE_THERMAL : Fld := ⟨0x18, 0x0, 0x0, 4, 1, .ro, 0x0⟩
/-- SYS_RESET_CAUSE.UPDATE [3], R562. -/
def SYS_RESET_CAUSE_UPDATE : Fld := ⟨0x18, 0x0, 0x0, 3, 1, .ro, 0x0⟩
/-- SYS_RESET_CAUSE.CMD [2], R562. -/
def SYS_RESET_CAUSE_CMD : Fld := ⟨0x18, 0x0, 0x0, 2, 1, .ro, 0x0⟩
/-- SYS_RESET_CAUSE.SUPPLY_LOW [1], R562. -/
def SYS_RESET_CAUSE_SUPPLY_LOW : Fld := ⟨0x18, 0x0, 0x0, 1, 1, .ro, 0x0⟩
/-- SYS_RESET_CAUSE.POWER_ON [0], R562. -/
def SYS_RESET_CAUSE_POWER_ON : Fld := ⟨0x18, 0x0, 0x0, 0, 1, .ro, 0x1⟩
/-- SYS_SUPPLY_MV.MV [17:0], R619. -/
def SYS_SUPPLY_MV_MV : Fld := ⟨0x20, 0x0, 0x0, 0, 18, .ro, 0x0⟩
/-- SYS_HOLDUP.BANK_DV [31:20], R619. -/
def SYS_HOLDUP_BANK_DV : Fld := ⟨0x24, 0x0, 0x0, 20, 12, .ro, 0x0⟩
/-- SYS_HOLDUP.CAP_10UF [19:12], R619. -/
def SYS_HOLDUP_CAP_10UF : Fld := ⟨0x24, 0x0, 0x0, 12, 8, .ro, 0x0⟩
/-- SYS_HOLDUP.INTERRUPTIONS [11:4], R619. -/
def SYS_HOLDUP_INTERRUPTIONS : Fld := ⟨0x24, 0x0, 0x0, 4, 8, .ro, 0x0⟩
/-- SYS_HOLDUP.DEGRADED [3], R619. -/
def SYS_HOLDUP_DEGRADED : Fld := ⟨0x24, 0x0, 0x0, 3, 1, .ro, 0x0⟩
/-- SYS_HOLDUP.STATE [2:0], R619. -/
def SYS_HOLDUP_STATE : Fld := ⟨0x24, 0x0, 0x0, 0, 3, .ro, 0x0⟩
/-- SYS_MOTION.VALUE [31:16], R596. -/
def SYS_MOTION_VALUE : Fld := ⟨0x30, 0x0, 0x0, 16, 16, .ro, 0x0⟩
/-- SYS_MOTION.INVALID [3], R596. -/
def SYS_MOTION_INVALID : Fld := ⟨0x30, 0x0, 0x0, 3, 1, .ro, 0x0⟩
/-- SYS_MOTION.MOVING [2], R596. -/
def SYS_MOTION_MOVING : Fld := ⟨0x30, 0x0, 0x0, 2, 1, .ro, 0x1⟩
/-- SYS_MOTION.KIND [1:0], R596. -/
def SYS_MOTION_KIND : Fld := ⟨0x30, 0x0, 0x0, 0, 2, .ro, 0x0⟩
/-- SYS_LED.LAMP_TEST [31], R619. -/
def SYS_LED_LAMP_TEST : Fld := ⟨0x40, 0x0, 0x0, 31, 1, .w1s, 0x0⟩
/-- SYS_LED.IDENTIFY [30], R619. -/
def SYS_LED_IDENTIFY : Fld := ⟨0x40, 0x0, 0x0, 30, 1, .rw, 0x0⟩
/-- SYS_LED.NETB [15:14], R619. -/
def SYS_LED_NETB : Fld := ⟨0x40, 0x0, 0x0, 14, 2, .ro, 0x0⟩
/-- SYS_LED.NETA [13:12], R619. -/
def SYS_LED_NETA : Fld := ⟨0x40, 0x0, 0x0, 12, 2, .ro, 0x0⟩
/-- SYS_LED.TWIN [11:10], R619. -/
def SYS_LED_TWIN : Fld := ⟨0x40, 0x0, 0x0, 10, 2, .ro, 0x0⟩
/-- SYS_LED.DEBUG [9:8], R619. -/
def SYS_LED_DEBUG : Fld := ⟨0x40, 0x0, 0x0, 8, 2, .ro, 0x0⟩
/-- SYS_LED.FORCE [7:6], R619. -/
def SYS_LED_FORCE : Fld := ⟨0x40, 0x0, 0x0, 6, 2, .ro, 0x0⟩
/-- SYS_LED.FAULT [5:4], R619. -/
def SYS_LED_FAULT : Fld := ⟨0x40, 0x0, 0x0, 4, 2, .ro, 0x0⟩
/-- SYS_LED.RUN [3:2], R619. -/
def SYS_LED_RUN : Fld := ⟨0x40, 0x0, 0x0, 2, 2, .ro, 0x0⟩
/-- SYS_LED.PWR [1:0], R619. -/
def SYS_LED_PWR : Fld := ⟨0x40, 0x0, 0x0, 0, 2, .ro, 0x2⟩
/-- SYS_TXN_USE.POOL_FREE [29:24], R23. -/
def SYS_TXN_USE_POOL_FREE : Fld := ⟨0x400, 0x0, 0x0, 24, 6, .ro, 0x24⟩
/-- SYS_TXN_USE.PAIR2 [22:16], R23. -/
def SYS_TXN_USE_PAIR2 : Fld := ⟨0x400, 0x0, 0x0, 16, 7, .ro, 0x0⟩
/-- SYS_TXN_USE.PAIR1 [14:8], R23. -/
def SYS_TXN_USE_PAIR1 : Fld := ⟨0x400, 0x0, 0x0, 8, 7, .ro, 0x0⟩
/-- SYS_TXN_USE.PAIR0 [6:0], R23. -/
def SYS_TXN_USE_PAIR0 : Fld := ⟨0x400, 0x0, 0x0, 0, 7, .ro, 0x0⟩
/-- SYS_TXN_PEAK.CLR [31], R24. -/
def SYS_TXN_PEAK_CLR : Fld := ⟨0x404, 0x0, 0x0, 31, 1, .wo, 0x0⟩
/-- SYS_TXN_PEAK.POOL_MIN [29:24], R24. -/
def SYS_TXN_PEAK_POOL_MIN : Fld := ⟨0x404, 0x0, 0x0, 24, 6, .ro, 0x24⟩
/-- SYS_TXN_PEAK.PAIR2 [22:16], R24. -/
def SYS_TXN_PEAK_PAIR2 : Fld := ⟨0x404, 0x0, 0x0, 16, 7, .ro, 0x0⟩
/-- SYS_TXN_PEAK.PAIR1 [14:8], R24. -/
def SYS_TXN_PEAK_PAIR1 : Fld := ⟨0x404, 0x0, 0x0, 8, 7, .ro, 0x0⟩
/-- SYS_TXN_PEAK.PAIR0 [6:0], R24. -/
def SYS_TXN_PEAK_PAIR0 : Fld := ⟨0x404, 0x0, 0x0, 0, 7, .ro, 0x0⟩
/-- SYS_FABRIC_ERR.DRAM_UE [7], R25. -/
def SYS_FABRIC_ERR_DRAM_UE : Fld := ⟨0x408, 0x0, 0x0, 7, 1, .w1c, 0x0⟩
/-- SYS_FABRIC_ERR.DRAM_CE [6], R25. -/
def SYS_FABRIC_ERR_DRAM_CE : Fld := ⟨0x408, 0x0, 0x0, 6, 1, .w1c, 0x0⟩
/-- SYS_FABRIC_ERR.SRAM_UE [5], R25. -/
def SYS_FABRIC_ERR_SRAM_UE : Fld := ⟨0x408, 0x0, 0x0, 5, 1, .w1c, 0x0⟩
/-- SYS_FABRIC_ERR.SRAM_CE [4], R25. -/
def SYS_FABRIC_ERR_SRAM_CE : Fld := ⟨0x408, 0x0, 0x0, 4, 1, .w1c, 0x0⟩
/-- SYS_FABRIC_ERR.DECODE_ERROR [3], R25. -/
def SYS_FABRIC_ERR_DECODE_ERROR : Fld := ⟨0x408, 0x0, 0x0, 3, 1, .w1c, 0x0⟩
/-- SYS_FABRIC_ERR.CREDIT_ERROR [2], R25. -/
def SYS_FABRIC_ERR_CREDIT_ERROR : Fld := ⟨0x408, 0x0, 0x0, 2, 1, .w1c, 0x0⟩
/-- SYS_FABRIC_ERR.CROSSING_PARITY [1], R25. -/
def SYS_FABRIC_ERR_CROSSING_PARITY : Fld := ⟨0x408, 0x0, 0x0, 1, 1, .w1c, 0x0⟩
/-- SYS_FABRIC_ERR.TXN_TIMEOUT [0], R25. -/
def SYS_FABRIC_ERR_TXN_TIMEOUT : Fld := ⟨0x408, 0x0, 0x0, 0, 1, .w1c, 0x0⟩
/-- SYS_CMD.RESET [16], R562. -/
def SYS_CMD_RESET : Fld := ⟨0x40c, 0x0, 0x0, 16, 1, .wo, 0x0⟩
/-- SYS_CMD.KEY [15:0], R562. -/
def SYS_CMD_KEY : Fld := ⟨0x40c, 0x0, 0x0, 0, 16, .wo, 0x0⟩
/-- SYS_SUPPLY_MIN.MV [15:0], R596. -/
def SYS_SUPPLY_MIN_MV : Fld := ⟨0x410, 0x0, 0x0, 0, 16, .ro, 0x5460⟩
/-- SYS_TEMP.PEAK_C [31:24], R619. -/
def SYS_TEMP_PEAK_C : Fld := ⟨0x414, 0x0, 0x0, 24, 8, .ro, 0x0⟩
/-- SYS_TEMP.BOARD_C [23:16], R619. -/
def SYS_TEMP_BOARD_C : Fld := ⟨0x414, 0x0, 0x0, 16, 8, .ro, 0x0⟩
/-- SYS_TEMP.JUNCTION_C [15:8], R619. -/
def SYS_TEMP_JUNCTION_C : Fld := ⟨0x414, 0x0, 0x0, 8, 8, .ro, 0x0⟩
/-- TIM_SEC_HI.SEC_HI [15:0], R527. -/
def TIM_SEC_HI_SEC_HI : Fld := ⟨0x10000, 0x0, 0x0, 0, 16, .ro, 0x0⟩
/-- TIM_SEC_LO.SEC_LO [31:0], R527. -/
def TIM_SEC_LO_SEC_LO : Fld := ⟨0x10004, 0x0, 0x0, 0, 32, .ro, 0x0⟩
/-- TIM_NS.NS [29:0], R527. -/
def TIM_NS_NS : Fld := ⟨0x10008, 0x0, 0x0, 0, 30, .ro, 0x0⟩
/-- TIM_CTL.SOURCE [2], R528. -/
def TIM_CTL_SOURCE : Fld := ⟨0x1000c, 0x0, 0x0, 2, 1, .live, 0x1⟩
/-- TIM_CTL.VALID [1], R528. -/
def TIM_CTL_VALID : Fld := ⟨0x1000c, 0x0, 0x0, 1, 1, .ro, 0x0⟩
/-- TIM_CTL.STEP [0], R528. -/
def TIM_CTL_STEP : Fld := ⟨0x1000c, 0x0, 0x0, 0, 1, .w1s, 0x0⟩
/-- TIM_STEP_SEC_HI.SEC_HI [15:0], R527. -/
def TIM_STEP_SEC_HI_SEC_HI : Fld := ⟨0x10010, 0x0, 0x0, 0, 16, .rw, 0x0⟩
/-- TIM_STEP_SEC_LO.SEC_LO [31:0], R527. -/
def TIM_STEP_SEC_LO_SEC_LO : Fld := ⟨0x10014, 0x0, 0x0, 0, 32, .rw, 0x0⟩
/-- TIM_STEP_NS.NS [29:0], R527. -/
def TIM_STEP_NS_NS : Fld := ⟨0x10018, 0x0, 0x0, 0, 30, .rw, 0x0⟩
/-- TIM_RATE_PPB.PPB [31:0], R528. -/
def TIM_RATE_PPB_PPB : Fld := ⟨0x10020, 0x0, 0x0, 0, 32, .live, 0x0⟩
/-- TIM_UTC_OFFSET.OFFSET [15:0], R528. -/
def TIM_UTC_OFFSET_OFFSET : Fld := ⟨0x10024, 0x0, 0x0, 0, 16, .live, 0x0⟩
/-- TIM_MONO_LO.MONO_LO [31:0], R527. -/
def TIM_MONO_LO_MONO_LO : Fld := ⟨0x10030, 0x0, 0x0, 0, 32, .ro, 0x0⟩
/-- TIM_MONO_HI.MONO_HI [31:0], R527. -/
def TIM_MONO_HI_MONO_HI : Fld := ⟨0x10034, 0x0, 0x0, 0, 32, .ro, 0x0⟩
/-- SCL_CTL.RECOVER_COUNT [15:8], R101. -/
def SCL_CTL_RECOVER_COUNT : Fld := ⟨0x30000, 0x0, 0x0, 8, 8, .tx, 0x10⟩
/-- SCL_CTL.RESYNC_LIMIT [3:0], R101. -/
def SCL_CTL_RESYNC_LIMIT : Fld := ⟨0x30000, 0x0, 0x0, 0, 4, .tx, 0x3⟩
/-- SCL_STATUS.RESYNCS2 [27:24], R102. -/
def SCL_STATUS_RESYNCS2 : Fld := ⟨0x30004, 0x0, 0x0, 24, 4, .ro, 0x0⟩
/-- SCL_STATUS.RESYNCS1 [23:20], R102. -/
def SCL_STATUS_RESYNCS1 : Fld := ⟨0x30004, 0x0, 0x0, 20, 4, .ro, 0x0⟩
/-- SCL_STATUS.RESYNCS0 [19:16], R102. -/
def SCL_STATUS_RESYNCS0 : Fld := ⟨0x30004, 0x0, 0x0, 16, 4, .ro, 0x0⟩
/-- SCL_STATUS.VOTERS [11:10], R102. -/
def SCL_STATUS_VOTERS : Fld := ⟨0x30004, 0x0, 0x0, 10, 2, .ro, 0x0⟩
/-- SCL_STATUS.TRIAD [9], R102. -/
def SCL_STATUS_TRIAD : Fld := ⟨0x30004, 0x0, 0x0, 9, 1, .ro, 0x0⟩
/-- SCL_STATUS.PAIR2_VSTATE [8:6], R102. -/
def SCL_STATUS_PAIR2_VSTATE : Fld := ⟨0x30004, 0x0, 0x0, 6, 3, .ro, 0x0⟩
/-- SCL_STATUS.PAIR1_VSTATE [5:3], R102. -/
def SCL_STATUS_PAIR1_VSTATE : Fld := ⟨0x30004, 0x0, 0x0, 3, 3, .ro, 0x0⟩
/-- SCL_STATUS.PAIR0_VSTATE [2:0], R102. -/
def SCL_STATUS_PAIR0_VSTATE : Fld := ⟨0x30004, 0x0, 0x0, 0, 3, .ro, 0x0⟩
/-- SCL_SKEW.MAX_US [28:16], R103. -/
def SCL_SKEW_MAX_US : Fld := ⟨0x30008, 0x0, 0x0, 16, 13, .tx, 0x1388⟩
/-- SCL_SKEW.PERCENT [6:0], R103. -/
def SCL_SKEW_PERCENT : Fld := ⟨0x30008, 0x0, 0x0, 0, 7, .tx, 0x14⟩
/-- SCL_SKEW_EVENT.EVENT_US [12:0], R105. -/
def SCL_SKEW_EVENT_EVENT_US : Fld := ⟨0x30400, 0x0, 0x0, 0, 13, .tx, 0x3e8⟩
/-- SCL_LAST_VOTE.LATE [20:18], R108. -/
def SCL_LAST_VOTE_LATE : Fld := ⟨0x30430, 0x0, 0x0, 18, 3, .ro, 0x0⟩
/-- SCL_LAST_VOTE.DISAGREE [17:15], R108. -/
def SCL_LAST_VOTE_DISAGREE : Fld := ⟨0x30430, 0x0, 0x0, 15, 3, .ro, 0x0⟩
/-- SCL_LAST_VOTE.AGREE [14:12], R108. -/
def SCL_LAST_VOTE_AGREE : Fld := ⟨0x30430, 0x0, 0x0, 12, 3, .ro, 0x0⟩
/-- SCL_LAST_VOTE.RELEASED [11], R108. -/
def SCL_LAST_VOTE_RELEASED : Fld := ⟨0x30430, 0x0, 0x0, 11, 1, .ro, 0x0⟩
/-- SCL_LAST_VOTE.SOURCE [9:8], R108. -/
def SCL_LAST_VOTE_SOURCE : Fld := ⟨0x30430, 0x0, 0x0, 8, 2, .ro, 0x0⟩
/-- SCL_LAST_VOTE.TASK [5:0], R108. -/
def SCL_LAST_VOTE_TASK : Fld := ⟨0x30430, 0x0, 0x0, 0, 6, .ro, 0x0⟩
/-- TASK_CTL.FORCE_BATCH [12:8], R153. -/
def TASK_CTL_FORCE_BATCH : Fld := ⟨0x40000, 0x0, 0x0, 8, 5, .tx, 0x4⟩
/-- TASK_CTL.LATCH_FORCE_FLAG [1], R153. -/
def TASK_CTL_LATCH_FORCE_FLAG : Fld := ⟨0x40000, 0x0, 0x0, 1, 1, .tx, 0x1⟩
/-- TASK_CTL.BUDGET_CHECK [0], R153. -/
def TASK_CTL_BUDGET_CHECK : Fld := ⟨0x40000, 0x0, 0x0, 0, 1, .tx, 0x1⟩
/-- TASK_TABLE_BASE.OFFSET [21:4], R154. -/
def TASK_TABLE_BASE_OFFSET : Fld := ⟨0x40004, 0x0, 0x0, 4, 18, .tx, 0x0⟩
/-- TASK_STATUS.FORCES [26:16], R155. -/
def TASK_STATUS_FORCES : Fld := ⟨0x40008, 0x0, 0x0, 16, 11, .ro, 0x0⟩
/-- TASK_STATUS.ORPHAN [5], R155. -/
def TASK_STATUS_ORPHAN : Fld := ⟨0x40008, 0x0, 0x0, 5, 1, .ro, 0x0⟩
/-- TASK_STATUS.FORCED [4], R155. -/
def TASK_STATUS_FORCED : Fld := ⟨0x40008, 0x0, 0x0, 4, 1, .ro, 0x0⟩
/-- TASK_STATUS.TABLE_PENDING [3], R155. -/
def TASK_STATUS_TABLE_PENDING : Fld := ⟨0x40008, 0x0, 0x0, 3, 1, .ro, 0x0⟩
/-- TASK_STATUS.STATE [2:0], R155. -/
def TASK_STATUS_STATE : Fld := ⟨0x40008, 0x0, 0x0, 0, 3, .ro, 0x0⟩
/-- TASK_FORCE_Q.OFFSET [28:5], R161. -/
def TASK_FORCE_Q_OFFSET : Fld := ⟨0x40400, 0x0, 0x0, 5, 24, .rwl, 0x0⟩
/-- TASK_FORCE_LAST.SEQ [31:0], R162. -/
def TASK_FORCE_LAST_SEQ : Fld := ⟨0x40404, 0x0, 0x0, 0, 32, .ro, 0x0⟩
/-- TASK_CHG_Q.OFFSET [28:6], R228. -/
def TASK_CHG_Q_OFFSET : Fld := ⟨0x40408, 0x0, 0x0, 6, 23, .rwl, 0x0⟩
/-- TASK_CHG_STATUS.POSTPONED [31:24], R229. -/
def TASK_CHG_STATUS_POSTPONED : Fld := ⟨0x4040c, 0x0, 0x0, 24, 8, .ro, 0x0⟩
/-- TASK_CHG_STATUS.REFUSE [23:16], R229. -/
def TASK_CHG_STATUS_REFUSE : Fld := ⟨0x4040c, 0x0, 0x0, 16, 8, .ro, 0x0⟩
/-- TASK_CHG_STATUS.RESULT [10:8], R229. -/
def TASK_CHG_STATUS_RESULT : Fld := ⟨0x4040c, 0x0, 0x0, 8, 3, .ro, 0x0⟩
/-- TASK_CHG_STATUS.PAIRS [7:5], R229. -/
def TASK_CHG_STATUS_PAIRS : Fld := ⟨0x4040c, 0x0, 0x0, 5, 3, .ro, 0x0⟩
/-- TASK_CHG_STATUS.STATE [2:0], R229. -/
def TASK_CHG_STATUS_STATE : Fld := ⟨0x4040c, 0x0, 0x0, 0, 3, .ro, 0x0⟩
/-- TASK_CHG_CYCLE.CYCLE [31:0], R230. -/
def TASK_CHG_CYCLE_CYCLE : Fld := ⟨0x40410, 0x0, 0x0, 0, 32, .ro, 0x0⟩
/-- LGR_CTL.COLD_START [1], R194. -/
def LGR_CTL_COLD_START : Fld := ⟨0x50000, 0x0, 0x0, 1, 1, .wo, 0x0⟩
/-- LGR_CTL.MIRROR_EN [0], R194. -/
def LGR_CTL_MIRROR_EN : Fld := ⟨0x50000, 0x0, 0x0, 0, 1, .tx, 0x0⟩
/-- LGR_STATUS.BACKLOG [15:8], R195. -/
def LGR_STATUS_BACKLOG : Fld := ⟨0x50004, 0x0, 0x0, 8, 8, .ro, 0x0⟩
/-- LGR_STATUS.COLD [6], R195. -/
def LGR_STATUS_COLD : Fld := ⟨0x50004, 0x0, 0x0, 6, 1, .ro, 0x0⟩
/-- LGR_STATUS.HELD [5], R195. -/
def LGR_STATUS_HELD : Fld := ⟨0x50004, 0x0, 0x0, 5, 1, .ro, 0x0⟩
/-- LGR_STATUS.MIRROR [4:3], R195. -/
def LGR_STATUS_MIRROR : Fld := ⟨0x50004, 0x0, 0x0, 3, 2, .ro, 0x0⟩
/-- LGR_STATUS.STATE [2:0], R195. -/
def LGR_STATUS_STATE : Fld := ⟨0x50004, 0x0, 0x0, 0, 3, .ro, 0x0⟩
/-- LGR_SLOT.HELD_SLOT [6:4], R196. -/
def LGR_SLOT_HELD_SLOT : Fld := ⟨0x50008, 0x0, 0x0, 4, 3, .ro, 0x0⟩
/-- LGR_SLOT.SLOT [2:0], R196. -/
def LGR_SLOT_SLOT : Fld := ⟨0x50008, 0x0, 0x0, 0, 3, .ro, 0x0⟩
/-- LGR_COMMITS_LO.COMMIT_LO [31:0], R197. -/
def LGR_COMMITS_LO_COMMIT_LO : Fld := ⟨0x5000c, 0x0, 0x0, 0, 32, .ro, 0x0⟩
/-- LGR_COMMITS_HI.COMMIT_HI [31:0], R197. -/
def LGR_COMMITS_HI_COMMIT_HI : Fld := ⟨0x50010, 0x0, 0x0, 0, 32, .ro, 0x0⟩
/-- LGR_MIRROR_LAG.CLR [31], R198. -/
def LGR_MIRROR_LAG_CLR : Fld := ⟨0x50014, 0x0, 0x0, 31, 1, .wo, 0x0⟩
/-- LGR_MIRROR_LAG.PEAK [15:8], R198. -/
def LGR_MIRROR_LAG_PEAK : Fld := ⟨0x50014, 0x0, 0x0, 8, 8, .ro, 0x0⟩
/-- LGR_MIRROR_LAG.LAG [7:0], R198. -/
def LGR_MIRROR_LAG_LAG : Fld := ⟨0x50014, 0x0, 0x0, 0, 8, .ro, 0x0⟩
/-- LGR_COMMIT_TIME.CLR [31], R199. -/
def LGR_COMMIT_TIME_CLR : Fld := ⟨0x50400, 0x0, 0x0, 31, 1, .wo, 0x0⟩
/-- LGR_COMMIT_TIME.PEAK_US [30:16], R199. -/
def LGR_COMMIT_TIME_PEAK_US : Fld := ⟨0x50400, 0x0, 0x0, 16, 15, .ro, 0x0⟩
/-- LGR_COMMIT_TIME.LAST_US [15:0], R199. -/
def LGR_COMMIT_TIME_LAST_US : Fld := ⟨0x50400, 0x0, 0x0, 0, 16, .ro, 0x0⟩
/-- LGR_COMMIT_SIZE.PEAK_GRANULES [28:16], R200. -/
def LGR_COMMIT_SIZE_PEAK_GRANULES : Fld := ⟨0x50404, 0x0, 0x0, 16, 13, .ro, 0x0⟩
/-- LGR_COMMIT_SIZE.LAST_GRANULES [12:0], R200. -/
def LGR_COMMIT_SIZE_LAST_GRANULES : Fld := ⟨0x50404, 0x0, 0x0, 0, 13, .ro, 0x0⟩
/-- LGR_MIGRATE_TIME.CLR [31], R231. -/
def LGR_MIGRATE_TIME_CLR : Fld := ⟨0x50408, 0x0, 0x0, 31, 1, .wo, 0x0⟩
/-- LGR_MIGRATE_TIME.PEAK_US [30:16], R231. -/
def LGR_MIGRATE_TIME_PEAK_US : Fld := ⟨0x50408, 0x0, 0x0, 16, 15, .ro, 0x0⟩
/-- LGR_MIGRATE_TIME.LAST_US [15:0], R231. -/
def LGR_MIGRATE_TIME_LAST_US : Fld := ⟨0x50408, 0x0, 0x0, 0, 16, .ro, 0x0⟩
/-- CYC_CTL.RETURN [5], R270. -/
def CYC_CTL_RETURN : Fld := ⟨0x60000, 0x0, 0x0, 5, 1, .w1s, 0x0⟩
/-- CYC_CTL.FORCE_FALLBACK [4:3], R270. -/
def CYC_CTL_FORCE_FALLBACK : Fld := ⟨0x60000, 0x0, 0x0, 3, 2, .tx, 0x0⟩
/-- CYC_CTL.AUTO_RETURN [2], R270. -/
def CYC_CTL_AUTO_RETURN : Fld := ⟨0x60000, 0x0, 0x0, 2, 1, .tx, 0x1⟩
/-- CYC_CTL.CH_B_EN [1], R270. -/
def CYC_CTL_CH_B_EN : Fld := ⟨0x60000, 0x0, 0x0, 1, 1, .tx, 0x1⟩
/-- CYC_CTL.CH_A_EN [0], R270. -/
def CYC_CTL_CH_A_EN : Fld := ⟨0x60000, 0x0, 0x0, 0, 1, .tx, 0x1⟩
/-- CYC_STATUS.ADMITTED [26:16], R271. -/
def CYC_STATUS_ADMITTED : Fld := ⟨0x60004, 0x0, 0x0, 16, 11, .ro, 0x0⟩
/-- CYC_STATUS.TIME_LEADER [9], R271. -/
def CYC_STATUS_TIME_LEADER : Fld := ⟨0x60004, 0x0, 0x0, 9, 1, .ro, 0x0⟩
/-- CYC_STATUS.SYNC_LOCKED [8], R271. -/
def CYC_STATUS_SYNC_LOCKED : Fld := ⟨0x60004, 0x0, 0x0, 8, 1, .ro, 0x0⟩
/-- CYC_STATUS.ANNOUNCED [7], R271. -/
def CYC_STATUS_ANNOUNCED : Fld := ⟨0x60004, 0x0, 0x0, 7, 1, .ro, 0x0⟩
/-- CYC_STATUS.FALLBACK [6:5], R271. -/
def CYC_STATUS_FALLBACK : Fld := ⟨0x60004, 0x0, 0x0, 5, 2, .ro, 0x0⟩
/-- CYC_STATUS.CH_B_OK [4], R271. -/
def CYC_STATUS_CH_B_OK : Fld := ⟨0x60004, 0x0, 0x0, 4, 1, .ro, 0x0⟩
/-- CYC_STATUS.CH_A_OK [3], R271. -/
def CYC_STATUS_CH_A_OK : Fld := ⟨0x60004, 0x0, 0x0, 3, 1, .ro, 0x0⟩
/-- CYC_STATUS.ROLE [2:0], R271. -/
def CYC_STATUS_ROLE : Fld := ⟨0x60004, 0x0, 0x0, 0, 3, .ro, 0x0⟩
/-- CYC_CYCLE.CYCLE [31:0], R272. -/
def CYC_CYCLE_CYCLE : Fld := ⟨0x60008, 0x0, 0x0, 0, 32, .ro, 0x0⟩
/-- CYC_SCHED_SELECT.PENDING [8], R273. -/
def CYC_SCHED_SELECT_PENDING : Fld := ⟨0x6000c, 0x0, 0x0, 8, 1, .ro, 0x0⟩
/-- CYC_SCHED_SELECT.CASE [4:0], R273. -/
def CYC_SCHED_SELECT_CASE : Fld := ⟨0x6000c, 0x0, 0x0, 0, 5, .live, 0x0⟩
/-- CYC_BC_US.US [15:0], R274. -/
def CYC_BC_US_US : Fld := ⟨0x60010, 0x0, 0x0, 0, 16, .rwl, 0x3e8⟩
/-- CYC_MACRO.COUNT [6:0], R275. -/
def CYC_MACRO_COUNT : Fld := ⟨0x60014, 0x0, 0x0, 0, 7, .rwl, 0x1⟩
/-- CYC_COMPOSITION.NEXT_KIND [15:14], R276. -/
def CYC_COMPOSITION_NEXT_KIND : Fld := ⟨0x60018, 0x0, 0x0, 14, 2, .ro, 0x0⟩
/-- CYC_COMPOSITION.NEXT_VALID [13], R276. -/
def CYC_COMPOSITION_NEXT_VALID : Fld := ⟨0x60018, 0x0, 0x0, 13, 1, .ro, 0x0⟩
/-- CYC_COMPOSITION.NEXT_CASE [12:8], R276. -/
def CYC_COMPOSITION_NEXT_CASE : Fld := ⟨0x60018, 0x0, 0x0, 8, 5, .ro, 0x0⟩
/-- CYC_COMPOSITION.BASELINE [5], R276. -/
def CYC_COMPOSITION_BASELINE : Fld := ⟨0x60018, 0x0, 0x0, 5, 1, .ro, 0x0⟩
/-- CYC_COMPOSITION.CASE [4:0], R276. -/
def CYC_COMPOSITION_CASE : Fld := ⟨0x60018, 0x0, 0x0, 0, 5, .ro, 0x0⟩
/-- CYC_NODE_TABLE_BASE.OFFSET [21:4], R277. -/
def CYC_NODE_TABLE_BASE_OFFSET : Fld := ⟨0x60020, 0x0, 0x0, 4, 18, .rwl, 0x0⟩
/-- CYC_SCHED_BASE.OFFSET [21:4], R278. -/
def CYC_SCHED_BASE_OFFSET : Fld := ⟨0x60400, 0x0, 0x0, 4, 18, .tx, 0x0⟩
/-- CYC_IOC_STATUS.TABLE_ID_LO [31:16], R279. -/
def CYC_IOC_STATUS_TABLE_ID_LO : Fld := ⟨0x60404, 0x0, 0x0, 16, 16, .ro, 0x0⟩
/-- CYC_IOC_STATUS.PENDING [1], R279. -/
def CYC_IOC_STATUS_PENDING : Fld := ⟨0x60404, 0x0, 0x0, 1, 1, .ro, 0x0⟩
/-- CYC_IOC_STATUS.ACTIVE_HALF [0], R279. -/
def CYC_IOC_STATUS_ACTIVE_HALF : Fld := ⟨0x60404, 0x0, 0x0, 0, 1, .ro, 0x0⟩
/-- CYC_FALLBACK_CFG.NODE_MISS_LIMIT [23:16], R280. -/
def CYC_FALLBACK_CFG_NODE_MISS_LIMIT : Fld := ⟨0x60408, 0x0, 0x0, 16, 8, .tx, 0x3⟩
/-- CYC_FALLBACK_CFG.RESTORE_MS [15:0], R280. -/
def CYC_FALLBACK_CFG_RESTORE_MS : Fld := ⟨0x60408, 0x0, 0x0, 0, 16, .tx, 0x3e8⟩
/-- CYC_NEXT_CYCLE.CYCLE [31:0], R281. -/
def CYC_NEXT_CYCLE_CYCLE : Fld := ⟨0x6040c, 0x0, 0x0, 0, 32, .ro, 0xffffffff⟩
/-- CYC_ADMIT_WAIT.MS [15:0], R282. -/
def CYC_ADMIT_WAIT_MS : Fld := ⟨0x60410, 0x0, 0x0, 0, 16, .tx, 0x7d0⟩
/-- CYC_SYNC.CORR_PEAK [31:16], R283. -/
def CYC_SYNC_CORR_PEAK : Fld := ⟨0x60414, 0x0, 0x0, 16, 16, .ro, 0x0⟩
/-- CYC_SYNC.PHASE_PEAK_NS [15:0], R283. -/
def CYC_SYNC_PHASE_PEAK_NS : Fld := ⟨0x60414, 0x0, 0x0, 0, 16, .ro, 0x0⟩
/-- CYC_MISSES.TOTAL [31:0], R284. -/
def CYC_MISSES_TOTAL : Fld := ⟨0x60418, 0x0, 0x0, 0, 32, .ro, 0x0⟩
/-- CYC_ERRORS.DCHK [31:16], R285. -/
def CYC_ERRORS_DCHK : Fld := ⟨0x6041c, 0x0, 0x0, 16, 16, .ro, 0x0⟩
/-- CYC_ERRORS.DISCARDS [15:0], R285. -/
def CYC_ERRORS_DISCARDS : Fld := ⟨0x6041c, 0x0, 0x0, 0, 16, .ro, 0x0⟩
/-- TWN_CTL.HB_LIMIT [11:8], R359. -/
def TWN_CTL_HB_LIMIT : Fld := ⟨0x80000, 0x0, 0x0, 8, 4, .tx, 0x3⟩
/-- TWN_CTL.STALE_TAKEOVER [3], R359. -/
def TWN_CTL_STALE_TAKEOVER : Fld := ⟨0x80000, 0x0, 0x0, 3, 1, .tx, 0x0⟩
/-- TWN_CTL.PRESTART [2], R359. -/
def TWN_CTL_PRESTART : Fld := ⟨0x80000, 0x0, 0x0, 2, 1, .tx, 0x0⟩
/-- TWN_CTL.SWAP [1], R359. -/
def TWN_CTL_SWAP : Fld := ⟨0x80000, 0x0, 0x0, 1, 1, .w1s, 0x0⟩
/-- TWN_STATUS.PEER_STATE [27:24], R360. -/
def TWN_STATUS_PEER_STATE : Fld := ⟨0x80004, 0x0, 0x0, 24, 4, .ro, 0x0⟩
/-- TWN_STATUS.CLAIMS [23:16], R360. -/
def TWN_STATUS_CLAIMS : Fld := ⟨0x80004, 0x0, 0x0, 16, 8, .ro, 0x0⟩
/-- TWN_STATUS.SWAP_REFUSE [15:12], R360. -/
def TWN_STATUS_SWAP_REFUSE : Fld := ⟨0x80004, 0x0, 0x0, 12, 4, .ro, 0x0⟩
/-- TWN_STATUS.CURRENT [10], R360. -/
def TWN_STATUS_CURRENT : Fld := ⟨0x80004, 0x0, 0x0, 10, 1, .ro, 0x0⟩
/-- TWN_STATUS.LANE1_OK [9], R360. -/
def TWN_STATUS_LANE1_OK : Fld := ⟨0x80004, 0x0, 0x0, 9, 1, .ro, 0x0⟩
/-- TWN_STATUS.LANE0_OK [8], R360. -/
def TWN_STATUS_LANE0_OK : Fld := ⟨0x80004, 0x0, 0x0, 8, 1, .ro, 0x0⟩
/-- TWN_STATUS.PEER_FCN [7], R360. -/
def TWN_STATUS_PEER_FCN : Fld := ⟨0x80004, 0x0, 0x0, 7, 1, .ro, 0x0⟩
/-- TWN_STATUS.LINK_LOST [6], R360. -/
def TWN_STATUS_LINK_LOST : Fld := ⟨0x80004, 0x0, 0x0, 6, 1, .ro, 0x0⟩
/-- TWN_STATUS.SYNC_LOST [5], R360. -/
def TWN_STATUS_SYNC_LOST : Fld := ⟨0x80004, 0x0, 0x0, 5, 1, .ro, 0x0⟩
/-- TWN_STATUS.PEER_PRESENT [4], R360. -/
def TWN_STATUS_PEER_PRESENT : Fld := ⟨0x80004, 0x0, 0x0, 4, 1, .ro, 0x0⟩
/-- TWN_STATUS.ROLE [2:0], R360. -/
def TWN_STATUS_ROLE : Fld := ⟨0x80004, 0x0, 0x0, 0, 3, .ro, 0x0⟩
/-- TWN_HEARTBEAT_AGE.FCN_AGE [31:16], R361. -/
def TWN_HEARTBEAT_AGE_FCN_AGE : Fld := ⟨0x80008, 0x0, 0x0, 16, 16, .ro, 0x0⟩
/-- TWN_HEARTBEAT_AGE.LINK_AGE [15:0], R361. -/
def TWN_HEARTBEAT_AGE_LINK_AGE : Fld := ⟨0x80008, 0x0, 0x0, 0, 16, .ro, 0x0⟩
/-- TWN_TAKEOVER.COUNT [31:24], R362. -/
def TWN_TAKEOVER_COUNT : Fld := ⟨0x80400, 0x0, 0x0, 24, 8, .ro, 0x0⟩
/-- TWN_TAKEOVER.PATH [23:20], R362. -/
def TWN_TAKEOVER_PATH : Fld := ⟨0x80400, 0x0, 0x0, 20, 4, .ro, 0x0⟩
/-- TWN_TAKEOVER.US [19:0], R362. -/
def TWN_TAKEOVER_US : Fld := ⟨0x80400, 0x0, 0x0, 0, 20, .ro, 0x0⟩
/-- GW_CTL.ENABLE [0], R439. -/
def GW_CTL_ENABLE : Fld := ⟨0xa0000, 0x0, 0x0, 0, 1, .tx, 0x0⟩
/-- GW_MAP_BASE.OFFSET [21:4], R440. -/
def GW_MAP_BASE_OFFSET : Fld := ⟨0xa0004, 0x0, 0x0, 4, 18, .tx, 0x0⟩
/-- GW_STATUS.PHASE_LATE [31:16], R441. -/
def GW_STATUS_PHASE_LATE : Fld := ⟨0xa0008, 0x0, 0x0, 16, 16, .ro, 0x0⟩
/-- GW_STATUS.PHASE [6:4], R441. -/
def GW_STATUS_PHASE : Fld := ⟨0xa0008, 0x0, 0x0, 4, 3, .ro, 0x0⟩
/-- GW_STATUS.TABLE_PENDING [3], R441. -/
def GW_STATUS_TABLE_PENDING : Fld := ⟨0xa0008, 0x0, 0x0, 3, 1, .ro, 0x0⟩
/-- GW_STATUS.STATE [2:0], R441. -/
def GW_STATUS_STATE : Fld := ⟨0xa0008, 0x0, 0x0, 0, 3, .ro, 0x0⟩
/-- GW_COUNTS.SATURATED [31:16], R442. -/
def GW_COUNTS_SATURATED : Fld := ⟨0xa0400, 0x0, 0x0, 16, 16, .ro, 0x0⟩
/-- GW_COUNTS.DEFAULTED [15:0], R442. -/
def GW_COUNTS_DEFAULTED : Fld := ⟨0xa0400, 0x0, 0x0, 0, 16, .ro, 0x0⟩
/-- LBB_CTL.REQ_POLL_EN [3], R443. -/
def LBB_CTL_REQ_POLL_EN : Fld := ⟨0xb0000, 0x0, 0x0, 3, 1, .tx, 0x0⟩
/-- LBB_CTL.INBOUND_EN [2], R443. -/
def LBB_CTL_INBOUND_EN : Fld := ⟨0xb0000, 0x0, 0x0, 2, 1, .tx, 0x0⟩
/-- LBB_CTL.GRANT_EN [1], R443. -/
def LBB_CTL_GRANT_EN : Fld := ⟨0xb0000, 0x0, 0x0, 1, 1, .tx, 0x0⟩
/-- LBB_CTL.ENABLE [0], R443. -/
def LBB_CTL_ENABLE : Fld := ⟨0xb0000, 0x0, 0x0, 0, 1, .tx, 0x0⟩
/-- LBB_STATUS.QUEUE [21:16], R444. -/
def LBB_STATUS_QUEUE : Fld := ⟨0xb0004, 0x0, 0x0, 16, 6, .ro, 0x0⟩
/-- LBB_STATUS.REQ [11:8], R444. -/
def LBB_STATUS_REQ : Fld := ⟨0xb0004, 0x0, 0x0, 8, 4, .ro, 0x0⟩
/-- LBB_STATUS.BR [4], R444. -/
def LBB_STATUS_BR : Fld := ⟨0xb0004, 0x0, 0x0, 4, 1, .ro, 0x0⟩
/-- LBB_STATUS.LOCKED [3], R444. -/
def LBB_STATUS_LOCKED : Fld := ⟨0xb0004, 0x0, 0x0, 3, 1, .ro, 0x0⟩
/-- LBB_STATUS.STATE [2:0], R444. -/
def LBB_STATUS_STATE : Fld := ⟨0xb0004, 0x0, 0x0, 0, 3, .ro, 0x0⟩
/-- LBB_TIMEOUT.HOLD_US [23:8], R445. -/
def LBB_TIMEOUT_HOLD_US : Fld := ⟨0xb0008, 0x0, 0x0, 8, 16, .tx, 0x32⟩
/-- LBB_TIMEOUT.ACCESS_US [4:0], R445. -/
def LBB_TIMEOUT_ACCESS_US : Fld := ⟨0xb0008, 0x0, 0x0, 0, 5, .tx, 0x14⟩
/-- LBB_IN_CFG.SIZEM1 [11:8], R447. -/
def LBB_IN_CFG_SIZEM1 : Fld := ⟨0xb0400, 0x0, 0x0, 8, 4, .tx, 0x0⟩
/-- LBB_IN_CFG.BASE [7:0], R447. -/
def LBB_IN_CFG_BASE : Fld := ⟨0xb0400, 0x0, 0x0, 0, 8, .tx, 0x0⟩
/-- LBB_IN_TARGET.TARGET [23:0], R448. -/
def LBB_IN_TARGET_TARGET : Fld := ⟨0xb0404, 0x0, 0x0, 0, 24, .tx, 0xd000⟩
/-- LBB_REQ.COUNT3 [31:24], R449. -/
def LBB_REQ_COUNT3 : Fld := ⟨0xb0408, 0x0, 0x0, 24, 8, .ro, 0x0⟩
/-- LBB_REQ.COUNT2 [23:16], R449. -/
def LBB_REQ_COUNT2 : Fld := ⟨0xb0408, 0x0, 0x0, 16, 8, .ro, 0x0⟩
/-- LBB_REQ.COUNT1 [15:8], R449. -/
def LBB_REQ_COUNT1 : Fld := ⟨0xb0408, 0x0, 0x0, 8, 8, .ro, 0x0⟩
/-- LBB_REQ.COUNT0 [7:0], R449. -/
def LBB_REQ_COUNT0 : Fld := ⟨0xb0408, 0x0, 0x0, 0, 8, .ro, 0x0⟩
/-- LBB_STATS.TIMEOUTS [31:16], R450. -/
def LBB_STATS_TIMEOUTS : Fld := ⟨0xb040c, 0x0, 0x0, 16, 16, .ro, 0x0⟩
/-- LBB_STATS.BACKOFFS [15:0], R450. -/
def LBB_STATS_BACKOFFS : Fld := ⟨0xb040c, 0x0, 0x0, 0, 16, .ro, 0x0⟩
/-- LBB_SAFE_BASE.OFFSET [21:4], R451. -/
def LBB_SAFE_BASE_OFFSET : Fld := ⟨0xb0410, 0x0, 0x0, 4, 18, .tx, 0x0⟩
/-- DIO_CTL.GROUP_CUT_EN [2], R477. -/
def DIO_CTL_GROUP_CUT_EN : Fld := ⟨0xc0000, 0x0, 0x0, 2, 1, .tx, 0x1⟩
/-- DIO_CTL.READBACK_EN [1], R477. -/
def DIO_CTL_READBACK_EN : Fld := ⟨0xc0000, 0x0, 0x0, 1, 1, .tx, 0x1⟩
/-- DIO_CTL.ENABLE [0], R477. -/
def DIO_CTL_ENABLE : Fld := ⟨0xc0000, 0x0, 0x0, 0, 1, .tx, 0x0⟩
/-- DIO_WDT.MS [9:0], R478. -/
def DIO_WDT_MS : Fld := ⟨0xc0004, 0x0, 0x0, 0, 10, .tx, 0x64⟩
/-- DIO_STATUS.WDT_EXPIRIES [31:16], R485. -/
def DIO_STATUS_WDT_EXPIRIES : Fld := ⟨0xc0400, 0x0, 0x0, 16, 16, .ro, 0x0⟩
/-- DIO_STATUS.LINK [3], R485. -/
def DIO_STATUS_LINK : Fld := ⟨0xc0400, 0x0, 0x0, 3, 1, .ro, 0x0⟩
/-- DIO_STATUS.STATE [2:0], R485. -/
def DIO_STATUS_STATE : Fld := ⟨0xc0400, 0x0, 0x0, 0, 3, .ro, 0x0⟩
/-- FC_CTL.RELEASE [1], R521. -/
def FC_CTL_RELEASE : Fld := ⟨0xd0000, 0x0, 0x0, 1, 1, .w1s, 0x0⟩
/-- FC_CTL.ACK [0], R521. -/
def FC_CTL_ACK : Fld := ⟨0xd0000, 0x0, 0x0, 0, 1, .w1s, 0x0⟩
/-- FC_INTAKE_LO.MSG_LO [31:0], R522. -/
def FC_INTAKE_LO_MSG_LO : Fld := ⟨0xd0004, 0x0, 0x0, 0, 32, .rw, 0x0⟩
/-- FC_INTAKE_HI.MSG_HI [31:0], R522. -/
def FC_INTAKE_HI_MSG_HI : Fld := ⟨0xd0008, 0x0, 0x0, 0, 32, .rw, 0x0⟩
/-- FC_OPEN.SOURCE [31:22], R523. -/
def FC_OPEN_SOURCE : Fld := ⟨0xd000c, 0x0, 0x0, 22, 10, .ro, 0x0⟩
/-- FC_OPEN.KIND [21:14], R523. -/
def FC_OPEN_KIND : Fld := ⟨0xd000c, 0x0, 0x0, 14, 8, .ro, 0x0⟩
/-- FC_OPEN.REACT [13:9], R523. -/
def FC_OPEN_REACT : Fld := ⟨0xd000c, 0x0, 0x0, 9, 5, .ro, 0x0⟩
/-- FC_OPEN.CLASS [2:1], R523. -/
def FC_OPEN_CLASS : Fld := ⟨0xd000c, 0x0, 0x0, 1, 2, .ro, 0x0⟩
/-- FC_OPEN.OPEN [0], R523. -/
def FC_OPEN_OPEN : Fld := ⟨0xd000c, 0x0, 0x0, 0, 1, .ro, 0x0⟩
/-- FC_MERGE_COUNT.COUNT [15:0], R524. -/
def FC_MERGE_COUNT_COUNT : Fld := ⟨0xd0010, 0x0, 0x0, 0, 16, .ro, 0x0⟩
/-- FC_CLASS_TABLE.OFFSET [21:4], R524. -/
def FC_CLASS_TABLE_OFFSET : Fld := ⟨0xd0100, 0x0, 0x0, 4, 18, .tx, 0x0⟩
/-- FC_MERGE_MAP.MAP [31:0], R524. -/
def FC_MERGE_MAP_MAP : Fld := ⟨0xd0400, 0x0, 0x0, 0, 32, .ro, 0x0⟩
/-- FC_STATUS.ENTRIES [27:16], R524. -/
def FC_STATUS_ENTRIES : Fld := ⟨0xd0404, 0x0, 0x0, 16, 12, .ro, 0x0⟩
/-- FC_STATUS.DEFAULT [7], R524. -/
def FC_STATUS_DEFAULT : Fld := ⟨0xd0404, 0x0, 0x0, 7, 1, .ro, 0x1⟩
/-- FC_STATUS.DIO_HOLD [3], R524. -/
def FC_STATUS_DIO_HOLD : Fld := ⟨0xd0404, 0x0, 0x0, 3, 1, .ro, 0x0⟩
/-- FC_STATUS.PAIR_HOLD [2:0], R524. -/
def FC_STATUS_PAIR_HOLD : Fld := ⟨0xd0404, 0x0, 0x0, 0, 3, .ro, 0x0⟩
/-- DBK_CTL.ARCHIVE_EN [0], R525. -/
def DBK_CTL_ARCHIVE_EN : Fld := ⟨0xe0000, 0x0, 0x0, 0, 1, .rw, 0x1⟩
/-- DBK_STATUS.PEAK [31:23], R525. -/
def DBK_STATUS_PEAK : Fld := ⟨0xe0004, 0x0, 0x0, 23, 9, .ro, 0x0⟩
/-- DBK_STATUS.LEVEL [22:14], R525. -/
def DBK_STATUS_LEVEL : Fld := ⟨0xe0004, 0x0, 0x0, 14, 9, .ro, 0x0⟩
/-- DBK_STATUS.DEFAULT_TABLE [3], R525. -/
def DBK_STATUS_DEFAULT_TABLE : Fld := ⟨0xe0004, 0x0, 0x0, 3, 1, .ro, 0x1⟩
/-- DBK_STATUS.FULL [2], R525. -/
def DBK_STATUS_FULL : Fld := ⟨0xe0004, 0x0, 0x0, 2, 1, .ro, 0x0⟩
/-- DBK_STATUS.WRITING [0], R525. -/
def DBK_STATUS_WRITING : Fld := ⟨0xe0004, 0x0, 0x0, 0, 1, .ro, 0x0⟩
/-- DBK_SEQ_LO.SEQ_LO [31:0], R526. -/
def DBK_SEQ_LO_SEQ_LO : Fld := ⟨0xe0008, 0x0, 0x0, 0, 32, .ro, 0x0⟩
/-- DBK_SEQ_HI.SEQ_HI [31:0], R526. -/
def DBK_SEQ_HI_SEQ_HI : Fld := ⟨0xe000c, 0x0, 0x0, 0, 32, .ro, 0x0⟩
/-- DBK_DROPPED.TOTAL [31:0], R525. -/
def DBK_DROPPED_TOTAL : Fld := ⟨0xe0010, 0x0, 0x0, 0, 32, .ro, 0x0⟩
/-- DBK_RATE_TABLE.OFFSET [21:4], R525. -/
def DBK_RATE_TABLE_OFFSET : Fld := ⟨0xe0100, 0x0, 0x0, 4, 18, .tx, 0x0⟩
/-- DBK_ARCH_SEQ_LO.ARCH_LO [31:0], R526. -/
def DBK_ARCH_SEQ_LO_ARCH_LO : Fld := ⟨0xe0400, 0x0, 0x0, 0, 32, .rw, 0x0⟩
/-- DBK_ARCH_SEQ_HI.ARCH_HI [31:0], R526. -/
def DBK_ARCH_SEQ_HI_ARCH_HI : Fld := ⟨0xe0404, 0x0, 0x0, 0, 32, .rw, 0x0⟩
/-- DBK_OVERFLOWS.TOTAL [31:0], R525. -/
def DBK_OVERFLOWS_TOTAL : Fld := ⟨0xe0408, 0x0, 0x0, 0, 32, .ro, 0x0⟩
/-- DBK_SUPPRESSED.TOTAL [31:0], R525. -/
def DBK_SUPPRESSED_TOTAL : Fld := ⟨0xe040c, 0x0, 0x0, 0, 32, .ro, 0x0⟩
/-- CFG_TXN_BEGIN.BEGIN [0], R563. -/
def CFG_TXN_BEGIN_BEGIN : Fld := ⟨0xf0000, 0x0, 0x0, 0, 1, .w1s, 0x0⟩
/-- CFG_TXN_COMMIT.PERSIST [1], R563. -/
def CFG_TXN_COMMIT_PERSIST : Fld := ⟨0xf0004, 0x0, 0x0, 1, 1, .wo, 0x0⟩
/-- CFG_TXN_COMMIT.COMMIT [0], R563. -/
def CFG_TXN_COMMIT_COMMIT : Fld := ⟨0xf0004, 0x0, 0x0, 0, 1, .w1s, 0x0⟩
/-- CFG_TXN_ABORT.ABORT [0], R563. -/
def CFG_TXN_ABORT_ABORT : Fld := ⟨0xf0008, 0x0, 0x0, 0, 1, .w1s, 0x0⟩
/-- CFG_TXN_STATUS.WRITES [26:16], R563. -/
def CFG_TXN_STATUS_WRITES : Fld := ⟨0xf000c, 0x0, 0x0, 16, 11, .ro, 0x0⟩
/-- CFG_TXN_STATUS.OWNER [15:13], R563. -/
def CFG_TXN_STATUS_OWNER : Fld := ⟨0xf000c, 0x0, 0x0, 13, 3, .ro, 0x0⟩
/-- CFG_TXN_STATUS.BLOCK [12:8], R563. -/
def CFG_TXN_STATUS_BLOCK : Fld := ⟨0xf000c, 0x0, 0x0, 8, 5, .ro, 0x0⟩
/-- CFG_TXN_STATUS.RESULT [7:4], R563. -/
def CFG_TXN_STATUS_RESULT : Fld := ⟨0xf000c, 0x0, 0x0, 4, 4, .ro, 0x0⟩
/-- CFG_TXN_STATUS.STATE [2:0], R563. -/
def CFG_TXN_STATUS_STATE : Fld := ⟨0xf000c, 0x0, 0x0, 0, 3, .ro, 0x0⟩
/-- CFG_GENERATION.GENERATION [31:0], R564. -/
def CFG_GENERATION_GENERATION : Fld := ⟨0xf0010, 0x0, 0x0, 0, 32, .ro, 0x0⟩
/-- CFG_KEY_STATUS.REMOVALS [31:16], R564. -/
def CFG_KEY_STATUS_REMOVALS : Fld := ⟨0xf0014, 0x0, 0x0, 16, 16, .ro, 0x0⟩
/-- CFG_KEY_STATUS.WRITING [6], R564. -/
def CFG_KEY_STATUS_WRITING : Fld := ⟨0xf0014, 0x0, 0x0, 6, 1, .ro, 0x0⟩
/-- CFG_KEY_STATUS.TRIAL [5], R564. -/
def CFG_KEY_STATUS_TRIAL : Fld := ⟨0xf0014, 0x0, 0x0, 5, 1, .ro, 0x0⟩
/-- CFG_KEY_STATUS.OTHER_VALID [4], R564. -/
def CFG_KEY_STATUS_OTHER_VALID : Fld := ⟨0xf0014, 0x0, 0x0, 4, 1, .ro, 0x0⟩
/-- CFG_KEY_STATUS.SLOT [3], R564. -/
def CFG_KEY_STATUS_SLOT : Fld := ⟨0xf0014, 0x0, 0x0, 3, 1, .ro, 0x0⟩
/-- CFG_KEY_STATUS.SAME_KEY [2], R564. -/
def CFG_KEY_STATUS_SAME_KEY : Fld := ⟨0xf0014, 0x0, 0x0, 2, 1, .ro, 0x0⟩
/-- CFG_KEY_STATUS.AUTH_OK [1], R564. -/
def CFG_KEY_STATUS_AUTH_OK : Fld := ⟨0xf0014, 0x0, 0x0, 1, 1, .ro, 0x0⟩
/-- CFG_KEY_STATUS.PRESENT [0], R564. -/
def CFG_KEY_STATUS_PRESENT : Fld := ⟨0xf0014, 0x0, 0x0, 0, 1, .ro, 0x0⟩
/-- CFG_CAL_OSC.TRIM [15:0], R564. -/
def CFG_CAL_OSC_TRIM : Fld := ⟨0xf0400, 0x0, 0x0, 0, 16, .tx, 0x0⟩
/-- CFG_CAL_DIO.G3 [31:24], R564. -/
def CFG_CAL_DIO_G3 : Fld := ⟨0xf0404, 0x0, 0x0, 24, 8, .tx, 0x0⟩
/-- CFG_CAL_DIO.G2 [23:16], R564. -/
def CFG_CAL_DIO_G2 : Fld := ⟨0xf0404, 0x0, 0x0, 16, 8, .tx, 0x0⟩
/-- CFG_CAL_DIO.G1 [15:8], R564. -/
def CFG_CAL_DIO_G1 : Fld := ⟨0xf0404, 0x0, 0x0, 8, 8, .tx, 0x0⟩
/-- CFG_CAL_DIO.G0 [7:0], R564. -/
def CFG_CAL_DIO_G0 : Fld := ⟨0xf0404, 0x0, 0x0, 0, 8, .tx, 0x0⟩
/-- UPD_CTL.MODE [4], R591. -/
def UPD_CTL_MODE : Fld := ⟨0x100000, 0x0, 0x0, 4, 1, .rw, 0x0⟩
/-- UPD_CTL.CANCEL [3], R591. -/
def UPD_CTL_CANCEL : Fld := ⟨0x100000, 0x0, 0x0, 3, 1, .w1s, 0x0⟩
/-- UPD_CTL.FALLBACK_NOW [2], R591. -/
def UPD_CTL_FALLBACK_NOW : Fld := ⟨0x100000, 0x0, 0x0, 2, 1, .w1s, 0x0⟩
/-- UPD_CTL.CONFIRM [1], R591. -/
def UPD_CTL_CONFIRM : Fld := ⟨0x100000, 0x0, 0x0, 1, 1, .w1s, 0x0⟩
/-- UPD_CTL.ACTIVATE [0], R591. -/
def UPD_CTL_ACTIVATE : Fld := ⟨0x100000, 0x0, 0x0, 0, 1, .w1s, 0x0⟩
/-- UPD_STATE.FALLBACK_CAUSE [23:20], R592. -/
def UPD_STATE_FALLBACK_CAUSE : Fld := ⟨0x100004, 0x0, 0x0, 20, 4, .ro, 0x0⟩
/-- UPD_STATE.TRIAL_STARTS [19:16], R592. -/
def UPD_STATE_TRIAL_STARTS : Fld := ⟨0x100004, 0x0, 0x0, 16, 4, .ro, 0x0⟩
/-- UPD_STATE.PARTS [14:8], R592. -/
def UPD_STATE_PARTS : Fld := ⟨0x100004, 0x0, 0x0, 8, 7, .ro, 0x0⟩
/-- UPD_STATE.MODE [7], R592. -/
def UPD_STATE_MODE : Fld := ⟨0x100004, 0x0, 0x0, 7, 1, .ro, 0x0⟩
/-- UPD_STATE.PHASE [6:4], R592. -/
def UPD_STATE_PHASE : Fld := ⟨0x100004, 0x0, 0x0, 4, 3, .ro, 0x0⟩
/-- UPD_STATE.STATE [2:0], R592. -/
def UPD_STATE_STATE : Fld := ⟨0x100004, 0x0, 0x0, 0, 3, .ro, 0x0⟩
/-- UPD_REFUSE.PART [15:8], R593. -/
def UPD_REFUSE_PART : Fld := ⟨0x100008, 0x0, 0x0, 8, 8, .ro, 0x0⟩
/-- UPD_REFUSE.CODE [7:0], R593. -/
def UPD_REFUSE_CODE : Fld := ⟨0x100008, 0x0, 0x0, 0, 8, .ro, 0x0⟩
/-- UPD_CONFIRM_REMAIN.SECONDS [16:0], R594. -/
def UPD_CONFIRM_REMAIN_SECONDS : Fld := ⟨0x10000c, 0x0, 0x0, 0, 17, .ro, 0x0⟩
/-- UPD_CLEAN.COUNT [31:0], R595. -/
def UPD_CLEAN_COUNT : Fld := ⟨0x100400, 0x0, 0x0, 0, 32, .ro, 0x0⟩
/-- UPD_CONFIRM_CFG.POLICY [18], R595. -/
def UPD_CONFIRM_CFG_POLICY : Fld := ⟨0x100404, 0x0, 0x0, 18, 1, .ro, 0x0⟩
/-- UPD_CONFIRM_CFG.UNREADABLE_FALLBACK [17], R595. -/
def UPD_CONFIRM_CFG_UNREADABLE_FALLBACK : Fld := ⟨0x100404, 0x0, 0x0, 17, 1, .ro, 0x1⟩
/-- UPD_CONFIRM_CFG.CONFIRM_S [16:0], R595. -/
def UPD_CONFIRM_CFG_CONFIRM_S : Fld := ⟨0x100404, 0x0, 0x0, 0, 17, .ro, 0x384⟩
/-- UPD_CLEAN_MIN.CLEAN_MIN [19:0], R595. -/
def UPD_CLEAN_MIN_CLEAN_MIN : Fld := ⟨0x100408, 0x0, 0x0, 0, 20, .ro, 0x2710⟩
/-- SEC_STATUS.RESULT [15:8], R565. -/
def SEC_STATUS_RESULT : Fld := ⟨0x110000, 0x0, 0x0, 8, 8, .ro, 0x0⟩
/-- SEC_STATUS.BUSY [5], R565. -/
def SEC_STATUS_BUSY : Fld := ⟨0x110000, 0x0, 0x0, 5, 1, .ro, 0x0⟩
/-- SEC_STATUS.DEBUG_ARMED [4], R565. -/
def SEC_STATUS_DEBUG_ARMED : Fld := ⟨0x110000, 0x0, 0x0, 4, 1, .ro, 0x0⟩
/-- SEC_STATUS.ERASED [3], R565. -/
def SEC_STATUS_ERASED : Fld := ⟨0x110000, 0x0, 0x0, 3, 1, .ro, 0x0⟩
/-- SEC_STATUS.TAMPER [2], R565. -/
def SEC_STATUS_TAMPER : Fld := ⟨0x110000, 0x0, 0x0, 2, 1, .ro, 0x0⟩
/-- SEC_STATUS.OWNER [1], R565. -/
def SEC_STATUS_OWNER : Fld := ⟨0x110000, 0x0, 0x0, 1, 1, .ro, 0x0⟩
/-- SEC_STATUS.DEVICE_KEY [0], R565. -/
def SEC_STATUS_DEVICE_KEY : Fld := ⟨0x110000, 0x0, 0x0, 0, 1, .ro, 0x1⟩
/-- SEC_CMD.GO [31], R565. -/
def SEC_CMD_GO : Fld := ⟨0x110004, 0x0, 0x0, 31, 1, .w1s, 0x0⟩
/-- SEC_CMD.OP [7:0], R565. -/
def SEC_CMD_OP : Fld := ⟨0x110004, 0x0, 0x0, 0, 8, .rw, 0x0⟩
/-- SEC_OWNER_LOCK.UPD_LOCK [0], R565. -/
def SEC_OWNER_LOCK_UPD_LOCK : Fld := ⟨0x110008, 0x0, 0x0, 0, 1, .ro, 0x0⟩
/-- SEC_MBOX.OFFSET [28:10], R565. -/
def SEC_MBOX_OFFSET : Fld := ⟨0x110400, 0x0, 0x0, 10, 19, .rwl, 0x0⟩
/-- DBG_STATUS.SCOPE [7:4], R566. -/
def DBG_STATUS_SCOPE : Fld := ⟨0x120000, 0x0, 0x0, 4, 4, .ro, 0x0⟩
/-- DBG_STATUS.PORT_LIVE [3], R566. -/
def DBG_STATUS_PORT_LIVE : Fld := ⟨0x120000, 0x0, 0x0, 3, 1, .ro, 0x0⟩
/-- DBG_STATUS.COVER_OPEN [2], R566. -/
def DBG_STATUS_COVER_OPEN : Fld := ⟨0x120000, 0x0, 0x0, 2, 1, .ro, 0x0⟩
/-- DBG_STATUS.ENABLED [1], R566. -/
def DBG_STATUS_ENABLED : Fld := ⟨0x120000, 0x0, 0x0, 1, 1, .ro, 0x0⟩
/-- DBG_STATUS.ARMED [0], R566. -/
def DBG_STATUS_ARMED : Fld := ⟨0x120000, 0x0, 0x0, 0, 1, .ro, 0x0⟩
/-- DBG_CTL.MC_EN [3], R566. -/
def DBG_CTL_MC_EN : Fld := ⟨0x120004, 0x0, 0x0, 3, 1, .rw, 0x0⟩
/-- DBG_CTL.PAIR_EN [2:0], R566. -/
def DBG_CTL_PAIR_EN : Fld := ⟨0x120004, 0x0, 0x0, 0, 3, .rw, 0x0⟩
/-- TEST_CTL.GO [31], R620. -/
def TEST_CTL_GO : Fld := ⟨0x130000, 0x0, 0x0, 31, 1, .w1s, 0x0⟩
/-- TEST_CTL.STOP [30], R620. -/
def TEST_CTL_STOP : Fld := ⟨0x130000, 0x0, 0x0, 30, 1, .w1s, 0x0⟩
/-- TEST_CTL.LINK [22:16], R620. -/
def TEST_CTL_LINK : Fld := ⟨0x130000, 0x0, 0x0, 16, 7, .rw, 0x0⟩
/-- TEST_CTL.POLY [9:8], R620. -/
def TEST_CTL_POLY : Fld := ⟨0x130000, 0x0, 0x0, 8, 2, .rw, 0x1⟩
/-- TEST_CTL.LOOP [5:4], R620. -/
def TEST_CTL_LOOP : Fld := ⟨0x130000, 0x0, 0x0, 4, 2, .rw, 0x0⟩
/-- TEST_LBB.ERRORS [31:24], R620. -/
def TEST_LBB_ERRORS : Fld := ⟨0x130500, 0x0, 0x0, 24, 8, .ro, 0x0⟩
/-- TEST_LBB.WINDOW [19:16], R620. -/
def TEST_LBB_WINDOW : Fld := ⟨0x130500, 0x0, 0x0, 16, 4, .rw, 0x0⟩
/-- TEST_LBB.GO [2], R620. -/
def TEST_LBB_GO : Fld := ⟨0x130500, 0x0, 0x0, 2, 1, .w1s, 0x0⟩
/-- TEST_LBB.RUNNING [1], R620. -/
def TEST_LBB_RUNNING : Fld := ⟨0x130500, 0x0, 0x0, 1, 1, .ro, 0x0⟩
/-- TEST_LBB.PASS [0], R620. -/
def TEST_LBB_PASS : Fld := ⟨0x130500, 0x0, 0x0, 0, 1, .ro, 0x0⟩
/-- LANE_STATUS.CMP_CODE [7:6], R69. -/
def LANE_STATUS_CMP_CODE : Fld := ⟨0x20000, 0x1000, 0x0, 6, 2, .ro, 0x1⟩
/-- LANE_STATUS.INJ_ENABLED [5], R69. -/
def LANE_STATUS_INJ_ENABLED : Fld := ⟨0x20000, 0x1000, 0x0, 5, 1, .ro, 0x1⟩
/-- LANE_STATUS.ACTIVE_HALF [4], R69. -/
def LANE_STATUS_ACTIVE_HALF : Fld := ⟨0x20000, 0x1000, 0x0, 4, 1, .ro, 0x0⟩
/-- LANE_STATUS.MODE [3], R69. -/
def LANE_STATUS_MODE : Fld := ⟨0x20000, 0x1000, 0x0, 3, 1, .ro, 0x0⟩
/-- LANE_STATUS.STATE [2:0], R69. -/
def LANE_STATUS_STATE : Fld := ⟨0x20000, 0x1000, 0x0, 0, 3, .ro, 0x0⟩
/-- LANE_CTL.FORCE_MISMATCH [2], R70. -/
def LANE_CTL_FORCE_MISMATCH : Fld := ⟨0x20004, 0x1000, 0x0, 2, 1, .wo, 0x0⟩
/-- LANE_CTL.SCRUB_ENABLE [1], R70. -/
def LANE_CTL_SCRUB_ENABLE : Fld := ⟨0x20004, 0x1000, 0x0, 1, 1, .tx, 0x1⟩
/-- LANE_CTL.INJ_ENABLE [0], R70. -/
def LANE_CTL_INJ_ENABLE : Fld := ⟨0x20004, 0x1000, 0x0, 0, 1, .tx, 0x1⟩
/-- LANE_RESTARTS.IN_WINDOW [23:16], R71. -/
def LANE_RESTARTS_IN_WINDOW : Fld := ⟨0x20008, 0x1000, 0x0, 16, 8, .ro, 0x0⟩
/-- LANE_RESTARTS.TOTAL [15:0], R71. -/
def LANE_RESTARTS_TOTAL : Fld := ⟨0x20008, 0x1000, 0x0, 0, 16, .ro, 0x0⟩
/-- LANE_FAIL_CAUSE.CYCLE [31:8], R72. -/
def LANE_FAIL_CAUSE_CYCLE : Fld := ⟨0x2000c, 0x1000, 0x0, 8, 24, .ro, 0x0⟩
/-- LANE_FAIL_CAUSE.CAUSE [3:0], R72. -/
def LANE_FAIL_CAUSE_CAUSE : Fld := ⟨0x2000c, 0x1000, 0x0, 0, 4, .ro, 0x0⟩
/-- LANE_CMP_TEST.DEFERRED [25], R73. -/
def LANE_CMP_TEST_DEFERRED : Fld := ⟨0x20010, 0x1000, 0x0, 25, 1, .ro, 0x0⟩
/-- LANE_CMP_TEST.LAST_RESULT [24], R73. -/
def LANE_CMP_TEST_LAST_RESULT : Fld := ⟨0x20010, 0x1000, 0x0, 24, 1, .ro, 0x0⟩
/-- LANE_CMP_TEST.LAST_LATENCY [23:16], R73. -/
def LANE_CMP_TEST_LAST_LATENCY : Fld := ⟨0x20010, 0x1000, 0x0, 16, 8, .ro, 0x0⟩
/-- LANE_CMP_TEST.PASS_COUNT [15:0], R73. -/
def LANE_CMP_TEST_PASS_COUNT : Fld := ⟨0x20010, 0x1000, 0x0, 0, 16, .ro, 0x0⟩
/-- LANE_FIREWALL_BASE.OFFSET [21:4], R74. -/
def LANE_FIREWALL_BASE_OFFSET : Fld := ⟨0x20020, 0x1000, 0x0, 4, 18, .rwl, 0x0⟩
/-- LANE_MISMATCH_INFO.VALID [31], R75. -/
def LANE_MISMATCH_INFO_VALID : Fld := ⟨0x20400, 0x1000, 0x0, 31, 1, .w1c, 0x0⟩
/-- LANE_MISMATCH_INFO.GROUP [2:0], R75. -/
def LANE_MISMATCH_INFO_GROUP : Fld := ⟨0x20400, 0x1000, 0x0, 0, 3, .ro, 0x0⟩
/-- SCL_LAG_COUNTn.IN_WINDOW [23:16], R104. -/
def SCL_LAG_COUNTn_IN_WINDOW : Fld := ⟨0x30010, 0x4, 0x0, 16, 8, .ro, 0x0⟩
/-- SCL_LAG_COUNTn.TOTAL [15:0], R104. -/
def SCL_LAG_COUNTn_TOTAL : Fld := ⟨0x30010, 0x4, 0x0, 0, 16, .ro, 0x0⟩
/-- SCL_DISAGREE_COUNTn.TOTAL [15:0], R106. -/
def SCL_DISAGREE_COUNTn_TOTAL : Fld := ⟨0x30410, 0x4, 0x0, 0, 16, .ro, 0x0⟩
/-- SCL_SKEW_PEAKn.CLR [31], R107. -/
def SCL_SKEW_PEAKn_CLR : Fld := ⟨0x30420, 0x4, 0x0, 31, 1, .wo, 0x0⟩
/-- SCL_SKEW_PEAKn.PEAK_US [15:0], R107. -/
def SCL_SKEW_PEAKn_PEAK_US : Fld := ⟨0x30420, 0x4, 0x0, 0, 16, .ro, 0x0⟩
/-- TASK_Tn_STATUS.RELEASE_LO [31:16], R157. -/
def TASK_Tn_STATUS_RELEASE_LO : Fld := ⟨0x40100, 0x1000, 0x10, 16, 16, .ro, 0x0⟩
/-- TASK_Tn_STATUS.PRIORITY [15:8], R157. -/
def TASK_Tn_STATUS_PRIORITY : Fld := ⟨0x40100, 0x1000, 0x10, 8, 8, .ro, 0x0⟩
/-- TASK_Tn_STATUS.SKIP_CAUSE [7:5], R157. -/
def TASK_Tn_STATUS_SKIP_CAUSE : Fld := ⟨0x40100, 0x1000, 0x10, 5, 3, .ro, 0x0⟩
/-- TASK_Tn_STATUS.TRIG_PENDING [4], R157. -/
def TASK_Tn_STATUS_TRIG_PENDING : Fld := ⟨0x40100, 0x1000, 0x10, 4, 1, .ro, 0x0⟩
/-- TASK_Tn_STATUS.ENABLED [3], R157. -/
def TASK_Tn_STATUS_ENABLED : Fld := ⟨0x40100, 0x1000, 0x10, 3, 1, .ro, 0x0⟩
/-- TASK_Tn_STATUS.RSTATE [2:0], R157. -/
def TASK_Tn_STATUS_RSTATE : Fld := ⟨0x40100, 0x1000, 0x10, 0, 3, .ro, 0x0⟩
/-- TASK_Tn_SKIPS.TOTAL [31:0], R158. -/
def TASK_Tn_SKIPS_TOTAL : Fld := ⟨0x40104, 0x1000, 0x10, 0, 32, .ro, 0x0⟩
/-- TASK_Tn_OVERRUNS.LOST_TRIGGERS [23:16], R159. -/
def TASK_Tn_OVERRUNS_LOST_TRIGGERS : Fld := ⟨0x40108, 0x1000, 0x10, 16, 8, .ro, 0x0⟩
/-- TASK_Tn_OVERRUNS.TOTAL [15:0], R159. -/
def TASK_Tn_OVERRUNS_TOTAL : Fld := ⟨0x40108, 0x1000, 0x10, 0, 16, .ro, 0x0⟩
/-- TASK_Tn_EXEC_PEAK.CLR [31], R160. -/
def TASK_Tn_EXEC_PEAK_CLR : Fld := ⟨0x4010c, 0x1000, 0x10, 31, 1, .wo, 0x0⟩
/-- TASK_Tn_EXEC_PEAK.PEAK_US [15:0], R160. -/
def TASK_Tn_EXEC_PEAK_PEAK_US : Fld := ⟨0x4010c, 0x1000, 0x10, 0, 16, .ro, 0x0⟩
/-- PRT_CTL.EXCLUDE_EN [8], R321. -/
def PRT_CTL_EXCLUDE_EN : Fld := ⟨0x70000, 0x8000, 0x0, 8, 1, .tx, 0x1⟩
/-- PRT_CTL.CASCADE [4:3], R321. -/
def PRT_CTL_CASCADE : Fld := ⟨0x70000, 0x8000, 0x0, 3, 2, .rwl, 0x0⟩
/-- PRT_CTL.UNIT [2:1], R321. -/
def PRT_CTL_UNIT : Fld := ⟨0x70000, 0x8000, 0x0, 1, 2, .rwl, 0x0⟩
/-- PRT_CTL.MODE [0], R321. -/
def PRT_CTL_MODE : Fld := ⟨0x70000, 0x8000, 0x0, 0, 1, .rwl, 0x0⟩
/-- PRT_STATUS.FREE_RUN_CYCLES [31:24], R322. -/
def PRT_STATUS_FREE_RUN_CYCLES : Fld := ⟨0x70004, 0x8000, 0x0, 24, 8, .ro, 0x0⟩
/-- PRT_STATUS.KIND [22:21], R322. -/
def PRT_STATUS_KIND : Fld := ⟨0x70004, 0x8000, 0x0, 21, 2, .ro, 0x0⟩
/-- PRT_STATUS.CASE [20:16], R322. -/
def PRT_STATUS_CASE : Fld := ⟨0x70004, 0x8000, 0x0, 16, 5, .ro, 0x0⟩
/-- PRT_STATUS.DIR_STAGED [14], R322. -/
def PRT_STATUS_DIR_STAGED : Fld := ⟨0x70004, 0x8000, 0x0, 14, 1, .ro, 0x0⟩
/-- PRT_STATUS.CASCADE_OK [13], R322. -/
def PRT_STATUS_CASCADE_OK : Fld := ⟨0x70004, 0x8000, 0x0, 13, 1, .ro, 0x0⟩
/-- PRT_STATUS.MASTER_PORT [12:8], R322. -/
def PRT_STATUS_MASTER_PORT : Fld := ⟨0x70004, 0x8000, 0x0, 8, 5, .ro, 0x1f⟩
/-- PRT_STATUS.FORWARDING [3], R322. -/
def PRT_STATUS_FORWARDING : Fld := ⟨0x70004, 0x8000, 0x0, 3, 1, .ro, 0x0⟩
/-- PRT_STATUS.STATE [2:0], R322. -/
def PRT_STATUS_STATE : Fld := ⟨0x70004, 0x8000, 0x0, 0, 3, .ro, 0x0⟩
/-- PRT_GUARD.GUARD [6:0], R323. -/
def PRT_GUARD_GUARD : Fld := ⟨0x70008, 0x8000, 0x0, 0, 7, .tx, 0xa⟩
/-- PRT_WDIR.OFFSET [21:4], R329. -/
def PRT_WDIR_OFFSET : Fld := ⟨0x70400, 0x8000, 0x0, 4, 18, .tx, 0x0⟩
/-- PRT_LATE_CFG.WINDOW_MS [31:16], R330. -/
def PRT_LATE_CFG_WINDOW_MS : Fld := ⟨0x70404, 0x8000, 0x0, 16, 16, .tx, 0x3e8⟩
/-- PRT_LATE_CFG.LIMIT [7:0], R330. -/
def PRT_LATE_CFG_LIMIT : Fld := ⟨0x70404, 0x8000, 0x0, 0, 8, .tx, 0x4⟩
/-- PRT_SYNC.TRIM [31:16], R331. -/
def PRT_SYNC_TRIM : Fld := ⟨0x70408, 0x8000, 0x0, 16, 16, .ro, 0x0⟩
/-- PRT_SYNC.PHASE_NS [15:0], R331. -/
def PRT_SYNC_PHASE_NS : Fld := ⟨0x70408, 0x8000, 0x0, 0, 16, .ro, 0x0⟩
/-- PRT_FW.SLOT [31:24], R332. -/
def PRT_FW_SLOT : Fld := ⟨0x7040c, 0x8000, 0x0, 24, 8, .ro, 0x0⟩
/-- PRT_FW.VERSION [23:0], R332. -/
def PRT_FW_VERSION : Fld := ⟨0x7040c, 0x8000, 0x0, 0, 24, .ro, 0x0⟩
/-- PRT_Pp_STATUS.DELAY_NS [31:16], R325. -/
def PRT_Pp_STATUS_DELAY_NS : Fld := ⟨0x70100, 0x8000, 0x10, 16, 16, .ro, 0x0⟩
/-- PRT_Pp_STATUS.LATE_IN_WINDOW [15:8], R325. -/
def PRT_Pp_STATUS_LATE_IN_WINDOW : Fld := ⟨0x70100, 0x8000, 0x10, 8, 8, .ro, 0x0⟩
/-- PRT_Pp_STATUS.CASCADE [5], R325. -/
def PRT_Pp_STATUS_CASCADE : Fld := ⟨0x70100, 0x8000, 0x10, 5, 1, .ro, 0x0⟩
/-- PRT_Pp_STATUS.TEST [4], R325. -/
def PRT_Pp_STATUS_TEST : Fld := ⟨0x70100, 0x8000, 0x10, 4, 1, .ro, 0x0⟩
/-- PRT_Pp_STATUS.UNINAUGURATED [3], R325. -/
def PRT_Pp_STATUS_UNINAUGURATED : Fld := ⟨0x70100, 0x8000, 0x10, 3, 1, .ro, 0x0⟩
/-- PRT_Pp_STATUS.DISC_SEEN [2], R325. -/
def PRT_Pp_STATUS_DISC_SEEN : Fld := ⟨0x70100, 0x8000, 0x10, 2, 1, .ro, 0x0⟩
/-- PRT_Pp_STATUS.EXCLUDED [1], R325. -/
def PRT_Pp_STATUS_EXCLUDED : Fld := ⟨0x70100, 0x8000, 0x10, 1, 1, .ro, 0x0⟩
/-- PRT_Pp_STATUS.LINK [0], R325. -/
def PRT_Pp_STATUS_LINK : Fld := ⟨0x70100, 0x8000, 0x10, 0, 1, .ro, 0x0⟩
/-- PRT_Pp_LATE.EXCLUSIONS [31:16], R326. -/
def PRT_Pp_LATE_EXCLUSIONS : Fld := ⟨0x70104, 0x8000, 0x10, 16, 16, .ro, 0x0⟩
/-- PRT_Pp_LATE.TOTAL [15:0], R326. -/
def PRT_Pp_LATE_TOTAL : Fld := ⟨0x70104, 0x8000, 0x10, 0, 16, .ro, 0x0⟩
/-- PRT_Pp_BLOCKED.TRUNCATED [31:16], R327. -/
def PRT_Pp_BLOCKED_TRUNCATED : Fld := ⟨0x70108, 0x8000, 0x10, 16, 16, .ro, 0x0⟩
/-- PRT_Pp_BLOCKED.BLOCKED [15:0], R327. -/
def PRT_Pp_BLOCKED_BLOCKED : Fld := ⟨0x70108, 0x8000, 0x10, 0, 16, .ro, 0x0⟩
/-- PRT_Pp_ERRORS.REPLIES [31:16], R328. -/
def PRT_Pp_ERRORS_REPLIES : Fld := ⟨0x7010c, 0x8000, 0x10, 16, 16, .ro, 0x0⟩
/-- PRT_Pp_ERRORS.RX_ERRORS [15:0], R328. -/
def PRT_Pp_ERRORS_RX_ERRORS : Fld := ⟨0x7010c, 0x8000, 0x10, 0, 16, .ro, 0x0⟩
/-- CAN_CTL.FD_EN [6], R397. -/
def CAN_CTL_FD_EN : Fld := ⟨0x90000, 0x1000, 0x0, 6, 1, .tx, 0x1⟩
/-- CAN_CTL.TERM [5], R397. -/
def CAN_CTL_TERM : Fld := ⟨0x90000, 0x1000, 0x0, 5, 1, .tx, 0x0⟩
/-- CAN_CTL.RECOVER [4], R397. -/
def CAN_CTL_RECOVER : Fld := ⟨0x90000, 0x1000, 0x0, 4, 1, .w1s, 0x0⟩
/-- CAN_CTL.AUTO_RECOVER [3], R397. -/
def CAN_CTL_AUTO_RECOVER : Fld := ⟨0x90000, 0x1000, 0x0, 3, 1, .tx, 0x0⟩
/-- CAN_CTL.ENABLE [2], R397. -/
def CAN_CTL_ENABLE : Fld := ⟨0x90000, 0x1000, 0x0, 2, 1, .tx, 0x0⟩
/-- CAN_CTL.MODE [1:0], R397. -/
def CAN_CTL_MODE : Fld := ⟨0x90000, 0x1000, 0x0, 0, 2, .tx, 0x0⟩
/-- CAN_STATUS.TABLE_PENDING [31], R398. -/
def CAN_STATUS_TABLE_PENDING : Fld := ⟨0x90004, 0x1000, 0x0, 31, 1, .ro, 0x0⟩
/-- CAN_STATUS.TDCV [30:24], R398. -/
def CAN_STATUS_TDCV : Fld := ⟨0x90004, 0x1000, 0x0, 24, 7, .ro, 0x0⟩
/-- CAN_STATUS.COLUMN [20:16], R398. -/
def CAN_STATUS_COLUMN : Fld := ⟨0x90004, 0x1000, 0x0, 16, 5, .ro, 0x0⟩
/-- CAN_STATUS.ROW [13:8], R398. -/
def CAN_STATUS_ROW : Fld := ⟨0x90004, 0x1000, 0x0, 8, 6, .ro, 0x0⟩
/-- CAN_STATUS.MATRIX_RUN [5], R398. -/
def CAN_STATUS_MATRIX_RUN : Fld := ⟨0x90004, 0x1000, 0x0, 5, 1, .ro, 0x0⟩
/-- CAN_STATUS.EFF_MODE [4:3], R398. -/
def CAN_STATUS_EFF_MODE : Fld := ⟨0x90004, 0x1000, 0x0, 3, 2, .ro, 0x0⟩
/-- CAN_STATUS.STATE [2:0], R398. -/
def CAN_STATUS_STATE : Fld := ⟨0x90004, 0x1000, 0x0, 0, 3, .ro, 0x0⟩
/-- CAN_NBT.TRIPLE [30], R399. -/
def CAN_NBT_TRIPLE : Fld := ⟨0x90008, 0x1000, 0x0, 30, 1, .tx, 0x0⟩
/-- CAN_NBT.NSJW [29:23], R399. -/
def CAN_NBT_NSJW : Fld := ⟨0x90008, 0x1000, 0x0, 23, 7, .tx, 0xf⟩
/-- CAN_NBT.NTSEG2 [22:16], R399. -/
def CAN_NBT_NTSEG2 : Fld := ⟨0x90008, 0x1000, 0x0, 16, 7, .tx, 0xf⟩
/-- CAN_NBT.NTSEG1 [15:8], R399. -/
def CAN_NBT_NTSEG1 : Fld := ⟨0x90008, 0x1000, 0x0, 8, 8, .tx, 0x3e⟩
/-- CAN_NBT.NBRP [7:0], R399. -/
def CAN_NBT_NBRP : Fld := ⟨0x90008, 0x1000, 0x0, 0, 8, .tx, 0x1⟩
/-- CAN_DBT.TDCO [26:20], R400. -/
def CAN_DBT_TDCO : Fld := ⟨0x9000c, 0x1000, 0x0, 20, 7, .tx, 0x20⟩
/-- CAN_DBT.TDC [19], R400. -/
def CAN_DBT_TDC : Fld := ⟨0x9000c, 0x1000, 0x0, 19, 1, .tx, 0x1⟩
/-- CAN_DBT.DSJW [18:15], R400. -/
def CAN_DBT_DSJW : Fld := ⟨0x9000c, 0x1000, 0x0, 15, 4, .tx, 0x7⟩
/-- CAN_DBT.DTSEG2 [14:11], R400. -/
def CAN_DBT_DTSEG2 : Fld := ⟨0x9000c, 0x1000, 0x0, 11, 4, .tx, 0x7⟩
/-- CAN_DBT.DTSEG1 [10:5], R400. -/
def CAN_DBT_DTSEG1 : Fld := ⟨0x9000c, 0x1000, 0x0, 5, 6, .tx, 0x1e⟩
/-- CAN_DBT.DBRP [4:0], R400. -/
def CAN_DBT_DBRP : Fld := ⟨0x9000c, 0x1000, 0x0, 0, 5, .tx, 0x0⟩
/-- CAN_ERRCNT.BUSOFFS [23:16], R401. -/
def CAN_ERRCNT_BUSOFFS : Fld := ⟨0x90010, 0x1000, 0x0, 16, 8, .ro, 0x0⟩
/-- CAN_ERRCNT.RP [15], R401. -/
def CAN_ERRCNT_RP : Fld := ⟨0x90010, 0x1000, 0x0, 15, 1, .ro, 0x0⟩
/-- CAN_ERRCNT.REC [14:8], R401. -/
def CAN_ERRCNT_REC : Fld := ⟨0x90010, 0x1000, 0x0, 8, 7, .ro, 0x0⟩
/-- CAN_ERRCNT.TEC [7:0], R401. -/
def CAN_ERRCNT_TEC : Fld := ⟨0x90010, 0x1000, 0x0, 0, 8, .ro, 0x0⟩
/-- CAN_TSCOUNT.COUNT [31:0], R402. -/
def CAN_TSCOUNT_COUNT : Fld := ⟨0x90014, 0x1000, 0x0, 0, 32, .ro, 0x0⟩
/-- CAN_MATRIX_CTL.OFFSET [21:4], R403. -/
def CAN_MATRIX_CTL_OFFSET : Fld := ⟨0x90018, 0x1000, 0x0, 4, 18, .tx, 0x0⟩
/-- CAN_MATRIX_CTL.RUN [0], R403. -/
def CAN_MATRIX_CTL_RUN : Fld := ⟨0x90018, 0x1000, 0x0, 0, 1, .tx, 0x0⟩
/-- CAN_RX_STATUS.LOST [31:16], R404. -/
def CAN_RX_STATUS_LOST : Fld := ⟨0x90400, 0x1000, 0x0, 16, 16, .ro, 0x0⟩
/-- CAN_RX_STATUS.UNMATCHED [15:8], R404. -/
def CAN_RX_STATUS_UNMATCHED : Fld := ⟨0x90400, 0x1000, 0x0, 8, 8, .ro, 0x0⟩
/-- CAN_RX_STATUS.WR [6:0], R404. -/
def CAN_RX_STATUS_WR : Fld := ⟨0x90400, 0x1000, 0x0, 0, 7, .ro, 0x0⟩
/-- CAN_RX_ACK.ENTRY [6:0], R405. -/
def CAN_RX_ACK_ENTRY : Fld := ⟨0x90404, 0x1000, 0x0, 0, 7, .wo, 0x0⟩
/-- CAN_TSCAP_CNT.CAP_CNT [31:0], R406. -/
def CAN_TSCAP_CNT_CAP_CNT : Fld := ⟨0x90408, 0x1000, 0x0, 0, 32, .ro, 0x0⟩
/-- CAN_TSCAP_MONO_LO.CAP_MONO_LO [31:0], R406. -/
def CAN_TSCAP_MONO_LO_CAP_MONO_LO : Fld := ⟨0x9040c, 0x1000, 0x0, 0, 32, .ro, 0x0⟩
/-- CAN_TSCAP_MONO_HI.CAP_MONO_HI [31:0], R406. -/
def CAN_TSCAP_MONO_HI_CAP_MONO_HI : Fld := ⟨0x90410, 0x1000, 0x0, 0, 32, .ro, 0x0⟩
/-- CAN_TX_STATS.STALE [31:16], R407. -/
def CAN_TX_STATS_STALE : Fld := ⟨0x90414, 0x1000, 0x0, 16, 16, .ro, 0x0⟩
/-- CAN_TX_STATS.ABANDONED [15:0], R407. -/
def CAN_TX_STATS_ABANDONED : Fld := ⟨0x90414, 0x1000, 0x0, 0, 16, .ro, 0x0⟩
/-- LBB_WINw_CFG.VALID [31], R446. -/
def LBB_WINw_CFG_VALID : Fld := ⟨0xb0100, 0x10, 0x0, 31, 1, .tx, 0x0⟩
/-- LBB_WINw_CFG.MEMORY_LIKE [30], R446. -/
def LBB_WINw_CFG_MEMORY_LIKE : Fld := ⟨0xb0100, 0x10, 0x0, 30, 1, .tx, 0x0⟩
/-- LBB_WINw_CFG.RD [29], R446. -/
def LBB_WINw_CFG_RD : Fld := ⟨0xb0100, 0x10, 0x0, 29, 1, .tx, 0x0⟩
/-- LBB_WINw_CFG.WR [28], R446. -/
def LBB_WINw_CFG_WR : Fld := ⟨0xb0100, 0x10, 0x0, 28, 1, .tx, 0x0⟩
/-- LBB_WINw_CFG.AMO [27], R446. -/
def LBB_WINw_CFG_AMO : Fld := ⟨0xb0100, 0x10, 0x0, 27, 1, .tx, 0x0⟩
/-- LBB_WINw_CFG.PREFETCH [23:20], R446. -/
def LBB_WINw_CFG_PREFETCH : Fld := ⟨0xb0100, 0x10, 0x0, 20, 4, .tx, 0x0⟩
/-- LBB_WINw_CFG.SIZEM1 [15:8], R446. -/
def LBB_WINw_CFG_SIZEM1 : Fld := ⟨0xb0100, 0x10, 0x0, 8, 8, .tx, 0x0⟩
/-- LBB_WINw_CFG.BASE [7:0], R446. -/
def LBB_WINw_CFG_BASE : Fld := ⟨0xb0100, 0x10, 0x0, 0, 8, .tx, 0x0⟩
/-- LBB_PREFETCH_DISCARDw.CLR [31], R446. -/
def LBB_PREFETCH_DISCARDw_CLR : Fld := ⟨0xb0104, 0x10, 0x0, 31, 1, .wo, 0x0⟩
/-- LBB_PREFETCH_DISCARDw.WORDS [30:0], R446. -/
def LBB_PREFETCH_DISCARDw_WORDS : Fld := ⟨0xb0104, 0x10, 0x0, 0, 31, .ro, 0x0⟩
/-- DIO_Gg_SUPPLY.LOST_COUNT [31:24], R479. -/
def DIO_Gg_SUPPLY_LOST_COUNT : Fld := ⟨0xc0010, 0x4, 0x0, 24, 8, .ro, 0x0⟩
/-- DIO_Gg_SUPPLY.CUT [20], R479. -/
def DIO_Gg_SUPPLY_CUT : Fld := ⟨0xc0010, 0x4, 0x0, 20, 1, .ro, 0x0⟩
/-- DIO_Gg_SUPPLY.LATCHED [19], R479. -/
def DIO_Gg_SUPPLY_LATCHED : Fld := ⟨0xc0010, 0x4, 0x0, 19, 1, .ro, 0x1⟩
/-- DIO_Gg_SUPPLY.STATE [17:16], R479. -/
def DIO_Gg_SUPPLY_STATE : Fld := ⟨0xc0010, 0x4, 0x0, 16, 2, .ro, 0x2⟩
/-- DIO_Gg_SUPPLY.MV [15:0], R479. -/
def DIO_Gg_SUPPLY_MV : Fld := ⟨0xc0010, 0x4, 0x0, 0, 16, .ro, 0x0⟩
/-- DIO_CHc_CFG.FILTER [23:15], R481. -/
def DIO_CHc_CFG_FILTER : Fld := ⟨0xc0100, 0x10, 0x0, 15, 9, .tx, 0x3c⟩
/-- DIO_CHc_CFG.ACTION [14:13], R481. -/
def DIO_CHc_CFG_ACTION : Fld := ⟨0xc0100, 0x10, 0x0, 13, 2, .tx, 0x0⟩
/-- DIO_CHc_CFG.TRIG [12:10], R481. -/
def DIO_CHc_CFG_TRIG : Fld := ⟨0xc0100, 0x10, 0x0, 10, 3, .tx, 0x0⟩
/-- DIO_CHc_CFG.TIMED [9], R481. -/
def DIO_CHc_CFG_TIMED : Fld := ⟨0xc0100, 0x10, 0x0, 9, 1, .tx, 0x0⟩
/-- DIO_CHc_CFG.RESTART_LOCK [8], R481. -/
def DIO_CHc_CFG_RESTART_LOCK : Fld := ⟨0xc0100, 0x10, 0x0, 8, 1, .tx, 0x0⟩
/-- DIO_CHc_CFG.SAFE_STATE [5:4], R481. -/
def DIO_CHc_CFG_SAFE_STATE : Fld := ⟨0xc0100, 0x10, 0x0, 4, 2, .tx, 0x0⟩
/-- DIO_CHc_CFG.SAFETY [3], R481. -/
def DIO_CHc_CFG_SAFETY : Fld := ⟨0xc0100, 0x10, 0x0, 3, 1, .tx, 0x0⟩
/-- DIO_CHc_CFG.TYPE [2], R481. -/
def DIO_CHc_CFG_TYPE : Fld := ⟨0xc0100, 0x10, 0x0, 2, 1, .tx, 0x0⟩
/-- DIO_CHc_CFG.DIR [0], R481. -/
def DIO_CHc_CFG_DIR : Fld := ⟨0xc0100, 0x10, 0x0, 0, 1, .tx, 0x0⟩
/-- DIO_CHc_STATUS.LOCKED [9], R482. -/
def DIO_CHc_STATUS_LOCKED : Fld := ⟨0xc0104, 0x10, 0x0, 9, 1, .ro, 0x0⟩
/-- DIO_CHc_STATUS.SAFE [8], R482. -/
def DIO_CHc_STATUS_SAFE : Fld := ⟨0xc0104, 0x10, 0x0, 8, 1, .ro, 0x0⟩
/-- DIO_CHc_STATUS.STUCK_ON [7], R482. -/
def DIO_CHc_STATUS_STUCK_ON : Fld := ⟨0xc0104, 0x10, 0x0, 7, 1, .ro, 0x0⟩
/-- DIO_CHc_STATUS.READBACK_ERR [6], R482. -/
def DIO_CHc_STATUS_READBACK_ERR : Fld := ⟨0xc0104, 0x10, 0x0, 6, 1, .ro, 0x0⟩
/-- DIO_CHc_STATUS.THERMAL [5], R482. -/
def DIO_CHc_STATUS_THERMAL : Fld := ⟨0xc0104, 0x10, 0x0, 5, 1, .ro, 0x0⟩
/-- DIO_CHc_STATUS.OVERLOAD [4], R482. -/
def DIO_CHc_STATUS_OVERLOAD : Fld := ⟨0xc0104, 0x10, 0x0, 4, 1, .ro, 0x0⟩
/-- DIO_CHc_STATUS.INVALID [3], R482. -/
def DIO_CHc_STATUS_INVALID : Fld := ⟨0xc0104, 0x10, 0x0, 3, 1, .ro, 0x1⟩
/-- DIO_CHc_STATUS.DRIVE [2], R482. -/
def DIO_CHc_STATUS_DRIVE : Fld := ⟨0xc0104, 0x10, 0x0, 2, 1, .ro, 0x0⟩
/-- DIO_CHc_STATUS.CMD [1], R482. -/
def DIO_CHc_STATUS_CMD : Fld := ⟨0xc0104, 0x10, 0x0, 1, 1, .ro, 0x0⟩
/-- DIO_CHc_STATUS.LEVEL [0], R482. -/
def DIO_CHc_STATUS_LEVEL : Fld := ⟨0xc0104, 0x10, 0x0, 0, 1, .ro, 0x0⟩
/-- DIO_CHc_TIMING.PULSE_US [15:0], R483. -/
def DIO_CHc_TIMING_PULSE_US : Fld := ⟨0xc0108, 0x10, 0x0, 0, 16, .tx, 0x3e8⟩
/-- DIO_CHc_COUNT.EDGES [31:0], R484. -/
def DIO_CHc_COUNT_EDGES : Fld := ⟨0xc010c, 0x10, 0x0, 0, 32, .ro, 0x0⟩
/-- TIM_TRIGn_CTL.SEC_HI [31:16], R529. -/
def TIM_TRIGn_CTL_SEC_HI : Fld := ⟨0x10100, 0x10, 0x0, 16, 16, .rw, 0x0⟩
/-- TIM_TRIGn_CTL.LATE [4], R529. -/
def TIM_TRIGn_CTL_LATE : Fld := ⟨0x10100, 0x10, 0x0, 4, 1, .w1c, 0x0⟩
/-- TIM_TRIGn_CTL.FIRED [3], R529. -/
def TIM_TRIGn_CTL_FIRED : Fld := ⟨0x10100, 0x10, 0x0, 3, 1, .w1c, 0x0⟩
/-- TIM_TRIGn_CTL.BASE [1], R529. -/
def TIM_TRIGn_CTL_BASE : Fld := ⟨0x10100, 0x10, 0x0, 1, 1, .rw, 0x0⟩
/-- TIM_TRIGn_CTL.ENABLE [0], R529. -/
def TIM_TRIGn_CTL_ENABLE : Fld := ⟨0x10100, 0x10, 0x0, 0, 1, .rw, 0x0⟩
/-- TIM_TRIGn_SEC_LO.SEC_LO [31:0], R529. -/
def TIM_TRIGn_SEC_LO_SEC_LO : Fld := ⟨0x10104, 0x10, 0x0, 0, 32, .rw, 0x0⟩
/-- TIM_TRIGn_NS.NS [29:0], R529. -/
def TIM_TRIGn_NS_NS : Fld := ⟨0x10108, 0x10, 0x0, 0, 30, .rw, 0x0⟩
/-- TIM_TRIGn_PERIOD.PERIOD_US [31:0], R529. -/
def TIM_TRIGn_PERIOD_PERIOD_US : Fld := ⟨0x1010c, 0x10, 0x0, 0, 32, .rw, 0x0⟩
/-- TEST_Ll_ERRORS.BIT_ERRORS [31:0], R620. -/
def TEST_Ll_ERRORS_BIT_ERRORS : Fld := ⟨0x130100, 0x10, 0x0, 0, 32, .ro, 0x0⟩
/-- TEST_Ll_STATUS.FRAMES [31:16], R620. -/
def TEST_Ll_STATUS_FRAMES : Fld := ⟨0x130104, 0x10, 0x0, 16, 16, .ro, 0x0⟩
/-- TEST_Ll_STATUS.REFUSE [15:8], R620. -/
def TEST_Ll_STATUS_REFUSE : Fld := ⟨0x130104, 0x10, 0x0, 8, 8, .ro, 0x0⟩
/-- TEST_Ll_STATUS.LOCK [1], R620. -/
def TEST_Ll_STATUS_LOCK : Fld := ⟨0x130104, 0x10, 0x0, 1, 1, .ro, 0x0⟩
/-- TEST_Ll_STATUS.RUNNING [0], R620. -/
def TEST_Ll_STATUS_RUNNING : Fld := ⟨0x130104, 0x10, 0x0, 0, 1, .ro, 0x0⟩

/-- The registers of the SYS block (R630). -/
def blockSYS : List RegRow :=
  [⟨0x0, 0x0, 1, 0x0, 1, [SYS_ID_FAMILY, SYS_ID_VARIANT]⟩,
   ⟨0x4, 0x0, 1, 0x0, 1, [SYS_HWREV_REV]⟩,
   ⟨0x8, 0x0, 1, 0x0, 1, [SYS_SERIAL_LO_SERIAL_LO]⟩,
   ⟨0xc, 0x0, 1, 0x0, 1, [SYS_SERIAL_HI_SERIAL_HI]⟩,
   ⟨0x10, 0x0, 1, 0x0, 1, [SYS_PROFILE_TWIN_POS, SYS_PROFILE_PAIR2_MODE, SYS_PROFILE_PAIR1_MODE, SYS_PROFILE_PAIR0_MODE, SYS_PROFILE_PROFILE]⟩,
   ⟨0x14, 0x0, 1, 0x0, 1, [SYS_STATE_ROLE, SYS_STATE_SAFE_LATCH, SYS_STATE_TRIAL, SYS_STATE_LOCKSTEP_BROKEN, SYS_STATE_ORPHAN_FORCE, SYS_STATE_FORCED, SYS_STATE_STATE]⟩,
   ⟨0x18, 0x0, 1, 0x0, 1, [SYS_RESET_CAUSE_THERMAL, SYS_RESET_CAUSE_UPDATE, SYS_RESET_CAUSE_CMD, SYS_RESET_CAUSE_SUPPLY_LOW, SYS_RESET_CAUSE_POWER_ON]⟩,
   ⟨0x20, 0x0, 1, 0x0, 1, [SYS_SUPPLY_MV_MV]⟩,
   ⟨0x24, 0x0, 1, 0x0, 1, [SYS_HOLDUP_BANK_DV, SYS_HOLDUP_CAP_10UF, SYS_HOLDUP_INTERRUPTIONS, SYS_HOLDUP_DEGRADED, SYS_HOLDUP_STATE]⟩,
   ⟨0x30, 0x0, 1, 0x0, 1, [SYS_MOTION_VALUE, SYS_MOTION_INVALID, SYS_MOTION_MOVING, SYS_MOTION_KIND]⟩,
   ⟨0x40, 0x0, 1, 0x0, 1, [SYS_LED_LAMP_TEST, SYS_LED_IDENTIFY, SYS_LED_NETB, SYS_LED_NETA, SYS_LED_TWIN, SYS_LED_DEBUG, SYS_LED_FORCE, SYS_LED_FAULT, SYS_LED_RUN, SYS_LED_PWR]⟩,
   ⟨0x400, 0x0, 1, 0x0, 1, [SYS_TXN_USE_POOL_FREE, SYS_TXN_USE_PAIR2, SYS_TXN_USE_PAIR1, SYS_TXN_USE_PAIR0]⟩,
   ⟨0x404, 0x0, 1, 0x0, 1, [SYS_TXN_PEAK_CLR, SYS_TXN_PEAK_POOL_MIN, SYS_TXN_PEAK_PAIR2, SYS_TXN_PEAK_PAIR1, SYS_TXN_PEAK_PAIR0]⟩,
   ⟨0x408, 0x0, 1, 0x0, 1, [SYS_FABRIC_ERR_DRAM_UE, SYS_FABRIC_ERR_DRAM_CE, SYS_FABRIC_ERR_SRAM_UE, SYS_FABRIC_ERR_SRAM_CE, SYS_FABRIC_ERR_DECODE_ERROR, SYS_FABRIC_ERR_CREDIT_ERROR, SYS_FABRIC_ERR_CROSSING_PARITY, SYS_FABRIC_ERR_TXN_TIMEOUT]⟩,
   ⟨0x40c, 0x0, 1, 0x0, 1, [SYS_CMD_RESET, SYS_CMD_KEY]⟩,
   ⟨0x410, 0x0, 1, 0x0, 1, [SYS_SUPPLY_MIN_MV]⟩,
   ⟨0x414, 0x0, 1, 0x0, 1, [SYS_TEMP_PEAK_C, SYS_TEMP_BOARD_C, SYS_TEMP_JUNCTION_C]⟩]

/-- The registers of the TIM block (R630). -/
def blockTIM : List RegRow :=
  [⟨0x10000, 0x0, 1, 0x0, 1, [TIM_SEC_HI_SEC_HI]⟩,
   ⟨0x10004, 0x0, 1, 0x0, 1, [TIM_SEC_LO_SEC_LO]⟩,
   ⟨0x10008, 0x0, 1, 0x0, 1, [TIM_NS_NS]⟩,
   ⟨0x1000c, 0x0, 1, 0x0, 1, [TIM_CTL_SOURCE, TIM_CTL_VALID, TIM_CTL_STEP]⟩,
   ⟨0x10010, 0x0, 1, 0x0, 1, [TIM_STEP_SEC_HI_SEC_HI]⟩,
   ⟨0x10014, 0x0, 1, 0x0, 1, [TIM_STEP_SEC_LO_SEC_LO]⟩,
   ⟨0x10018, 0x0, 1, 0x0, 1, [TIM_STEP_NS_NS]⟩,
   ⟨0x10020, 0x0, 1, 0x0, 1, [TIM_RATE_PPB_PPB]⟩,
   ⟨0x10024, 0x0, 1, 0x0, 1, [TIM_UTC_OFFSET_OFFSET]⟩,
   ⟨0x10030, 0x0, 1, 0x0, 1, [TIM_MONO_LO_MONO_LO]⟩,
   ⟨0x10034, 0x0, 1, 0x0, 1, [TIM_MONO_HI_MONO_HI]⟩,
   ⟨0x10100, 0x10, 8, 0x0, 1, [TIM_TRIGn_CTL_SEC_HI, TIM_TRIGn_CTL_LATE, TIM_TRIGn_CTL_FIRED, TIM_TRIGn_CTL_BASE, TIM_TRIGn_CTL_ENABLE]⟩,
   ⟨0x10104, 0x10, 8, 0x0, 1, [TIM_TRIGn_SEC_LO_SEC_LO]⟩,
   ⟨0x10108, 0x10, 8, 0x0, 1, [TIM_TRIGn_NS_NS]⟩,
   ⟨0x1010c, 0x10, 8, 0x0, 1, [TIM_TRIGn_PERIOD_PERIOD_US]⟩]

/-- The registers of the SCL block (R630). -/
def blockSCL : List RegRow :=
  [⟨0x30000, 0x0, 1, 0x0, 1, [SCL_CTL_RECOVER_COUNT, SCL_CTL_RESYNC_LIMIT]⟩,
   ⟨0x30004, 0x0, 1, 0x0, 1, [SCL_STATUS_RESYNCS2, SCL_STATUS_RESYNCS1, SCL_STATUS_RESYNCS0, SCL_STATUS_VOTERS, SCL_STATUS_TRIAD, SCL_STATUS_PAIR2_VSTATE, SCL_STATUS_PAIR1_VSTATE, SCL_STATUS_PAIR0_VSTATE]⟩,
   ⟨0x30008, 0x0, 1, 0x0, 1, [SCL_SKEW_MAX_US, SCL_SKEW_PERCENT]⟩,
   ⟨0x30400, 0x0, 1, 0x0, 1, [SCL_SKEW_EVENT_EVENT_US]⟩,
   ⟨0x30430, 0x0, 1, 0x0, 1, [SCL_LAST_VOTE_LATE, SCL_LAST_VOTE_DISAGREE, SCL_LAST_VOTE_AGREE, SCL_LAST_VOTE_RELEASED, SCL_LAST_VOTE_SOURCE, SCL_LAST_VOTE_TASK]⟩,
   ⟨0x30010, 0x4, 3, 0x0, 1, [SCL_LAG_COUNTn_IN_WINDOW, SCL_LAG_COUNTn_TOTAL]⟩,
   ⟨0x30410, 0x4, 3, 0x0, 1, [SCL_DISAGREE_COUNTn_TOTAL]⟩,
   ⟨0x30420, 0x4, 3, 0x0, 1, [SCL_SKEW_PEAKn_CLR, SCL_SKEW_PEAKn_PEAK_US]⟩]

/-- The registers of the TASK block (R630). -/
def blockTASK : List RegRow :=
  [⟨0x40000, 0x0, 1, 0x0, 1, [TASK_CTL_FORCE_BATCH, TASK_CTL_LATCH_FORCE_FLAG, TASK_CTL_BUDGET_CHECK]⟩,
   ⟨0x40004, 0x0, 1, 0x0, 1, [TASK_TABLE_BASE_OFFSET]⟩,
   ⟨0x40008, 0x0, 1, 0x0, 1, [TASK_STATUS_FORCES, TASK_STATUS_ORPHAN, TASK_STATUS_FORCED, TASK_STATUS_TABLE_PENDING, TASK_STATUS_STATE]⟩,
   ⟨0x40400, 0x0, 1, 0x0, 1, [TASK_FORCE_Q_OFFSET]⟩,
   ⟨0x40404, 0x0, 1, 0x0, 1, [TASK_FORCE_LAST_SEQ]⟩,
   ⟨0x40408, 0x0, 1, 0x0, 1, [TASK_CHG_Q_OFFSET]⟩,
   ⟨0x4040c, 0x0, 1, 0x0, 1, [TASK_CHG_STATUS_POSTPONED, TASK_CHG_STATUS_REFUSE, TASK_CHG_STATUS_RESULT, TASK_CHG_STATUS_PAIRS, TASK_CHG_STATUS_STATE]⟩,
   ⟨0x40410, 0x0, 1, 0x0, 1, [TASK_CHG_CYCLE_CYCLE]⟩,
   ⟨0x40100, 0x1000, 3, 0x10, 48, [TASK_Tn_STATUS_RELEASE_LO, TASK_Tn_STATUS_PRIORITY, TASK_Tn_STATUS_SKIP_CAUSE, TASK_Tn_STATUS_TRIG_PENDING, TASK_Tn_STATUS_ENABLED, TASK_Tn_STATUS_RSTATE]⟩,
   ⟨0x40104, 0x1000, 3, 0x10, 48, [TASK_Tn_SKIPS_TOTAL]⟩,
   ⟨0x40108, 0x1000, 3, 0x10, 48, [TASK_Tn_OVERRUNS_LOST_TRIGGERS, TASK_Tn_OVERRUNS_TOTAL]⟩,
   ⟨0x4010c, 0x1000, 3, 0x10, 48, [TASK_Tn_EXEC_PEAK_CLR, TASK_Tn_EXEC_PEAK_PEAK_US]⟩]

/-- The registers of the LGR block (R630). -/
def blockLGR : List RegRow :=
  [⟨0x50000, 0x0, 1, 0x0, 1, [LGR_CTL_COLD_START, LGR_CTL_MIRROR_EN]⟩,
   ⟨0x50004, 0x0, 1, 0x0, 1, [LGR_STATUS_BACKLOG, LGR_STATUS_COLD, LGR_STATUS_HELD, LGR_STATUS_MIRROR, LGR_STATUS_STATE]⟩,
   ⟨0x50008, 0x0, 1, 0x0, 1, [LGR_SLOT_HELD_SLOT, LGR_SLOT_SLOT]⟩,
   ⟨0x5000c, 0x0, 1, 0x0, 1, [LGR_COMMITS_LO_COMMIT_LO]⟩,
   ⟨0x50010, 0x0, 1, 0x0, 1, [LGR_COMMITS_HI_COMMIT_HI]⟩,
   ⟨0x50014, 0x0, 1, 0x0, 1, [LGR_MIRROR_LAG_CLR, LGR_MIRROR_LAG_PEAK, LGR_MIRROR_LAG_LAG]⟩,
   ⟨0x50400, 0x0, 1, 0x0, 1, [LGR_COMMIT_TIME_CLR, LGR_COMMIT_TIME_PEAK_US, LGR_COMMIT_TIME_LAST_US]⟩,
   ⟨0x50404, 0x0, 1, 0x0, 1, [LGR_COMMIT_SIZE_PEAK_GRANULES, LGR_COMMIT_SIZE_LAST_GRANULES]⟩,
   ⟨0x50408, 0x0, 1, 0x0, 1, [LGR_MIGRATE_TIME_CLR, LGR_MIGRATE_TIME_PEAK_US, LGR_MIGRATE_TIME_LAST_US]⟩]

/-- The registers of the CYC block (R630). -/
def blockCYC : List RegRow :=
  [⟨0x60000, 0x0, 1, 0x0, 1, [CYC_CTL_RETURN, CYC_CTL_FORCE_FALLBACK, CYC_CTL_AUTO_RETURN, CYC_CTL_CH_B_EN, CYC_CTL_CH_A_EN]⟩,
   ⟨0x60004, 0x0, 1, 0x0, 1, [CYC_STATUS_ADMITTED, CYC_STATUS_TIME_LEADER, CYC_STATUS_SYNC_LOCKED, CYC_STATUS_ANNOUNCED, CYC_STATUS_FALLBACK, CYC_STATUS_CH_B_OK, CYC_STATUS_CH_A_OK, CYC_STATUS_ROLE]⟩,
   ⟨0x60008, 0x0, 1, 0x0, 1, [CYC_CYCLE_CYCLE]⟩,
   ⟨0x6000c, 0x0, 1, 0x0, 1, [CYC_SCHED_SELECT_PENDING, CYC_SCHED_SELECT_CASE]⟩,
   ⟨0x60010, 0x0, 1, 0x0, 1, [CYC_BC_US_US]⟩,
   ⟨0x60014, 0x0, 1, 0x0, 1, [CYC_MACRO_COUNT]⟩,
   ⟨0x60018, 0x0, 1, 0x0, 1, [CYC_COMPOSITION_NEXT_KIND, CYC_COMPOSITION_NEXT_VALID, CYC_COMPOSITION_NEXT_CASE, CYC_COMPOSITION_BASELINE, CYC_COMPOSITION_CASE]⟩,
   ⟨0x60020, 0x0, 1, 0x0, 1, [CYC_NODE_TABLE_BASE_OFFSET]⟩,
   ⟨0x60400, 0x0, 1, 0x0, 1, [CYC_SCHED_BASE_OFFSET]⟩,
   ⟨0x60404, 0x0, 1, 0x0, 1, [CYC_IOC_STATUS_TABLE_ID_LO, CYC_IOC_STATUS_PENDING, CYC_IOC_STATUS_ACTIVE_HALF]⟩,
   ⟨0x60408, 0x0, 1, 0x0, 1, [CYC_FALLBACK_CFG_NODE_MISS_LIMIT, CYC_FALLBACK_CFG_RESTORE_MS]⟩,
   ⟨0x6040c, 0x0, 1, 0x0, 1, [CYC_NEXT_CYCLE_CYCLE]⟩,
   ⟨0x60410, 0x0, 1, 0x0, 1, [CYC_ADMIT_WAIT_MS]⟩,
   ⟨0x60414, 0x0, 1, 0x0, 1, [CYC_SYNC_CORR_PEAK, CYC_SYNC_PHASE_PEAK_NS]⟩,
   ⟨0x60418, 0x0, 1, 0x0, 1, [CYC_MISSES_TOTAL]⟩,
   ⟨0x6041c, 0x0, 1, 0x0, 1, [CYC_ERRORS_DCHK, CYC_ERRORS_DISCARDS]⟩]

/-- The registers of the TWN block (R630). -/
def blockTWN : List RegRow :=
  [⟨0x80000, 0x0, 1, 0x0, 1, [TWN_CTL_HB_LIMIT, TWN_CTL_STALE_TAKEOVER, TWN_CTL_PRESTART, TWN_CTL_SWAP]⟩,
   ⟨0x80004, 0x0, 1, 0x0, 1, [TWN_STATUS_PEER_STATE, TWN_STATUS_CLAIMS, TWN_STATUS_SWAP_REFUSE, TWN_STATUS_CURRENT, TWN_STATUS_LANE1_OK, TWN_STATUS_LANE0_OK, TWN_STATUS_PEER_FCN, TWN_STATUS_LINK_LOST, TWN_STATUS_SYNC_LOST, TWN_STATUS_PEER_PRESENT, TWN_STATUS_ROLE]⟩,
   ⟨0x80008, 0x0, 1, 0x0, 1, [TWN_HEARTBEAT_AGE_FCN_AGE, TWN_HEARTBEAT_AGE_LINK_AGE]⟩,
   ⟨0x80400, 0x0, 1, 0x0, 1, [TWN_TAKEOVER_COUNT, TWN_TAKEOVER_PATH, TWN_TAKEOVER_US]⟩]

/-- The registers of the GW block (R630). -/
def blockGW : List RegRow :=
  [⟨0xa0000, 0x0, 1, 0x0, 1, [GW_CTL_ENABLE]⟩,
   ⟨0xa0004, 0x0, 1, 0x0, 1, [GW_MAP_BASE_OFFSET]⟩,
   ⟨0xa0008, 0x0, 1, 0x0, 1, [GW_STATUS_PHASE_LATE, GW_STATUS_PHASE, GW_STATUS_TABLE_PENDING, GW_STATUS_STATE]⟩,
   ⟨0xa0400, 0x0, 1, 0x0, 1, [GW_COUNTS_SATURATED, GW_COUNTS_DEFAULTED]⟩]

/-- The registers of the LBB block (R630). -/
def blockLBB : List RegRow :=
  [⟨0xb0000, 0x0, 1, 0x0, 1, [LBB_CTL_REQ_POLL_EN, LBB_CTL_INBOUND_EN, LBB_CTL_GRANT_EN, LBB_CTL_ENABLE]⟩,
   ⟨0xb0004, 0x0, 1, 0x0, 1, [LBB_STATUS_QUEUE, LBB_STATUS_REQ, LBB_STATUS_BR, LBB_STATUS_LOCKED, LBB_STATUS_STATE]⟩,
   ⟨0xb0008, 0x0, 1, 0x0, 1, [LBB_TIMEOUT_HOLD_US, LBB_TIMEOUT_ACCESS_US]⟩,
   ⟨0xb0400, 0x0, 1, 0x0, 1, [LBB_IN_CFG_SIZEM1, LBB_IN_CFG_BASE]⟩,
   ⟨0xb0404, 0x0, 1, 0x0, 1, [LBB_IN_TARGET_TARGET]⟩,
   ⟨0xb0408, 0x0, 1, 0x0, 1, [LBB_REQ_COUNT3, LBB_REQ_COUNT2, LBB_REQ_COUNT1, LBB_REQ_COUNT0]⟩,
   ⟨0xb040c, 0x0, 1, 0x0, 1, [LBB_STATS_TIMEOUTS, LBB_STATS_BACKOFFS]⟩,
   ⟨0xb0410, 0x0, 1, 0x0, 1, [LBB_SAFE_BASE_OFFSET]⟩,
   ⟨0xb0100, 0x10, 16, 0x0, 1, [LBB_WINw_CFG_VALID, LBB_WINw_CFG_MEMORY_LIKE, LBB_WINw_CFG_RD, LBB_WINw_CFG_WR, LBB_WINw_CFG_AMO, LBB_WINw_CFG_PREFETCH, LBB_WINw_CFG_SIZEM1, LBB_WINw_CFG_BASE]⟩,
   ⟨0xb0104, 0x10, 16, 0x0, 1, [LBB_PREFETCH_DISCARDw_CLR, LBB_PREFETCH_DISCARDw_WORDS]⟩]

/-- The registers of the DIO block (R630). -/
def blockDIO : List RegRow :=
  [⟨0xc0000, 0x0, 1, 0x0, 1, [DIO_CTL_GROUP_CUT_EN, DIO_CTL_READBACK_EN, DIO_CTL_ENABLE]⟩,
   ⟨0xc0004, 0x0, 1, 0x0, 1, [DIO_WDT_MS]⟩,
   ⟨0xc0400, 0x0, 1, 0x0, 1, [DIO_STATUS_WDT_EXPIRIES, DIO_STATUS_LINK, DIO_STATUS_STATE]⟩,
   ⟨0xc0010, 0x4, 4, 0x0, 1, [DIO_Gg_SUPPLY_LOST_COUNT, DIO_Gg_SUPPLY_CUT, DIO_Gg_SUPPLY_LATCHED, DIO_Gg_SUPPLY_STATE, DIO_Gg_SUPPLY_MV]⟩,
   ⟨0xc0100, 0x10, 32, 0x0, 1, [DIO_CHc_CFG_FILTER, DIO_CHc_CFG_ACTION, DIO_CHc_CFG_TRIG, DIO_CHc_CFG_TIMED, DIO_CHc_CFG_RESTART_LOCK, DIO_CHc_CFG_SAFE_STATE, DIO_CHc_CFG_SAFETY, DIO_CHc_CFG_TYPE, DIO_CHc_CFG_DIR]⟩,
   ⟨0xc0104, 0x10, 32, 0x0, 1, [DIO_CHc_STATUS_LOCKED, DIO_CHc_STATUS_SAFE, DIO_CHc_STATUS_STUCK_ON, DIO_CHc_STATUS_READBACK_ERR, DIO_CHc_STATUS_THERMAL, DIO_CHc_STATUS_OVERLOAD, DIO_CHc_STATUS_INVALID, DIO_CHc_STATUS_DRIVE, DIO_CHc_STATUS_CMD, DIO_CHc_STATUS_LEVEL]⟩,
   ⟨0xc0108, 0x10, 32, 0x0, 1, [DIO_CHc_TIMING_PULSE_US]⟩,
   ⟨0xc010c, 0x10, 32, 0x0, 1, [DIO_CHc_COUNT_EDGES]⟩]

/-- The registers of the FC block (R630). -/
def blockFC : List RegRow :=
  [⟨0xd0000, 0x0, 1, 0x0, 1, [FC_CTL_RELEASE, FC_CTL_ACK]⟩,
   ⟨0xd0004, 0x0, 1, 0x0, 1, [FC_INTAKE_LO_MSG_LO]⟩,
   ⟨0xd0008, 0x0, 1, 0x0, 1, [FC_INTAKE_HI_MSG_HI]⟩,
   ⟨0xd000c, 0x0, 1, 0x0, 1, [FC_OPEN_SOURCE, FC_OPEN_KIND, FC_OPEN_REACT, FC_OPEN_CLASS, FC_OPEN_OPEN]⟩,
   ⟨0xd0010, 0x0, 1, 0x0, 1, [FC_MERGE_COUNT_COUNT]⟩,
   ⟨0xd0100, 0x0, 1, 0x0, 1, [FC_CLASS_TABLE_OFFSET]⟩,
   ⟨0xd0400, 0x0, 1, 0x0, 1, [FC_MERGE_MAP_MAP]⟩,
   ⟨0xd0404, 0x0, 1, 0x0, 1, [FC_STATUS_ENTRIES, FC_STATUS_DEFAULT, FC_STATUS_DIO_HOLD, FC_STATUS_PAIR_HOLD]⟩]

/-- The registers of the DBK block (R630). -/
def blockDBK : List RegRow :=
  [⟨0xe0000, 0x0, 1, 0x0, 1, [DBK_CTL_ARCHIVE_EN]⟩,
   ⟨0xe0004, 0x0, 1, 0x0, 1, [DBK_STATUS_PEAK, DBK_STATUS_LEVEL, DBK_STATUS_DEFAULT_TABLE, DBK_STATUS_FULL, DBK_STATUS_WRITING]⟩,
   ⟨0xe0008, 0x0, 1, 0x0, 1, [DBK_SEQ_LO_SEQ_LO]⟩,
   ⟨0xe000c, 0x0, 1, 0x0, 1, [DBK_SEQ_HI_SEQ_HI]⟩,
   ⟨0xe0010, 0x0, 1, 0x0, 1, [DBK_DROPPED_TOTAL]⟩,
   ⟨0xe0100, 0x0, 1, 0x0, 1, [DBK_RATE_TABLE_OFFSET]⟩,
   ⟨0xe0400, 0x0, 1, 0x0, 1, [DBK_ARCH_SEQ_LO_ARCH_LO]⟩,
   ⟨0xe0404, 0x0, 1, 0x0, 1, [DBK_ARCH_SEQ_HI_ARCH_HI]⟩,
   ⟨0xe0408, 0x0, 1, 0x0, 1, [DBK_OVERFLOWS_TOTAL]⟩,
   ⟨0xe040c, 0x0, 1, 0x0, 1, [DBK_SUPPRESSED_TOTAL]⟩]

/-- The registers of the CFG block (R630). -/
def blockCFG : List RegRow :=
  [⟨0xf0000, 0x0, 1, 0x0, 1, [CFG_TXN_BEGIN_BEGIN]⟩,
   ⟨0xf0004, 0x0, 1, 0x0, 1, [CFG_TXN_COMMIT_PERSIST, CFG_TXN_COMMIT_COMMIT]⟩,
   ⟨0xf0008, 0x0, 1, 0x0, 1, [CFG_TXN_ABORT_ABORT]⟩,
   ⟨0xf000c, 0x0, 1, 0x0, 1, [CFG_TXN_STATUS_WRITES, CFG_TXN_STATUS_OWNER, CFG_TXN_STATUS_BLOCK, CFG_TXN_STATUS_RESULT, CFG_TXN_STATUS_STATE]⟩,
   ⟨0xf0010, 0x0, 1, 0x0, 1, [CFG_GENERATION_GENERATION]⟩,
   ⟨0xf0014, 0x0, 1, 0x0, 1, [CFG_KEY_STATUS_REMOVALS, CFG_KEY_STATUS_WRITING, CFG_KEY_STATUS_TRIAL, CFG_KEY_STATUS_OTHER_VALID, CFG_KEY_STATUS_SLOT, CFG_KEY_STATUS_SAME_KEY, CFG_KEY_STATUS_AUTH_OK, CFG_KEY_STATUS_PRESENT]⟩,
   ⟨0xf0400, 0x0, 1, 0x0, 1, [CFG_CAL_OSC_TRIM]⟩,
   ⟨0xf0404, 0x0, 1, 0x0, 1, [CFG_CAL_DIO_G3, CFG_CAL_DIO_G2, CFG_CAL_DIO_G1, CFG_CAL_DIO_G0]⟩]

/-- The registers of the UPD block (R630). -/
def blockUPD : List RegRow :=
  [⟨0x100000, 0x0, 1, 0x0, 1, [UPD_CTL_MODE, UPD_CTL_CANCEL, UPD_CTL_FALLBACK_NOW, UPD_CTL_CONFIRM, UPD_CTL_ACTIVATE]⟩,
   ⟨0x100004, 0x0, 1, 0x0, 1, [UPD_STATE_FALLBACK_CAUSE, UPD_STATE_TRIAL_STARTS, UPD_STATE_PARTS, UPD_STATE_MODE, UPD_STATE_PHASE, UPD_STATE_STATE]⟩,
   ⟨0x100008, 0x0, 1, 0x0, 1, [UPD_REFUSE_PART, UPD_REFUSE_CODE]⟩,
   ⟨0x10000c, 0x0, 1, 0x0, 1, [UPD_CONFIRM_REMAIN_SECONDS]⟩,
   ⟨0x100400, 0x0, 1, 0x0, 1, [UPD_CLEAN_COUNT]⟩,
   ⟨0x100404, 0x0, 1, 0x0, 1, [UPD_CONFIRM_CFG_POLICY, UPD_CONFIRM_CFG_UNREADABLE_FALLBACK, UPD_CONFIRM_CFG_CONFIRM_S]⟩,
   ⟨0x100408, 0x0, 1, 0x0, 1, [UPD_CLEAN_MIN_CLEAN_MIN]⟩]

/-- The registers of the SEC block (R630). -/
def blockSEC : List RegRow :=
  [⟨0x110000, 0x0, 1, 0x0, 1, [SEC_STATUS_RESULT, SEC_STATUS_BUSY, SEC_STATUS_DEBUG_ARMED, SEC_STATUS_ERASED, SEC_STATUS_TAMPER, SEC_STATUS_OWNER, SEC_STATUS_DEVICE_KEY]⟩,
   ⟨0x110004, 0x0, 1, 0x0, 1, [SEC_CMD_GO, SEC_CMD_OP]⟩,
   ⟨0x110008, 0x0, 1, 0x0, 1, [SEC_OWNER_LOCK_UPD_LOCK]⟩,
   ⟨0x110400, 0x0, 1, 0x0, 1, [SEC_MBOX_OFFSET]⟩]

/-- The registers of the DBG block (R630). -/
def blockDBG : List RegRow :=
  [⟨0x120000, 0x0, 1, 0x0, 1, [DBG_STATUS_SCOPE, DBG_STATUS_PORT_LIVE, DBG_STATUS_COVER_OPEN, DBG_STATUS_ENABLED, DBG_STATUS_ARMED]⟩,
   ⟨0x120004, 0x0, 1, 0x0, 1, [DBG_CTL_MC_EN, DBG_CTL_PAIR_EN]⟩]

/-- The registers of the TEST block (R630). -/
def blockTEST : List RegRow :=
  [⟨0x130000, 0x0, 1, 0x0, 1, [TEST_CTL_GO, TEST_CTL_STOP, TEST_CTL_LINK, TEST_CTL_POLY, TEST_CTL_LOOP]⟩,
   ⟨0x130500, 0x0, 1, 0x0, 1, [TEST_LBB_ERRORS, TEST_LBB_WINDOW, TEST_LBB_GO, TEST_LBB_RUNNING, TEST_LBB_PASS]⟩,
   ⟨0x130100, 0x10, 64, 0x0, 1, [TEST_Ll_ERRORS_BIT_ERRORS]⟩,
   ⟨0x130104, 0x10, 64, 0x0, 1, [TEST_Ll_STATUS_FRAMES, TEST_Ll_STATUS_REFUSE, TEST_Ll_STATUS_LOCK, TEST_Ll_STATUS_RUNNING]⟩]

/-- The registers of the LANE block (R630). -/
def blockLANE : List RegRow :=
  [⟨0x20000, 0x1000, 3, 0x0, 1, [LANE_STATUS_CMP_CODE, LANE_STATUS_INJ_ENABLED, LANE_STATUS_ACTIVE_HALF, LANE_STATUS_MODE, LANE_STATUS_STATE]⟩,
   ⟨0x20004, 0x1000, 3, 0x0, 1, [LANE_CTL_FORCE_MISMATCH, LANE_CTL_SCRUB_ENABLE, LANE_CTL_INJ_ENABLE]⟩,
   ⟨0x20008, 0x1000, 3, 0x0, 1, [LANE_RESTARTS_IN_WINDOW, LANE_RESTARTS_TOTAL]⟩,
   ⟨0x2000c, 0x1000, 3, 0x0, 1, [LANE_FAIL_CAUSE_CYCLE, LANE_FAIL_CAUSE_CAUSE]⟩,
   ⟨0x20010, 0x1000, 3, 0x0, 1, [LANE_CMP_TEST_DEFERRED, LANE_CMP_TEST_LAST_RESULT, LANE_CMP_TEST_LAST_LATENCY, LANE_CMP_TEST_PASS_COUNT]⟩,
   ⟨0x20020, 0x1000, 3, 0x0, 1, [LANE_FIREWALL_BASE_OFFSET]⟩,
   ⟨0x20400, 0x1000, 3, 0x0, 1, [LANE_MISMATCH_INFO_VALID, LANE_MISMATCH_INFO_GROUP]⟩]

/-- The registers of the PRT block (R630). -/
def blockPRT : List RegRow :=
  [⟨0x70000, 0x8000, 2, 0x0, 1, [PRT_CTL_EXCLUDE_EN, PRT_CTL_CASCADE, PRT_CTL_UNIT, PRT_CTL_MODE]⟩,
   ⟨0x70004, 0x8000, 2, 0x0, 1, [PRT_STATUS_FREE_RUN_CYCLES, PRT_STATUS_KIND, PRT_STATUS_CASE, PRT_STATUS_DIR_STAGED, PRT_STATUS_CASCADE_OK, PRT_STATUS_MASTER_PORT, PRT_STATUS_FORWARDING, PRT_STATUS_STATE]⟩,
   ⟨0x70008, 0x8000, 2, 0x0, 1, [PRT_GUARD_GUARD]⟩,
   ⟨0x70400, 0x8000, 2, 0x0, 1, [PRT_WDIR_OFFSET]⟩,
   ⟨0x70404, 0x8000, 2, 0x0, 1, [PRT_LATE_CFG_WINDOW_MS, PRT_LATE_CFG_LIMIT]⟩,
   ⟨0x70408, 0x8000, 2, 0x0, 1, [PRT_SYNC_TRIM, PRT_SYNC_PHASE_NS]⟩,
   ⟨0x7040c, 0x8000, 2, 0x0, 1, [PRT_FW_SLOT, PRT_FW_VERSION]⟩,
   ⟨0x70100, 0x8000, 2, 0x10, 27, [PRT_Pp_STATUS_DELAY_NS, PRT_Pp_STATUS_LATE_IN_WINDOW, PRT_Pp_STATUS_CASCADE, PRT_Pp_STATUS_TEST, PRT_Pp_STATUS_UNINAUGURATED, PRT_Pp_STATUS_DISC_SEEN, PRT_Pp_STATUS_EXCLUDED, PRT_Pp_STATUS_LINK]⟩,
   ⟨0x70104, 0x8000, 2, 0x10, 27, [PRT_Pp_LATE_EXCLUSIONS, PRT_Pp_LATE_TOTAL]⟩,
   ⟨0x70108, 0x8000, 2, 0x10, 27, [PRT_Pp_BLOCKED_TRUNCATED, PRT_Pp_BLOCKED_BLOCKED]⟩,
   ⟨0x7010c, 0x8000, 2, 0x10, 27, [PRT_Pp_ERRORS_REPLIES, PRT_Pp_ERRORS_RX_ERRORS]⟩]

/-- The registers of the CAN block (R630). -/
def blockCAN : List RegRow :=
  [⟨0x90000, 0x1000, 8, 0x0, 1, [CAN_CTL_FD_EN, CAN_CTL_TERM, CAN_CTL_RECOVER, CAN_CTL_AUTO_RECOVER, CAN_CTL_ENABLE, CAN_CTL_MODE]⟩,
   ⟨0x90004, 0x1000, 8, 0x0, 1, [CAN_STATUS_TABLE_PENDING, CAN_STATUS_TDCV, CAN_STATUS_COLUMN, CAN_STATUS_ROW, CAN_STATUS_MATRIX_RUN, CAN_STATUS_EFF_MODE, CAN_STATUS_STATE]⟩,
   ⟨0x90008, 0x1000, 8, 0x0, 1, [CAN_NBT_TRIPLE, CAN_NBT_NSJW, CAN_NBT_NTSEG2, CAN_NBT_NTSEG1, CAN_NBT_NBRP]⟩,
   ⟨0x9000c, 0x1000, 8, 0x0, 1, [CAN_DBT_TDCO, CAN_DBT_TDC, CAN_DBT_DSJW, CAN_DBT_DTSEG2, CAN_DBT_DTSEG1, CAN_DBT_DBRP]⟩,
   ⟨0x90010, 0x1000, 8, 0x0, 1, [CAN_ERRCNT_BUSOFFS, CAN_ERRCNT_RP, CAN_ERRCNT_REC, CAN_ERRCNT_TEC]⟩,
   ⟨0x90014, 0x1000, 8, 0x0, 1, [CAN_TSCOUNT_COUNT]⟩,
   ⟨0x90018, 0x1000, 8, 0x0, 1, [CAN_MATRIX_CTL_OFFSET, CAN_MATRIX_CTL_RUN]⟩,
   ⟨0x90400, 0x1000, 8, 0x0, 1, [CAN_RX_STATUS_LOST, CAN_RX_STATUS_UNMATCHED, CAN_RX_STATUS_WR]⟩,
   ⟨0x90404, 0x1000, 8, 0x0, 1, [CAN_RX_ACK_ENTRY]⟩,
   ⟨0x90408, 0x1000, 8, 0x0, 1, [CAN_TSCAP_CNT_CAP_CNT]⟩,
   ⟨0x9040c, 0x1000, 8, 0x0, 1, [CAN_TSCAP_MONO_LO_CAP_MONO_LO]⟩,
   ⟨0x90410, 0x1000, 8, 0x0, 1, [CAN_TSCAP_MONO_HI_CAP_MONO_HI]⟩,
   ⟨0x90414, 0x1000, 8, 0x0, 1, [CAN_TX_STATS_STALE, CAN_TX_STATS_ABANDONED]⟩]

/-- Every register of the module, in block-base order (R623, R630). -/
def all : List RegRow :=
  blockSYS ++ blockTIM ++ blockLANE ++ blockSCL ++ blockTASK ++ blockLGR ++ blockCYC ++ blockPRT ++ blockTWN ++ blockCAN ++ blockGW ++ blockLBB ++ blockDIO ++ blockFC ++ blockDBK ++ blockCFG ++ blockUPD ++ blockSEC ++ blockDBG ++ blockTEST

end Reg

end Sys2Proof
end

