-- ==== Sys2Proof/Machine/State.lean ====
section
/-!
DEFINITION. The state of the module as plain data: the register field store, the memories, the structured state of
every engine, the Daybook, the queue of waiting commands, and the state after reset.
-/

namespace Sys2Proof.Machine

-- SECTION faults

/-- A fault or event on its way to the collector: who reports what, the stamps taken at the event (R486, R519), and
the snapshot words the event fills itself (R503). -/
structure Report where
  source : Nat
  kind : Nat
  /-- Class requested in FLAGS[41:40] by an application fault or the management core (R486, R489). -/
  cls : Nat
  peer : Bool
  addr : Nat
  snaps : List Nat
  mono : Nat
  sec : Nat
  ns : Nat
  unset : Bool
  cycle : Nat
  deriving DecidableEq, Repr

/-- An event in the Daybook intake FIFO (R506) with the fields of R500 known before it is written. -/
structure Event where
  code : Nat
  severity : Nat
  merged : Bool
  peer : Bool
  escalated : Bool
  fault : Nat
  suppressed : Nat
  snaps : List Nat
  mono : Nat
  sec : Nat
  ns : Nat
  unset : Bool
  cycle : Nat
  deriving DecidableEq, Repr

/-- An escalation counter of R492: the count, the window start, and the N and W of its pair. -/
structure EscCounter where
  source : Nat
  kind : Nat
  count : Nat
  t0 : Nat
  deriving DecidableEq, Repr

/-- One entry of the class table (R490). `react` holds the four reaction sets, INFO first. -/
structure ClassEntry where
  source : Nat
  kind : Nat
  base : Nat
  esc : Nat
  n : Nat
  react : List Nat
  windowMs : Nat
  deriving DecidableEq, Repr

/-- The scope of SAFE_OUTPUTS (R494). -/
inductive Scope where
  | unit
  | pair (n : Nat)
  | allTasks
  | chan (c : Nat)
  | group (g : Nat)
  | dio
  deriving DecidableEq, Repr

/-- The open fault record (R496, R497). FC_OPEN, FC_MERGE_COUNT and FC_MERGE_MAP show the rest. -/
structure FaultRecord where
  first : Nat
  openedAt : Nat
  /-- Instant at which the last action completed. -/
  lastDone : Nat
  acked : Bool
  scopes : List Scope
  /-- Pairs that the record has restarted. -/
  restarts : List Nat
  /-- Stamps of the first fault, for FAULT_CLOSED. -/
  mono : Nat
  deriving DecidableEq, Repr

/-- The fault collector (FC). -/
structure FcState where
  /-- Messages that wait for intake; none is dropped (R488). -/
  reports : List Report
  counters : List EscCounter
  /-- Class table in force; none: the defaults of R489. -/
  table : Option (List ClassEntry)
  record : Option FaultRecord
  /-- DIO channels under a hold of limited scope, bit by bit (R494). -/
  dioHold : Nat
  /-- A hold covers the outputs of all tasks (TRIAD, R494). -/
  taskHold : Bool
  /-- A release of the holds is requested (R495). -/
  releaseReq : Bool
  /-- Upper half of the last message taken in, as classified (R522). -/
  lastHi : Nat
  /-- MSG_LO of a firmware write, held until FC_INTAKE_HI is written (R488). -/
  stagedLo : Nat
  /-- Interrupts raised towards the management core and the lane runtimes (R493). -/
  interrupts : Nat
  deriving DecidableEq, Repr

-- SECTION daybook

/-- One Daybook record as written (R500). -/
structure Record where
  seq : Nat
  ev : Event
  lost : Nat
  drops : Nat
  snapSet : Nat
  snap : List Nat
  deriving DecidableEq, Repr

/-- The non-volatile Daybook: the written slots by index (a slot not listed is empty), the last SEQ, the archived
limit and the archive on eMMC (R499, R507, R509). -/
structure Daybook where
  slots : List (Nat × Record)
  lastSeq : Nat
  archSeq : Nat
  archive : List Record
  deriving DecidableEq, Repr

/-- One entry of the rate table (R504). -/
structure RateEntry where
  code : Nat
  burst : Nat
  set : Nat
  periodMs : Nat
  deriving DecidableEq, Repr

/-- The rate table in force: entries and snapshot sets (R504). -/
structure RateTable where
  entries : List RateEntry
  sets : List (List Nat)
  deriving DecidableEq, Repr

/-- Admission state of one code (R505, R506). -/
structure Bucket where
  code : Nat
  tokens : Nat
  next : Nat
  supp : Nat
  overflow : Nat
  deriving DecidableEq, Repr

/-- The Daybook engine in front of the slots. -/
structure DbkState where
  fifo : List Event
  buckets : List Bucket
  /-- Rate table in force; none: the built-in table. -/
  table : Option RateTable
  /-- Records dropped since the previous written record (LOST[31:16], R508). -/
  drops : Nat
  deriving DecidableEq, Repr

-- SECTION time

/-- The TIM block beside its registers: the latched fire times (R517). -/
structure TimState where
  /-- Armed triggers: number, next fire time in ns of its scale. -/
  armed : List (Nat × Nat)
  deriving DecidableEq, Repr

-- SECTION cfg

/-- One write of a transaction's shadow: register word offset from 0x01_0000_0000 and value. -/
structure TxnWrite where
  off : Nat
  value : Nat
  deriving DecidableEq, Repr

/-- Owner of a configuration transaction (R545). -/
inductive Owner where
  | pair (p : Nat)
  | triad
  | mc
  deriving DecidableEq, Repr

/-- An open, pending or applying configuration transaction (R545 to R548). -/
structure Txn where
  owner : Owner
  /-- Shadow writes, oldest first; for TRIAD, one list per pair in `lists`. -/
  writes : List TxnWrite
  /-- In TRIAD: the write list of each pair, with its BEGIN, COMMIT and PERSIST (R547). -/
  lists : List (Nat × List TxnWrite × Bool × Bool)
  persist : Bool
  /-- Task and release in which it began. -/
  task : Nat
  overflow : Bool
  deriving DecidableEq, Repr

/-- A generation's REGISTERS entry (R533). -/
structure RegEntry where
  addr : Nat
  value : Nat
  mask : Nat
  deriving DecidableEq, Repr

/-- An accepted generation as read: header fields and items (R533). -/
structure Generation where
  number : Nat
  profile : Nat
  consistId : Nat
  consistType : Nat
  changeOff : Nat
  changeLen : Nat
  registers : List RegEntry
  /-- Tables with their destination in the table SRAM. -/
  tables : List (Nat × List Byte)
  deriving DecidableEq, Repr

/-- Configuration and the Tally key (R530 to R551). -/
structure CfgState where
  /-- The key in the slot; none while the contact is open. -/
  key : Option TallyKey
  txn : Option Txn
  /-- Shadow writes accepted at a commit that wait for the next basic cycle start (R548). -/
  atCycle : List TxnWrite
  /-- Shadow writes that wait for the macrocycle start. -/
  atMacro : List TxnWrite
  gen : Option Generation
  /-- KEY_SERIAL and GENERATION read at start (R550). -/
  startSerial : Nat
  startGen : Nat
  /-- The start transaction has committed: RWL fields are locked (R12). -/
  locked : Bool
  /-- The unit takes SAFE at step 7: a block or table of the start transaction was refused, or outputs of the whole unit
  were held in STARTING (R542, R636). -/
  safeAtStart : Bool
  /-- The image that a persisting commit writes (R549): slot and bytes. -/
  writing : Option (Nat × List Byte)
  deriving DecidableEq, Repr

-- SECTION sec

/-- An engineering session on a service port (R556). -/
structure SessionRec where
  svc : Nat
  session : Nat
  perms : Nat
  ends : Nat
  deriving DecidableEq, Repr

/-- The secure element (R552 to R559). -/
structure SecState where
  /-- Number of the device key pair: none after an erasure (R557), 0 the factory key. -/
  deviceKey : Option Nat
  keysMade : Nat
  deviceCert : List Byte
  ownerCert : Option (List Byte)
  binding : List Byte
  /-- Outstanding nonces with their expiry (R553). -/
  nonces : List (List Byte × Nat)
  noncesMade : Nat
  sessions : List SessionRec
  /-- End of the arming of debug (R557); the scope is DBG_STATUS.SCOPE. -/
  armedUntil : Option Nat
  deriving DecidableEq, Repr

-- SECTION lane

/-- Phase of a pair restart (R54). `waiting`: the reset has ended and the restore has not begun. -/
inductive RestartPhase where
  | resetting
  | waiting
  | restoring
  deriving DecidableEq, Repr

/-- A restart in progress: its phase, the state it was entered from (IDLE or RUN, R65), whether Scales resyncs the
pair (R95), and whether the migration runs again in place of the write-back (R221). -/
structure Restart where
  phase : RestartPhase
  fromIdle : Bool
  resync : Bool
  migration : Bool
  /-- A takeover restore from the last mirrored commit (R351). -/
  takeover : Bool
  /-- Monotonic instant at which the restore began. -/
  began : Nat
  deriving DecidableEq, Repr

/-- One byte of a pair's own DRAM area held by its L1 data cache or L2 (R34, R38). -/
structure CacheByte where
  value : Byte
  dirty : Bool
  deriving DecidableEq, Repr

/-- A processing pair beside its LANE registers. -/
structure LaneState where
  restart : Option Restart
  cache : List (Nat × CacheByte)
  /-- Debug is enabled on the pair: no comparison (R66). -/
  debug : Bool
  /-- Reservation of LR/SC on the pair: address and width in bytes (R34). -/
  reservation : Option (Nat × Nat)
  /-- The self-test that runs is the one before a takeover (R354). -/
  prestart : Bool
  deriving DecidableEq, Repr

-- SECTION scales

/-- A digest stored in a vote record, in order of arrival. -/
structure DigestRec where
  pair : Nat
  value : Nat
  time : Nat
  deriving DecidableEq, Repr

/-- The vote record of a task (R85 to R92). -/
structure VoteRec where
  task : Nat
  number : Nat
  voters : List Nat
  /-- Pairs exempt under R92: re-executing or excluded from the record. -/
  exempt : List Nat
  digests : List DigestRec
  window : Option Nat
  windowEnded : Bool
  /-- Release source and agreed digest (R87). -/
  released : Option (Nat × Nat)
  noMajority : Bool
  skipped : Bool
  lag : List Nat
  disagree : List Nat
  deriving DecidableEq, Repr

/-- Scales beside its registers. -/
structure SclState where
  votes : List VoteRec
  /-- Good digests in a row of each pair in PROBATION (R93). -/
  probation : List Nat
  /-- Pairs in EXCLUDED that return to PROBATION. -/
  backToProbation : List Nat
  /-- Vote set copies into the release staging area that run: task and source (R87). -/
  copies : List (Nat × Nat)
  /-- Writes of pairs into their shadows that wait while their vote set is read (R82): pair, address, bytes and value. -/
  stalled : List (Nat × Nat × Nat × Nat)
  deriving DecidableEq, Repr

-- SECTION task

/-- An entry of the extent pool (R128). -/
structure Extent where
  start : Nat
  len : Nat
  type : Nat
  ctrl : Nat
  deriving DecidableEq, Repr

/-- A trigger entry (R129). -/
structure TrigEntry where
  src : Nat
  opt : Nat
  id : Nat
  param : Nat
  deriving DecidableEq, Repr

/-- A task descriptor with its extents and triggers (R127 to R129). Times in 100 ns. -/
structure TaskDesc where
  index : Nat
  priority : Nat
  safe : Bool
  faultPolicy : Bool
  startEnabled : Bool
  bank : Nat
  periodQ : Nat
  phase : Nat
  offset : Nat
  deadline : Nat
  budget : Nat
  inputs : List Extent
  outputs : List Extent
  triggers : List TrigEntry
  deriving DecidableEq, Repr

/-- A task release table (R126). -/
structure TaskTable where
  triad : Bool
  bcQ : Nat
  macroN : Nat
  /-- Descriptors of pairs 0, 1 and 2. -/
  descs : List (List TaskDesc)
  id : Nat
  programs : List Nat
  deriving DecidableEq, Repr

/-- A deferred request of a release (R143). -/
inductive Request where
  | trigger (t : Nat)
  | enable (t : Nat) (on : Bool)
  | appFault (n kind cls : Nat)
  | canAck (ctrl entry : Nat)
  | mc (op a1 a2 : Nat)
  deriving DecidableEq, Repr

/-- What one pair does in a release. -/
structure Part where
  pair : Nat
  started : Bool
  returned : Bool
  /-- The pair's part is dropped: skipped, trapped or discarded (R57, R136, R631). -/
  dropped : Bool
  trapped : Bool
  reexec : Bool
  budgetRaised : Bool
  /-- Scales has taken its digest (TRIAD). -/
  digested : Bool
  requests : List Request
  deriving DecidableEq, Repr

/-- Where a release stands on its way to its commit point. -/
inductive RelStage where
  | running
  | requested
  | committing
  /-- TRIAD: committed or not released; a pair may still run its body. -/
  | done
  deriving DecidableEq, Repr

/-- A release that has latched and has not reached its commit point (R111, R117). -/
structure Release where
  pair : Nat
  desc : TaskDesc
  number : Nat
  cycle : Nat
  mono : Nat
  sec : Nat
  ns : Nat
  forces : Nat
  orphan : Bool
  /-- Monotonic instant of its deadline. -/
  deadline : Nat
  trig : Option TrigData
  parts : List Part
  overrun : Bool
  /-- Its deadline has passed before Scales released it (R132). -/
  late : Bool
  stage : RelStage
  /-- Its vote record has closed (TRIAD, R85). -/
  closed : Bool
  /-- Release source (TRIAD, R87) or its own pair. -/
  source : Nat
  /-- The other agreeing pair (R143). -/
  other : Option Nat
  /-- TRIGGER_LOST has been raised during this release (R152). -/
  lostRaised : Bool
  deriving DecidableEq, Repr

/-- What the sequencer keeps of a task between releases. -/
structure TaskDyn where
  pair : Nat
  task : Nat
  next : Nat
  /-- Release number of the last committed release, in the runtime record (R171). -/
  committed : Option Nat
  pendingTrig : Option TrigData
  skipNext : Bool
  /-- ENABLED that applies from the next latch (R142). -/
  enableReq : Option Bool
  /-- EDGE_INIT entries to carry out at the first latch after a switch: SRC, DST and PARAM (R222). -/
  edges : List (Nat × Nat × Nat)
  deriving DecidableEq, Repr

/-- A force (R146). -/
structure Force where
  kind : Nat
  width : Nat
  bit : Nat
  orphan : Bool
  pair : Nat
  addr : Nat
  value : Nat
  setSeq : Nat
  deriving DecidableEq, Repr

/-- The TASK sequencer beside its registers. -/
structure TaskState where
  table : Option TaskTable
  /-- Committed table that waits for the next macrocycle start (R131). -/
  pendingTable : Option TaskTable
  releases : List Release
  dyn : List TaskDyn
  /-- SEQ last forwarded of mailbox i of pair p, by 64p + i (R145). -/
  mailSeq : List (Nat × Nat)
  /-- Force table: entry number and force (R146). -/
  forces : List (Nat × Force)
  /-- SET_SEQ values that fill in at the next basic cycle start. -/
  setSeqs : List (Nat × Nat)
  /-- Force requests that this basic cycle start may still process (R148). -/
  forceBudget : Nat
  /-- FORCED as the polls of the coming cycle carry it (R151). -/
  forcedPoll : Bool
  /-- Spaces that start cold: the INIT entries of their tasks run at the first entry to RUN_ACTIVE. -/
  coldPairs : List Nat
  /-- The unit entered DEBUG from RUN_ACTIVE: its releases go on (R66). -/
  debugRuns : Bool
  /-- Operations that the sequencer passes to the management core at this commit point (R144). -/
  mcQueue : List (Nat × Nat × Nat)
  deriving DecidableEq, Repr

-- SECTION ledger

/-- A map record (R182): current copies of the written granules, by granule number. -/
structure MapRec where
  profile : Nat
  held : Bool
  layouts : List Nat
  programs : List Nat
  sec : Nat
  ns : Nat
  releases : Nat
  copies : List (Nat × Nat)
  commit : Nat
  deriving DecidableEq, Repr

/-- A commit between its start and its commit point (R175). -/
structure Commit where
  /-- Pair and task of its releases, in request order. -/
  rels : List (Nat × Nat)
  granules : List Nat
  /-- Copies of the granules written, in the new map. -/
  copies : List (Nat × Nat)
  started : Nat
  sec : Nat
  ns : Nat
  /-- The switch commit of an online change (R219). -/
  switch : Bool
  deriving DecidableEq, Repr

/-- The Ledger beside its registers and the granule copies, which lie in the MRAM. -/
structure LgrState where
  /-- Waiting commit requests in arrival order: pair and task (R174). -/
  requests : List (Nat × Nat)
  commit : Option Commit
  lastStart : Option Nat
  /-- Valid map records by slot (R179). -/
  maps : List (Nat × MapRec)
  /-- Number of the last commit (R183). -/
  commits : Nat
  /-- Slot and record that restore and checkpoint use: the last map record. -/
  current : Option MapRec
  /-- Dirty granules: pair, task and granule (R172). -/
  dirty : List (Nat × Nat × Nat)
  /-- Granules of FRC and RT that changed outside a release, and whether a commit without releases is due (R179). -/
  loose : List Nat
  looseDue : Bool
  /-- Granule copies with an uncorrectable error, by MRAM offset. -/
  bad : List Nat
  inhibited : Bool
  /-- Commit number that the standby acknowledged last (R190). -/
  acked : Nat
  /-- Granules of later commits recorded during a full copy (R191). -/
  recorded : List Nat
  /-- The full copy has been applied and acknowledged. -/
  fullApplied : Bool
  /-- The module entry of the runtime record (R171, R544): the unit's last state, SAFE_LATCH and the update state. -/
  lastState : Nat
  safeLatch : Bool
  updEntry : Nat
  /-- The restore of this start has ended (R186). -/
  restored : Bool
  deriving DecidableEq, Repr

-- SECTION change

/-- A program image as loaded (R137): the bytes of the half, the initial state and its size. -/
structure Program where
  half : List Byte
  init : List Byte
  memsz : Nat
  deriving DecidableEq, Repr

/-- An application set: the programs by pair and the task release table's bytes (R224). -/
structure AppSet where
  programs : List (Nat × Program)
  table : List Byte
  deriving DecidableEq, Repr

/-- An entry of a migration table (R211). -/
structure MigEntry where
  op : Nat
  types : Nat
  count : Nat
  src : Nat
  dst : Nat
  param : Nat
  deriving DecidableEq, Repr

/-- A migration table (R210). -/
structure MigTable where
  oldLayout : Nat
  newLayout : Nat
  oldProgram : Nat
  newProgram : Nat
  oldUsed : Nat
  newUsed : Nat
  entries : List MigEntry
  deriving DecidableEq, Repr

/-- The change in progress (R203 to R226). -/
structure ChgState where
  seqSeen : Nat
  session : Nat
  /-- The switch boundary that the request names; from arming on the planned one (R203, R230). -/
  switchCycle : Nat
  postponeLimit : Nat
  pairs : List Nat
  /-- The change set as it lies in the staging area. -/
  payload : List Byte
  programs : List (Nat × Program)
  table : Option TaskTable
  tableBytes : List Byte
  migs : List (Nat × MigTable)
  /-- The standby has acknowledged the change set (R225). -/
  acked : Bool
  /-- All other checks have passed; the change waits for the acknowledgement. -/
  checked : Bool
  migStarted : Nat
  /-- Monotonic instant at which the boundary of the switch fell. -/
  boundaryMono : Nat
  boundaryCycle : Nat
  /-- Cyclic latches that fell due during the migration: pair, task and start of their basic cycle (R218). -/
  heldLatches : List (Nat × Nat × Nat)
  /-- The switch commit waits for a commit that still runs (R219). -/
  switchDue : Bool
  /-- Affected pairs that have restarted since the switch boundary (R219). -/
  restarted : List Nat
  /-- Application sets on eMMC: current, pending and previous (R224). -/
  current : Option AppSet
  pendingSet : Option AppSet
  previous : Option AppSet
  /-- New state of each affected pair, or of all pairs in TRIAD, as the last migration made it (R213, R221). -/
  newStates : List (Nat × List Byte)
  /-- A change set that the standby has loaded into its inactive halves (R225). -/
  standby : Option (List Byte)
  deriving DecidableEq, Repr

-- SECTION cycle network

/-- An entry of a schedule table (R249). `type` 1 POLL, 2 DATA, 3 LOCAL; `sets`: its data sets, in order. -/
structure SchedEntry where
  start : Nat
  index : Nat
  duration : Nat
  type : Nat
  group : Nat
  src : Nat
  dst : Nat
  node : Nat
  sets : List Nat
  deriving DecidableEq, Repr

/-- A schedule table (R249). -/
structure SchedTable where
  channel : Nat
  kind : Nat
  case_ : Nat
  macroN : Nat
  bcQ : Nat
  discStart : Nat
  discLen : Nat
  claimStart : Nat
  entries : List SchedEntry
  deriving DecidableEq, Repr

/-- One composition case of the schedule directory (R248): its key and its four tables, normal A, normal B,
FALLBACK_A_ONLY and FALLBACK_B_ONLY. -/
structure SchedCase where
  key : Nat
  tables : List (Option SchedTable)
  deriving DecidableEq, Repr

/-- A schedule directory (R248). -/
structure SchedDir where
  id : Nat
  cases : List SchedCase
  deriving DecidableEq, Repr

/-- A copy entry (R252). -/
structure CopyEntry where
  dsOff : Nat
  imgOff : Nat
  len : Nat
  deriving DecidableEq, Repr

/-- A data set descriptor (R252). -/
structure DsDesc where
  ds : Nat
  outbound : Bool
  channel : Nat
  local_ : Bool
  substOnStale : Bool
  arrival : Bool
  len : Nat
  producer : Nat
  missLimit : Nat
  copies : List CopyEntry
  subst : List Byte
  deriving DecidableEq, Repr

/-- An I/O copy table (R252): the DEFINED data sets. -/
structure IocTable where
  id : Nat
  sets : List DsDesc
  deriving DecidableEq, Repr

/-- A node table entry (R266). -/
structure NodeEntry where
  node : Nat
  portA : Nat
  portB : Nat
  cases : Nat
  masterCapable : Bool
  maxDelay : Nat
  idHash : List Byte
  deriving DecidableEq, Repr

/-- What the master keeps of a node: admission, misses and rate correction (R255, R264, R312). -/
structure NodeState where
  node : Nat
  /-- Named from the next macrocycle start (R312). -/
  waiting : Bool
  named : Bool
  misses : Nat
  corr : Int
  samples : Nat
  /-- Largest measurements of the running macrocycle (R283). -/
  phase : Nat
  corrPeak : Nat
  deriving DecidableEq, Repr

/-- An announced schedule change (R259). -/
structure Announce where
  case_ : Nat
  kind : Nat
  cycle : Nat
  /-- The change of kind that a loss forces: a pending case change follows it. -/
  thenCase : Option Nat
  /-- A change of case (R267), also where the case stays the same (R316). -/
  isCase : Bool
  /-- A new schedule directory takes effect with it (R251). -/
  dir : Bool
  /-- A return to the normal kind follows it (R261). -/
  thenReturn : Bool
  deriving DecidableEq, Repr

/-- State of a channel as CYC sees it (R260, R261). -/
structure ChanState where
  lost : Bool
  /-- Lost because CYC_CTL says so. -/
  forced : Bool
  deriving DecidableEq, Repr

/-- The CYC engine beside its registers. -/
structure CycState where
  dir : Option SchedDir
  /-- A committed directory that waits for its announced macrocycle start (R251). -/
  nextDir : Option SchedDir
  ioc : Option IocTable
  nextIoc : Option IocTable
  nodes : List NodeEntry
  nodeStates : List NodeState
  announce : Option Announce
  /-- A decided change that the next group 0 poll announces; it takes the place of one that is announced. -/
  decided : Option Announce
  channels : List ChanState
  /-- Consecutive misses of data set n. -/
  missCount : List (Nat × Nat)
  /-- Data sets whose record arrived intact since their last due time. -/
  arrived : List Nat
  /-- Payload of each inbound data set as CYC last accepted or substituted it (R409). -/
  payloads : List (Nat × List Byte)
  /-- Data sets that the fallback schedule in force does not carry. -/
  stale : List Nat
  /-- CYC has taken its role: LISTENING is over. -/
  started : Bool
  /-- FALLBACK decisions taken with both channels lost (R262). -/
  bothLost : Bool
  /-- RUN_ACTIVE since (R254, CYC_ADMIT_WAIT). -/
  activeSince : Nat
  admitDone : Bool
  /-- Time of the last basic cycle start. -/
  cycleStart : Nat
  /-- Polls stop: the unit surrendered (R345). -/
  silent : Bool
  /-- Monotonic instant of the last poll heard (R306). -/
  pollMono : Nat
  /-- Own COLDSTART sent and waiting for its role decision (R308). -/
  coldstartSent : Bool
  /-- A group 0 poll of another master was heard while LISTENING (R541). -/
  foreignPoll : Bool
  /-- Master of the next basic cycle (R351 step 4, R308). -/
  masterNext : Bool
  /-- The next basic cycle is cycle 0 of a network that this unit starts (R243). -/
  fresh : Bool
  /-- TWIN_ROLE that the polls of this cycle carry (R240). -/
  twinRole : Nat
  /-- Requested case (R267) that waits to be announced. -/
  caseWanted : Option Nat
  /-- Ports that each channel's STAR Porter excluded at the last basic cycle start (R302). -/
  excluded : List Nat
  /-- A time leader is designated elsewhere, and the offset of its time from this module's (R265). -/
  leaderSet : Bool
  leaderOffset : Int
  /-- Module time steps by `leaderOffset` at the next basic cycle start (R265). -/
  leaderStep : Bool
  /-- Backbone link delay in ns measured at inauguration, front and rear (R265). -/
  leaderDelay : List Nat
  deriving DecidableEq, Repr

-- SECTION inauguration

/-- The INAUGURATION exchange of the master's management core (R313 to R317). -/
structure InaugState where
  /-- Last lists received: channel A front, A rear, B front, B rear. -/
  lists : List (List Consist)
  view : List Consist
  stable : Nat
  round : Nat
  agreed : Bool
  /-- A link change started an exchange that has not agreed yet. -/
  running : Bool
  deriving DecidableEq, Repr

-- SECTION porters

/-- A window (R296). -/
structure Window where
  open_ : Nat
  index : Nat
  len : Nat
  dst : Nat
  kind : Nat
  group : Nat
  deriving DecidableEq, Repr

/-- A window table: windows by port (R296). -/
structure WindowTable where
  case_ : Nat
  kind : Nat
  ports : List (List Window)
  deriving DecidableEq, Repr

/-- A window directory (R295): per case, the normal table and the fallback table of the channel's kind. -/
structure WindowDir where
  channel : Nat
  id : Nat
  guard : Nat
  bcQ : Nat
  macroN : Nat
  masterPorts : Nat
  portNode : List Nat
  cases : List (Nat × Option WindowTable × Option WindowTable)
  deriving DecidableEq, Repr

/-- A Porter beside its registers. -/
structure PrtState where
  /-- Banks in Porter-local non-volatile memory (R294). -/
  current : Option WindowDir
  staged : Option WindowDir
  /-- Frames forwarded in windows: port (100 + egress port for an INAUGURATION frame of port 26), index of the window
  and cycle in which it opened (R299). -/
  used : List (Nat × Nat × Nat)
  /-- The window that a forwarded frame occupies, by port: (port, window). -/
  busy : List (Nat × Nat)
  /-- First LATE event of each port's window (R302). -/
  lateSince : List (Nat × Nat)
  /-- Group 0 poll forwarded from the master port in this cycle; SURRENDER forwarded in cycle c (R348). -/
  pollCycle : Option Nat
  surrenderCycle : Option Nat
  claimCycle : Option Nat
  /-- Announced change that the Porter follows: case, kind, cycle. -/
  next : Option (Nat × Nat × Nat)
  /-- Settings kept in non-volatile memory (R321): mode, unit, cascade, exclude, guard, window, limit. -/
  nvMode : Nat
  nvUnit : Nat
  nvCascade : Nat
  nvExclude : Nat
  nvGuard : Nat
  nvWindowMs : Nat
  nvLimit : Nat
  deriving DecidableEq, Repr

-- SECTION twin

/-- The twin unit's engine beside its registers. -/
structure TwnState where
  /-- SURRENDER to send in the unit's own claim slot: its REASON (R342, R345). -/
  surrender : Option Nat
  /-- A CLAIM with INTENT TAKE is due in the next own claim slot; the path of TWN_TAKEOVER.PATH. -/
  claiming : Option Nat
  /-- Claim only from the next basic cycle on. -/
  claimNextCycle : Bool
  /-- Reference instant of R352. -/
  refMono : Nat
  /-- Last cycle in which a group 0 poll was received, and consecutive cycles without one. -/
  pollSeen : Nat
  pollAge : Nat
  /-- A group 0 poll was received in this basic cycle. -/
  polledNow : Bool
  /-- Reported by the twin's STAR Porter: PRT_STATUS, excluded ports, staged TABLE_ID. -/
  peerPrt : Nat
  peerExcluded : Nat
  peerStaged : Nat
  /-- Per channel, basic cycles since a frame on it or a status message of its STAR Porter in the twin (R349). -/
  chanAge : List Nat
  /-- Cycle of the last SURRENDER received: it arrives on both channels. -/
  surrenderSeen : Option Nat
  peerCommit : Nat
  peerSync : Bool
  peerSwapping : Bool
  peerChanging : Bool
  peerTrial : Bool
  /-- A role swap runs: accepted and started, cycles waited, SURRENDER sent (R356). -/
  swap : Option (Nat × Bool)
  swapSent : Bool
  /-- Step 3 of R351 runs. -/
  takingOver : Bool
  /-- Fault messages of Porters in the twin that are to be raised go to the collector at once; those of this unit's
  Porters wait here for the next status message (R339). -/
  porterFaults : List (Nat × Nat)
  conflict : Bool
  deriving DecidableEq, Repr

-- SECTION can

/-- A column of a CAN matrix (R375). -/
structure CanColumn where
  start : Nat
  len : Nat
  frame : Nat
  type : Nat
  deriving DecidableEq, Repr

/-- A receive filter (R385). -/
structure CanFilter where
  id : Nat
  mask : Nat
  flags : Nat
  deriving DecidableEq, Repr

/-- A schedule matrix (R374 to R376); `cells` holds the rows. -/
structure CanMatrix where
  lock : Bool
  cycleUs : Nat
  id : Nat
  columns : List CanColumn
  cells : List (List Nat)
  filters : List CanFilter
  deriving DecidableEq, Repr

/-- The attempts of a cell occurrence: mailbox, column, the mailbox bytes at the occurrence, and what was published into the mailbox
since, with the time-stamp count (R381). -/
structure CanAttempt where
  mailbox : Nat
  column : Nat
  onUpdate : Bool
  captured : List Byte
  published : List (Nat × List Byte)
  deriving DecidableEq, Repr

/-- A gateway receive latch (R411): the payload of the last frame, its time stamp and its number among the latch's frames. -/
structure CanLatch where
  data : List Byte
  ts : Nat
  number : Nat
  deriving DecidableEq, Repr

/-- A CAN controller beside its registers and its message RAM. -/
structure CanState where
  matrix : Option CanMatrix
  /-- A committed matrix that waits for the next basic cycle start (R28). -/
  next : Option CanMatrix
  /-- Row of the next CAN basic cycle without LOCK (R378). -/
  rowNext : Nat
  attempt : Option CanAttempt
  /-- The sending mailbox was published during its attempt: ARMED at its end (R383). -/
  rearm : Bool
  /-- Monotonic ns of the last capture, latched into the MONO registers by a read of CAN_TSCAP_CNT (R406). -/
  capMono : Nat
  /-- Gateway receive latches by filter index (R411). -/
  latches : List (Nat × CanLatch)
  /-- Attempts wait for the next basic cycle start after integration or recovery (R395). -/
  waits : Bool
  deriving DecidableEq, Repr

-- SECTION gateway

/-- A phase descriptor (R413). -/
structure GwPhase where
  start : Nat
  period : Nat
  phase : Nat
  first : Nat
  count : Nat
  deriving DecidableEq, Repr

/-- A signal entry (R414). -/
structure GwEntry where
  srcKind : Nat
  dstKind : Nat
  flags : Nat
  srcId : Nat
  dstId : Nat
  srcOff : Nat
  dstOff : Nat
  srcBit : Nat
  dstBit : Nat
  srcLen : Nat
  dstLen : Nat
  num : Int
  den : Nat
  offset : Int
  min : Int
  max : Int
  dflt : Int
  deriving DecidableEq, Repr

/-- A mailbox template (R417). -/
structure GwTemplate where
  ctrl : Nat
  mbx : Nat
  ctrlw : Nat
  id : Nat
  valid : Nat
  deriving DecidableEq, Repr

/-- A gateway map (R412). -/
structure GwMap where
  id : Nat
  phases : List GwPhase
  entries : List GwEntry
  templates : List GwTemplate
  deriving DecidableEq, Repr

/-- A phase that runs (R419, R420): its index, the destination bytes of its working copy by destination key, the entries
that have run, and the map under which it runs (R422). -/
structure GwRun where
  phase : Nat
  work : List (Nat × Byte)
  entries : List Nat
  map : GwMap
  deriving DecidableEq, Repr

/-- The gateway (GW) beside its registers. -/
structure GwState where
  map : Option GwMap
  next : Option GwMap
  run : Option GwRun
  /-- Bytes that the gateway last wrote, by destination key (R415). -/
  dest : List (Nat × Byte)
  /-- Latch frame numbers at the previous run of each phase: phase, latch key and number (R409). -/
  seen : List (Nat × Nat × Nat)
  /-- A basic cycle start has come since RUN_ACTIVE or the takeover (R408). -/
  started : Bool
  deriving DecidableEq, Repr

-- SECTION bridge

/-- A word of the prefetch buffer (R435). -/
structure PrefetchWord where
  window : Nat
  addr : Nat
  word : Nat
  deriving DecidableEq, Repr

/-- A held read of the matcher (R434): `result` is none for a bus error. -/
structure HeldRead where
  task : Nat
  number : Nat
  index : Nat
  addr : Nat
  bytes : Nat
  result : Option Nat
  deriving DecidableEq, Repr

/-- An outbound transaction that waits for the bus (R428), with the answers of the cards. -/
structure F2Txn where
  who : Initiator
  op : BusOp
  addr : Nat
  cards : List CardReply
  deriving DecidableEq, Repr

/-- The F2 backplane bridge (LBB) beside its registers. -/
structure LbbState where
  buffer : List PrefetchWord
  /-- Next words to prefetch: window, F2 address and count. -/
  due : Option (Nat × Nat × Nat)
  waiting : List F2Txn
  /-- FBG# is asserted. -/
  granted : Bool
  ackStuck : Bool
  held : List HeldRead
  /-- Reads issued by each pair in its release: pair, task, release number and count. -/
  reads : List (Nat × Nat × Nat × Nat)
  /-- Writes of the safe table in force: F2 address and value (R437). -/
  safe : List (Nat × Nat)
  deriving DecidableEq, Repr

-- SECTION dio

/-- The DIO island beside its registers. Channel sets are bit maps. -/
structure DioState where
  /-- EDGE bits since the previous exchange (R454). -/
  edges : Nat
  /-- REARM of the last intact delivery; none before the first. -/
  rearm : Option Nat
  /-- Value driven when the safe state began (HOLD, R466). -/
  holdValue : Nat
  /-- Driver value of the timed function (R474). -/
  timed : Nat
  /-- Latch instants by channel (R461). -/
  latches : List (Nat × Nat)
  /-- The last intact delivery carried PRODUCER_VALID 0. -/
  invalidDelivery : Bool
  /-- The watchdog has expired and no delivery has ended the safe state. -/
  wdtSafe : Bool
  /-- An expiry that the next intact delivery reports (R467). -/
  wdtReport : Bool
  delivered : Bool
  /-- Filtered level of the inputs, which LEVEL hides in LOST (R459). -/
  filt : Nat
  /-- Outputs that take their CMD value only at the next intact delivery (R473). -/
  waits : Nat
  deriving DecidableEq, Repr

-- SECTION interconnect

/-- A crossing FIFO in one direction (R16): its entries with their parity, the entries that the sender holds for want
of a credit, and the sender's credits. -/
structure Crossing where
  src : Nat
  dst : Nat
  fifo : List (BitVec 64 × Bool)
  held : List (BitVec 64 × Bool)
  credits : Nat
  deriving DecidableEq, Repr

-- SECTION update

/-- A requirement of a part entry (R568); versions as major, minor, patch in [23:0]. -/
structure UpdReq where
  rpart : Nat
  min : Nat
  max : Nat
  deriving DecidableEq, Repr

/-- A part entry (R568). -/
structure PkgPart where
  part : Nat
  enc : Bool
  keyId : Nat
  version : Nat
  off : Nat
  len : Nat
  nonce : List Byte
  digest : List Byte
  reqs : List UpdReq
  deriving DecidableEq, Repr

/-- The header of an update package and its part entries (R567). -/
structure Package where
  id : Nat
  vendor : Bool
  total : Nat
  variant : Nat
  hwMin : Nat
  hwMax : Nat
  parts : List PkgPart
  deriving DecidableEq, Repr

/-- The firmware of a part: its slot in use, and version, requirements and payload of each slot (R569, R575). -/
structure FwPart where
  part : Nat
  cur : Nat
  versions : List Nat
  reqs : List (List UpdReq)
  payloads : List (List Byte)
  deriving DecidableEq, Repr

/-- The update policy in force (R573). -/
structure UpdPolicy where
  kind : Nat
  area : Nat
  off : Nat
  bit : Nat
  unreadable : Bool
  ds : Nat
  threshold : Nat
  nominal : Nat
  permille : Nat
  confirmS : Nat
  cleanMin : Nat
  deriving DecidableEq, Repr

/-- The boot record in eMMC (R578, R583, R586). -/
structure BootRecord where
  trial : Bool
  fallingBack : Bool
  /-- The trial is one of a Porter package (R580): no module reset. -/
  porters : Bool
  starts : Nat
  remain : Nat
  clean : Nat
  cause : Nat
  deriving DecidableEq, Repr

/-- The update system (R567 to R596). -/
structure UpdState where
  /-- Step 1 of R578 runs: no release latches. -/
  quiescing : Bool
  /-- Basic cycles for which it has run. -/
  quiesceCycles : Nat
  /-- The package that is staged or was last activated, and the plaintext of its parts. -/
  pkg : Option Package
  plain : List (Nat × List Byte)
  slots : List FwPart
  boot : BootRecord
  /-- An activation of each part in turn (R581): the part under its start check and the parts that follow. -/
  partNow : Option Nat
  partQueue : List Nat
  partsConfirmed : List Nat
  /-- Porters that still restart: into their new slot, or back into their old one (R580, R586). -/
  porterQueue : List Nat
  porterDone : List Nat
  policy : UpdPolicy
  /-- Monotonic instant of the last sag, and since when MOVING has read 0. -/
  sagAt : Option Nat
  restSince : Option Nat
  /-- Faults and restarts of this basic cycle (R583). -/
  cycleClean : Bool
  /-- Basic cycle since which the unit has been in RUN_ACTIVE or RUN_STANDBY. -/
  runSince : Option Nat
  /-- Monotonic instant at which the window last counted down. -/
  secondAt : Nat
  /-- A confirmation or a fallback that waits: for the key (R584), or for a swap (R586). -/
  confirmDue : Bool
  fallbackDue : Option Nat
  /-- The selected record cannot be read (R587). -/
  unreadable : Bool
  deriving DecidableEq, Repr

-- SECTION environment

/-- Power, connectors and environment beside their registers (R599 to R619). -/
structure EnvState where
  /-- LOW has come: commits are inhibited and the reset follows (R600). -/
  low : Bool
  mateOpen : Bool
  /-- Processing is held in reset by temperature (R614) or by the hardware reset level. -/
  thermalHold : Bool
  hwHold : Bool
  /-- OVERTEMP and TEMP_CRITICAL stand: raised and not yet below their hysteresis. -/
  overRaised : Bool
  critRaised : Bool
  deriving DecidableEq, Repr


-- SECTION outward signals

/-- The body of an FCN frame that the module sends. -/
inductive TxBody where
  | poll (b : PollBody)
  | data (records : List DsRecord)
  | claim (b : ClaimBody)
  | surrender (b : SurrenderBody)
  | coldstart (b : ColdstartBody)
  | inaug (b : InaugBody)
  | reply (b : ReplyBody)
  deriving DecidableEq, Repr

/-- What a command sends out of the module or to another of its processors. -/
inductive Out where
  /-- A commit on its way to the standby over the twin link (R190). -/
  | mirror (c : MirrorCommit)
  /-- The change set on its way to the standby, and its acknowledgement (R225). -/
  | changeSet (bytes : List Byte)
  | changeAck
  /-- NOTIFY of an application event mailbox (R145): an interrupt to the management core. -/
  | notifyMc (code : Nat)
  /-- The runtime enters a body (R138, R140): pair, task, entry address, latch bank (a0), staging area or shadow (a1),
  trigger data (a2) and state region (gp). -/
  | body (pair task entry a0 a1 : Nat) (trig : Option TrigData) (gp : Nat)
  /-- The runtime runs an INIT entry (R118): pair, task and entry address. -/
  | init (pair task entry : Nat)
  /-- F2 cycles (R426): write or read, F2 byte address, byte strobes (1 lower, 2 upper) and write data. -/
  | f2 (write : Bool) (addr strobes data : Nat)
  /-- FLOCK# asserted or released (R427). -/
  | flock (on : Bool)
  /-- FBG# asserted or released (R430). -/
  | fbg (on : Bool)
  /-- Acknowledge of an inbound access with its read data (R431). -/
  | fack (data : Nat)
  /-- The response to a transaction that had waited. -/
  | completed (who : Initiator) (data : Option Nat)
  /-- An FCN frame that CYC sends: channel, SRC, DST, CASE, CYCLE and body (R236). -/
  | frame (ch src dst case_ cycle : Nat) (b : TxBody)
  /-- A frame that a Porter sends on: Porter, ingress, egress ports, and what it carries (R299). -/
  | forward (s port : Nat) (dst : List Nat) (f : PorterFrame)
  /-- The egress frame of a port ends with an error symbol (R300). -/
  | truncate (s port : Nat)
  /-- A discovery reply goes back out of its ingress port (R311). -/
  | reflect (s port : Nat)
  /-- A cascade probe (R290). -/
  | probe (s : Nat)
  /-- A heartbeat on a twin lane (R338). -/
  | heartbeat (lane : Nat) (b : Heartbeat)
  /-- A Porter's status message in its lane (R339). -/
  | porterStatus (lane : Nat) (b : PorterStatusMsg)
  /-- A CAN frame: controller and the mailbox bytes it carried (R381). -/
  | canFrame (n : Nat) (mailbox : List Byte)
  /-- A TEST frame on a twin lane: sent, or returned to the peer (R616). -/
  | testFrame (lane : Nat) (echo : Bool)
  deriving DecidableEq, Repr

/-- The response to the initiator of a command. -/
inductive Resp where
  | ok
  | data (v : Nat)
  | busError
  /-- Result of a runtime service: a0, a1, a2 (R142). -/
  | service (a0 : Int) (a1 a2 : Nat)
  deriving DecidableEq, Repr

/-- Everything of the module but the command queue and the Daybook's slots. -/
structure Mod where
  /-- Register fields that differ from their reset value, by their bit address, ascending. -/
  regs : List (Nat × Nat)
  /-- Bytes of the memories of R621 that differ from 0, by physical address, ascending. -/
  mem : List Host.Cell
  /-- Monotonic ns since power-up (R512). -/
  now : Nat
  /-- Module time in 10^-9 ns (R511, R516). -/
  modTime : Nat
  /-- Free values taken so far (the model's own counter). -/
  free : Nat
  out : List Out
  resp : Option Resp
  fc : FcState
  dbk : DbkState
  tim : TimState
  cfg : CfgState
  sec : SecState
  /-- Pairs 0, 1 and 2. -/
  lanes : List LaneState
  scl : SclState
  task : TaskState
  lgr : LgrState
  chg : ChgState
  cyc : CycState
  inaug : InaugState
  /-- Porters A and B of this module. -/
  prt : List PrtState
  twn : TwnState
  /-- CAN controllers 0 to 7. -/
  can : List CanState
  gw : GwState
  lbb : LbbState
  dio : DioState
  crossings : List Crossing
  upd : UpdState
  env : EnvState
  deriving DecidableEq, Repr

/-- The state of the machine: the commands that wait, the Daybook in MRAM and the rest of the module. -/
structure State where
  pending : List Instr
  daybook : Daybook
  mod : Mod
  deriving DecidableEq, Repr

/-- Faults that stop the machine. No command of this block stops it: the manual gives every command an effect or a
refusal by bus error, so nothing raises this. -/
inductive Fault where
  /-- Raised by nothing (safe). -/
  | none
  deriving DecidableEq, Repr

/-- Refusals. -/
inductive Refusal where
  /-- A command that the model gives no meaning (safe: nothing can be proved of it). -/
  | notModelled (mnemonic : String)
  deriving DecidableEq, Repr

def FcState.reset : FcState := ⟨[], [], none, none, 0, false, false, 0, 0, 0⟩
def DbkState.reset : DbkState := ⟨[], [], none, 0⟩
def TimState.reset : TimState := ⟨[]⟩
def CfgState.reset : CfgState := ⟨none, none, [], [], none, 0, 0, false, false, none⟩
def SecState.reset : SecState := ⟨some 0, 0, Config.factoryCert, none, [], [], 0, [], none⟩
def LaneState.reset : LaneState := ⟨none, [], false, none, false⟩
def SclState.reset : SclState := ⟨[], [], [], [], []⟩
def TaskState.reset : TaskState := ⟨none, none, [], [], [], [], [], 0, false, [], false, []⟩
/-- The policy without a valid policy table (R573). -/
def UpdPolicy.default : UpdPolicy := ⟨0, 0, 0, 0, true, 0, 50, 240, 900, 900, 10000⟩
def BootRecord.reset : BootRecord := ⟨false, false, false, 0, 0, 0, 0⟩
/-- The parts as built: slot 0 in use (the versions are Config's). -/
def FwPart.built (p : Nat) : FwPart := ⟨p, 0, [Config.firmwareVersion p 0, Config.firmwareVersion p 1], [[], []], [[], []]⟩
def UpdState.reset : UpdState where
  quiescing := false
  quiesceCycles := 0
  pkg := none
  plain := []
  slots := [.built 1, .built 2, .built 3, .built 4, .built 5, .built 6, .built 7]
  boot := .reset
  partNow := none
  partQueue := []
  partsConfirmed := []
  porterQueue := []
  porterDone := []
  policy := .default
  sagAt := none
  restSince := none
  cycleClean := true
  runSince := none
  secondAt := 0
  confirmDue := false
  fallbackDue := none
  unreadable := false
def LgrState.reset : LgrState := ⟨[], none, none, [], 0, none, [], [], false, [], false, 0, [], false, 0, false, 0, false⟩
def ChgState.reset : ChgState := ⟨0, 0, 0, 0, [], [], [], none, [], [], false, false, 0, 0, 0, [], false, [], none, none, none, [], none⟩

def CycState.reset : CycState where
  dir := none
  nextDir := none
  ioc := none
  nextIoc := none
  nodes := []
  nodeStates := []
  announce := none
  decided := none
  channels := [⟨false, false⟩, ⟨false, false⟩]
  missCount := []
  arrived := []
  payloads := []
  stale := []
  started := false
  bothLost := false
  activeSince := 0
  admitDone := false
  cycleStart := 0
  silent := false
  pollMono := 0
  coldstartSent := false
  foreignPoll := false
  masterNext := false
  fresh := false
  twinRole := 0
  caseWanted := none
  excluded := [0, 0]
  leaderSet := false
  leaderOffset := 0
  leaderStep := false
  leaderDelay := [0, 0]
def InaugState.reset : InaugState := ⟨[[], [], [], []], [], 0, 0, false, false⟩
def PrtState.reset : PrtState where
  current := none
  staged := none
  used := []
  busy := []
  lateSince := []
  pollCycle := none
  surrenderCycle := none
  claimCycle := none
  next := none
  nvMode := 0
  nvUnit := 0
  nvCascade := 0
  nvExclude := 1
  nvGuard := 10
  nvWindowMs := 1000
  nvLimit := 4
def TwnState.reset : TwnState where
  surrender := none
  claiming := none
  claimNextCycle := false
  refMono := 0
  pollSeen := 0
  pollAge := 0
  polledNow := false
  peerPrt := 0
  peerExcluded := 0
  peerStaged := 0
  chanAge := [0, 0]
  surrenderSeen := none
  peerCommit := 0
  peerSync := false
  peerSwapping := false
  peerChanging := false
  peerTrial := false
  swap := none
  swapSent := false
  takingOver := false
  porterFaults := []
  conflict := false

def CanState.reset : CanState := ⟨none, none, 0, none, false, 0, [], false⟩
def GwState.reset : GwState := ⟨none, none, none, [], [], false⟩
def LbbState.reset : LbbState := ⟨[], none, [], false, false, [], [], []⟩
def DioState.reset : DioState := ⟨0, none, 0, 0, [], false, false, false, false, 0, 0⟩

/-- The module at power-on (R543: BOOT), every register at its reset value. -/
def Mod.reset : Mod where
  regs := []
  mem := []
  now := 0
  modTime := 0
  free := 0
  out := []
  resp := none
  fc := .reset
  dbk := .reset
  tim := .reset
  cfg := .reset
  sec := .reset
  lanes := [.reset, .reset, .reset]
  scl := .reset
  task := .reset
  lgr := .reset
  chg := .reset
  cyc := .reset
  inaug := .reset
  prt := [.reset, .reset]
  twn := .reset
  can := List.replicate 8 .reset
  gw := .reset
  lbb := .reset
  dio := .reset
  crossings := []
  upd := .reset
  env := ⟨false, false, false, false, false, false⟩

/-- The machine right after reset. -/
def State.reset : State := ⟨[], ⟨[], 0, 0, []⟩, .reset⟩

end Sys2Proof.Machine
end

