-- ==== Sys2Proof/Machine/Ops.lean ====
section
/-!
DEFINITION. The named operations over the state: register fields, memory, time, checks (CRC), outward signals, fault
messages (R486, R519) and Daybook admission (R505, R506).
-/

namespace Sys2Proof.Machine

/-- The outcome of a command. -/
abbrev Outcome := Host.Outcome State Fault Refusal

/-- The module as a command meets it: no signal and no response left from the command before. -/
def Mod.fresh (m : Mod) : Mod := { m with out := [], resp := none }

/-- A meaning that acts on the module alone. -/
def run (s : State) (f : Mod → Mod) : Outcome := .next { s with mod := f s.mod.fresh }

/-! ### Sparse data by key -/

/-- The value listed at key `k`. -/
def alGet {α : Type} : List (Nat × α) → Nat → Option α
  | [], _ => none
  | (j, v) :: r, k => if j = k then some v else alGet r k

/-- The list with `v` at key `k`, keys ascending. -/
def alSet {α : Type} : List (Nat × α) → Nat → α → List (Nat × α)
  | [], k, v => [(k, v)]
  | (j, w) :: r, k, v =>
    if j < k then (j, w) :: alSet r k v
    else if j = k then (k, v) :: r
    else (k, v) :: (j, w) :: r

/-- The list with nothing at key `k`. -/
def alDel {α : Type} (l : List (Nat × α)) (k : Nat) : List (Nat × α) := l.filter (fun e => e.1 != k)

/-- Element `n` of a list changed. -/
def updAt {α : Type} (l : List α) (n : Nat) (f : α → α) : List α := l.modify n f

/-- The first element that satisfies `p`, changed. -/
def updFirst {α : Type} (p : α → Bool) (f : α → α) : List α → List α
  | [] => []
  | a :: r => if p a then f a :: r else a :: updFirst p f r

/-- `x` inserted before the first element that it precedes strictly. -/
def insertBy {α : Type} (lt : α → α → Bool) (x : α) : List α → List α
  | [] => [x]
  | a :: r => if lt x a then x :: a :: r else a :: insertBy lt x r

/-- The list in ascending order; equal elements keep their order. -/
def sortBy {α : Type} (lt : α → α → Bool) (l : List α) : List α := l.foldl (fun a x => insertBy lt x a) []

/-! ### Register fields -/

/-- Value of a register field instance. -/
def Mod.get (m : Mod) (f : Fld) (i j : Nat := 0) : Nat := (alGet m.regs (f.key i j)).getD f.reset

/-- A register field instance set to `v` (its low bits). -/
def Mod.put (m : Mod) (f : Fld) (v : Nat) (i j : Nat := 0) : Mod :=
  let x := v % 2 ^ f.width
  if x = f.reset then { m with regs := alDel m.regs (f.key i j) }
  else { m with regs := alSet m.regs (f.key i j) x }

/-- Whether a field instance is not 0. -/
def Mod.flag (m : Mod) (f : Fld) (i j : Nat := 0) : Bool := m.get f i j != 0

/-- A counter field counts up by `n` and saturates. -/
def Mod.count (m : Mod) (f : Fld) (n : Nat) (i j : Nat := 0) : Mod :=
  m.put f (min (2 ^ f.width - 1) (m.get f i j + n)) i j

/-- A peak field holds the largest value seen, saturating. -/
def Mod.peak (m : Mod) (f : Fld) (v : Nat) (i j : Nat := 0) : Mod :=
  m.put f (max (m.get f i j) (min (2 ^ f.width - 1) v)) i j

/-! ### Memory -/

/-- The byte at a physical address; a byte that nothing has written reads 0 (notes/assumptions/3.md). -/
def Mod.rd8 (m : Mod) (a : Nat) : Byte := (alGet m.mem a).getD 0

/-- A byte written; the memory keeps its canonical form. -/
def Mod.wr8 (m : Mod) (a : Nat) (b : Byte) : Mod :=
  if b = 0 then { m with mem := alDel m.mem a } else { m with mem := alSet m.mem a b }

/-- `n` bytes from address `a`. -/
def Mod.rdBytes (m : Mod) (a : Nat) : Nat → List Byte
  | 0 => []
  | n + 1 => m.rd8 a :: m.rdBytes (a + 1) n

/-- Bytes written from address `a` upward. -/
def Mod.wrBytes (m : Mod) (a : Nat) : List Byte → Mod
  | [] => m
  | b :: bs => (m.wr8 a b).wrBytes (a + 1) bs

/-- Little-endian number of `n` bytes at `a`. -/
def Mod.rdLE (m : Mod) (a n : Nat) : Nat := leNat (m.rdBytes a n)

/-- Little-endian number of `n` bytes written at `a`. -/
def Mod.wrLE (m : Mod) (a n v : Nat) : Mod := m.wrBytes a (leBytes n v)

/-- `n` bytes copied from `src` to `dst`. -/
def Mod.copy (m : Mod) (dst src n : Nat) : Mod := m.wrBytes dst (m.rdBytes src n)

/-- `n` bytes at `a` set to 0. -/
def Mod.clear (m : Mod) (a n : Nat) : Mod :=
  { m with mem := m.mem.filter (fun c => c.1 < a || a + n ≤ c.1) }

/-- The canonical form of a memory: addresses strictly rising, no byte that reads as an unlisted one does. -/
abbrev Memory.wf (l : List Host.Cell) : Prop := List.Pairwise (fun a b => a.1 < b.1) l ∧ ∀ c ∈ l, c.2 ≠ 0

/-! ### Bases of the address map (R621, R167, R180, R369) -/

def tcmBase (p : Nat) : Nat := 0x10000000 + 0x400000 * p
/-- Base of a program half of pair `p`: 0 H0, 1 H1 (R621). -/
def halfBase (p h : Nat) : Nat := tcmBase p + 0x1C0000 * h
/-- Base of the runtime region's state region of pair `p` (R26, R621). -/
def stateBase (p : Nat) : Nat := tcmBase p + 0x380000
def piBase : Nat := 0x20000000
def tableBase : Nat := 0x38000000
def mramBase : Nat := 0x40000000
def dramBase : Nat := 0x80000000
def regBase : Nat := 0x100000000
def canRam (n : Nat) : Nat := 0x100140000 + 0x4000 * n
def inBank (b : Nat) : Nat := piBase + 0x10000 * b
def outBank (b : Nat) : Nat := piBase + 0x20000 + 0x10000 * b
def latchBank (p k : Nat) : Nat := piBase + 0x40000 + 0x10000 * (4 * p + k)
def shadowBase (p : Nat) : Nat := piBase + 0x100000 + 0x20000 * p
def stagingBase : Nat := piBase + 0x160000
def outRecord : Nat := piBase + 0x180000
def inView : Nat := piBase + 0x190000
def forceBase : Nat := piBase + 0x1A0000
def inSelect : Nat := piBase + 0x1A4000
def outSelect : Nat := piBase + 0x1A4200
def iocBase : Nat := piBase + 0x200000

/-! ### Time (R511, R512, R516) -/

/-- Module time, seconds. -/
def Mod.secs (m : Mod) : Nat := m.modTime / 10 ^ 18
/-- Module time, nanoseconds. -/
def Mod.nanos (m : Mod) : Nat := m.modTime / 10 ^ 9 % 10 ^ 9
/-- What module time gains in one monotonic nanosecond, in 10^-9 ns: TIM_RATE_PPB (R516). -/
def Mod.timeRate (m : Mod) : Nat := (10 ^ 9 + sext 32 (m.get Reg.TIM_RATE_PPB_PPB)).toNat
/-- Module time set to a whole nanosecond. -/
def Mod.setTime (m : Mod) (s n : Nat) : Mod := { m with modTime := s * 10 ^ 18 + n * 10 ^ 9 }

/-! ### The unit -/

/-- SYS_STATE.STATE codes (R562). -/
def stBOOT : Nat := 0
def stCONFIG : Nat := 1
def stSTARTING : Nat := 2
def stACTIVE : Nat := 3
def stSTANDBY : Nat := 4
def stSAFE : Nat := 5
def stSURRENDERED : Nat := 6
def stDEBUG : Nat := 7

def Mod.unit (m : Mod) : Nat := m.get Reg.SYS_STATE_STATE
/-- TRIAD profile (R562). -/
def Mod.triad (m : Mod) : Bool := m.get Reg.SYS_PROFILE_PROFILE == 1
/-- Variant FPM-3110 (R1). -/
def Mod.is3110 (m : Mod) : Bool := m.get Reg.SYS_ID_VARIANT == 0x3110
/-- Whether pair `p` is SPLIT (R39). -/
def Mod.split (m : Mod) (p : Nat) : Bool :=
  (match p with
   | 0 => m.get Reg.SYS_PROFILE_PAIR0_MODE
   | 1 => m.get Reg.SYS_PROFILE_PAIR1_MODE
   | _ => m.get Reg.SYS_PROFILE_PAIR2_MODE) == 1
def Mod.cycle (m : Mod) : Nat := m.get Reg.CYC_CYCLE_CYCLE
/-- The largest odd divisor of `n`. -/
def oddPart : Nat → Nat → Nat
  | 0, n => n
  | fuel + 1, n => if n % 2 = 0 ∧ n ≠ 0 then oddPart fuel (n / 2) else n
/-- CYCLE_WRAP of R243. -/
def wrapOf (macroN : Nat) : Nat := let k := 4096 * max 1 (oddPart 7 macroN); 2 ^ 32 / k * k
def Mod.cycleWrap (m : Mod) : Nat := wrapOf (m.get Reg.CYC_MACRO_COUNT)
/-- `n` basic cycles after cycle `c` (R243). -/
def Mod.cycleAfter (m : Mod) (c n : Nat) : Nat := (c + n) % m.cycleWrap
/-- The first macrocycle start at least `n` basic cycles after cycle `c`; a change that would fall on 0xFFFF_FFFF takes
effect at cycle 0 (R243). -/
def Mod.macroAfter (m : Mod) (c n : Nat) : Nat :=
  let k := max 1 (m.get Reg.CYC_MACRO_COUNT)
  let x := (c + n + k - 1) / k * k % m.cycleWrap
  if x = 0xFFFFFFFF then 0 else x
def Mod.lane (m : Mod) (p : Nat) : LaneState := m.lanes.getD p .reset
def Mod.setLane (m : Mod) (p : Nat) (f : LaneState → LaneState) : Mod := { m with lanes := updAt m.lanes p f }
/-- Releases run and commit: RUN_ACTIVE, and DEBUG entered from it (R66). -/
def Mod.running (m : Mod) : Bool := m.unit == stACTIVE || (m.unit == stDEBUG && m.task.debugRuns)

def Mod.emit (m : Mod) (o : Out) : Mod := { m with out := m.out ++ [o] }
def Mod.answer (m : Mod) (r : Resp) : Mod := { m with resp := some r }

/-- The next free value, of `w` bits: a value the manual leaves open (notes/assumptions/4.md). -/
def Mod.freeVal (m : Mod) (w : Nat) : Nat := Config.freeValue m.free % 2 ^ w
def Mod.freeNext (m : Mod) : Mod := { m with free := m.free + 1 }

/-! ### CRC (IEEE CRC-32; ECMA-182 CRC-64, R83) -/

/-- `k` steps of a reflected CRC-32 register. -/
def crc32Bits : Nat → Nat → Nat
  | 0, c => c
  | k + 1, c => crc32Bits k (if c % 2 = 1 then (c / 2) ^^^ 0xEDB88320 else c / 2)

def crc32Step (c : Nat) (b : Byte) : Nat := crc32Bits 8 (c ^^^ b.toNat)

/-- CRC-32 (IEEE) of a byte sequence. -/
def crc32 (l : List Byte) : Nat := (l.foldl crc32Step 0xFFFFFFFF) ^^^ 0xFFFFFFFF

/-- `k` steps of the ECMA-182 register, most significant bit first. -/
def crc64Bits : Nat → Nat → Nat
  | 0, c => c
  | k + 1, c => crc64Bits k (if c ≥ 2 ^ 63 then ((2 * c) % 2 ^ 64) ^^^ 0x42F0E1EBA9EA3693 else 2 * c)

def crc64Step (c : Nat) (b : Byte) : Nat := crc64Bits 8 (c ^^^ (b.toNat * 2 ^ 56))

/-- CRC-64 of R83. -/
def crc64 (l : List Byte) : Nat := l.foldl crc64Step 0

/-! ### Events and fault messages -/

/-- The 64-bit fault message (R486). -/
def faultMsg (source kind cls : Nat) (esc merged peer : Bool) (addr : Nat) : Nat :=
  source * 2 ^ 54 + kind * 2 ^ 46 + (cls + 4 * b2n esc + 8 * b2n merged + 16 * b2n peer) * 2 ^ 40 + addr % 2 ^ 40

/-- A report with the stamps of this instant (R519). -/
def Mod.stamp (m : Mod) (source kind cls : Nat) (peer : Bool) (addr : Nat) (snaps : List Nat) : Report :=
  ⟨source, kind, cls, peer, addr, snaps, m.now, m.secs, m.nanos, !m.flag Reg.TIM_CTL_VALID, m.cycle⟩

/-- A reporter raises a fault: the report line holds it until the collector takes it (R488). -/
def Mod.raise (m : Mod) (source kind : Nat) (addr : Nat := 0) (snaps : List Nat := []) : Mod :=
  { m with fc := { m.fc with reports := m.fc.reports ++ [m.stamp source kind 0 false addr snaps] } }

/-- Built-in rate entry (R504): BURST 10 and PERIOD_MS 100 for the fault codes whose default base class is INFO. -/
def builtinRate (infoCode : Nat → Bool) (code : Nat) : Option RateEntry :=
  if infoCode code then some ⟨code, 10, 0, 100⟩ else none

def Mod.bucket (m : Mod) (code : Nat) : Option Bucket := m.dbk.buckets.find? (fun b => b.code == code)

def setBucketList (l : List Bucket) (b : Bucket) : List Bucket :=
  if l.any (fun c => c.code == b.code) then updFirst (fun c => c.code == b.code) (fun _ => b) l else l ++ [b]

def Mod.setBucket (m : Mod) (b : Bucket) : Mod :=
  { m with dbk := { m.dbk with buckets := setBucketList m.dbk.buckets b } }

/-- Tokens that arrive by time `t` (the while loop of R505). -/
def refill (burst period t : Nat) : Nat → Nat → Nat → Nat × Nat
  | 0, tokens, next => (tokens, next)
  | fuel + 1, tokens, next =>
    if tokens < burst ∧ next ≤ t then refill burst period t fuel (tokens + 1) (next + period) else (tokens, next)

end Sys2Proof.Machine
end

