-- ==== Sys2Proof/Machine/Flags.lean ====
section
/-!
DEFINITION. Fault kinds and their flags: the fault tables of the owning chapters (default class, escalation and
reaction of each kind), classification (R489, R492) and Daybook admission (R501, R505, R506).
-/

namespace Sys2Proof.Machine

/-- Classes of R486. -/
def clINFO : Nat := 0
def clDEGRADED : Nat := 1
def clSEVERE : Nat := 2
def clFATAL : Nat := 3

/-- Reaction sets in the bit order of R490. -/
def rRECORD : Nat := 1
def rINTERRUPT : Nat := 2
def rRESTART : Nat := 4
def rSAFE : Nat := 8
def rSURRENDER : Nat := 16

/-- Built-in reaction set of a class (R489). -/
def builtinReact (c : Nat) : Nat :=
  match c with
  | 0 => 1
  | 1 => 3
  | 2 => 11
  | _ => 27

/-- A row of an owning chapter's fault table: sources `lo` to `hi`, kind, base class, default reaction at the base
class, and the escalation class after `n` events in `windowMs` (n = 0: none). -/
structure FaultDef where
  lo : Nat
  hi : Nat
  kind : Nat
  base : Nat
  react : Nat
  esc : Nat
  n : Nat
  windowMs : Nat
  deriving DecidableEq, Repr

/-- R22. -/
def faultsFabric : List FaultDef :=
  [⟨1, 1, 1, 2, 11, 2, 0, 0⟩, ⟨1, 1, 2, 2, 11, 2, 0, 0⟩, ⟨1, 1, 3, 3, 27, 3, 0, 0⟩, ⟨1, 1, 4, 1, 3, 1, 0, 0⟩,
   ⟨2, 2, 1, 0, 1, 0, 0, 0⟩, ⟨2, 2, 2, 3, 27, 3, 0, 0⟩, ⟨3, 3, 1, 0, 1, 0, 0, 0⟩, ⟨3, 3, 2, 2, 11, 2, 0, 0⟩]

/-- R63 for the pair whose sources start at `s`. -/
def faultsLane (s : Nat) : List FaultDef :=
  [⟨s, s, 1, 1, 5, 3, 3, 10000⟩, ⟨s, s, 2, 3, 27, 3, 0, 0⟩, ⟨s, s, 3, 3, 27, 3, 0, 0⟩, ⟨s + 3, s + 3, 4, 3, 27, 3, 0, 0⟩,
   ⟨s + 3, s + 3, 5, 1, 5, 1, 0, 0⟩, ⟨s + 3, s + 3, 6, 0, 1, 0, 0, 0⟩, ⟨s + 4, s + 4, 7, 0, 1, 0, 0, 0⟩,
   ⟨s + 4, s + 4, 8, 1, 5, 1, 0, 0⟩, ⟨s, s, 9, 3, 27, 3, 0, 0⟩, ⟨s + 5, s + 5, 10, 1, 1, 1, 0, 0⟩,
   ⟨s, s, 11, 3, 27, 3, 0, 0⟩, ⟨s, s, 12, 2, 9, 2, 0, 0⟩, ⟨s + 1, s + 2, 13, 1, 1, 1, 0, 0⟩,
   ⟨s + 5, s + 5, 14, 1, 1, 1, 0, 0⟩]

/-- R100. -/
def faultsScales : List FaultDef :=
  [⟨0x41, 0x43, 1, 0, 1, 1, 5, 1000⟩, ⟨0x41, 0x43, 2, 1, 3, 1, 0, 0⟩, ⟨0x41, 0x43, 3, 3, 27, 3, 0, 0⟩,
   ⟨0x40, 0x40, 4, 3, 27, 3, 0, 0⟩, ⟨0x40, 0x40, 5, 3, 27, 3, 0, 0⟩, ⟨0x40, 0x40, 6, 3, 27, 3, 0, 0⟩,
   ⟨0x40, 0x40, 7, 0, 1, 1, 3, 1000⟩]

/-- R152, R227. -/
def faultsTask : List FaultDef :=
  [⟨0x51, 0x53, 1, 1, 3, 2, 3, 1000⟩, ⟨0x51, 0x53, 2, 0, 1, 0, 0, 0⟩, ⟨0x51, 0x53, 3, 0, 1, 0, 0, 0⟩,
   ⟨0x51, 0x53, 4, 1, 3, 2, 3, 10000⟩, ⟨0x50, 0x50, 5, 1, 3, 1, 0, 0⟩, ⟨0x50, 0x50, 6, 0, 1, 0, 0, 0⟩,
   ⟨0x50, 0x50, 7, 1, 3, 2, 3, 1000⟩, ⟨0x50, 0x50, 8, 0, 1, 0, 0, 0⟩, ⟨0x50, 0x50, 9, 1, 3, 1, 0, 0⟩,
   ⟨0x50, 0x50, 10, 0, 1, 0, 0, 0⟩, ⟨0x50, 0x50, 11, 0, 1, 0, 0, 0⟩]

/-- R193, R227. -/
def faultsLedger : List FaultDef :=
  [⟨0x60, 0x60, 1, 2, 11, 2, 0, 0⟩, ⟨0x60, 0x60, 2, 0, 1, 0, 0, 0⟩, ⟨0x60, 0x60, 3, 0, 1, 0, 0, 0⟩,
   ⟨0x60, 0x60, 4, 0, 1, 0, 0, 0⟩, ⟨0x60, 0x60, 5, 2, 9, 2, 0, 0⟩, ⟨0x60, 0x60, 6, 0, 1, 0, 0, 0⟩,
   ⟨0x61, 0x61, 7, 1, 3, 1, 0, 0⟩, ⟨0x62, 0x65, 8, 0, 1, 1, 100, 1000⟩, ⟨0x62, 0x65, 9, 2, 11, 2, 0, 0⟩,
   ⟨0x62, 0x65, 10, 3, 27, 3, 0, 0⟩, ⟨0x60, 0x60, 11, 1, 3, 1, 0, 0⟩]

/-- R269. -/
def faultsCyc : List FaultDef :=
  [⟨0x70, 0x70, 1, 1, 3, 1, 0, 0⟩, ⟨0x70, 0x70, 2, 1, 3, 1, 0, 0⟩, ⟨0x70, 0x70, 3, 1, 3, 2, 3, 1000⟩,
   ⟨0x70, 0x70, 4, 2, 11, 2, 0, 0⟩, ⟨0x71, 0x72, 5, 1, 3, 1, 0, 0⟩, ⟨0x71, 0x72, 6, 0, 1, 0, 0, 0⟩,
   ⟨0x71, 0x72, 7, 0, 1, 1, 1000, 1000⟩, ⟨0x73, 0x73, 8, 0, 1, 1, 100, 1000⟩, ⟨0x73, 0x73, 9, 0, 1, 1, 8, 1000⟩,
   ⟨0x74, 0x74, 10, 0, 1, 0, 0, 0⟩, ⟨0x74, 0x74, 11, 1, 3, 1, 0, 0⟩]

/-- R320: ports of both Porters, then their controls. -/
def faultsPorterPort (lo hi : Nat) : List FaultDef :=
  [⟨lo, hi, 1, 0, 1, 0, 0, 0⟩, ⟨lo, hi, 2, 1, 3, 1, 0, 0⟩, ⟨lo, hi, 3, 0, 1, 0, 0, 0⟩, ⟨lo, hi, 4, 0, 1, 1, 10, 60000⟩,
   ⟨lo, hi, 5, 0, 1, 0, 0, 0⟩, ⟨lo, hi, 6, 0, 1, 0, 0, 0⟩]

def faultsPorterControl (s : Nat) : List FaultDef :=
  [⟨s, s, 7, 2, 3, 2, 0, 0⟩, ⟨s, s, 8, 1, 3, 1, 0, 0⟩, ⟨s, s, 9, 1, 3, 1, 0, 0⟩, ⟨s, s, 10, 0, 1, 0, 0, 0⟩,
   ⟨s, s, 11, 1, 3, 1, 0, 0⟩, ⟨s, s, 12, 1, 3, 1, 0, 0⟩]

/-- R358. -/
def faultsTwin : List FaultDef :=
  [⟨0xD0, 0xD0, 1, 1, 3, 1, 0, 0⟩, ⟨0xD1, 0xD2, 2, 0, 1, 1, 10, 60000⟩, ⟨0xD0, 0xD0, 3, 0, 3, 0, 0, 0⟩,
   ⟨0xD0, 0xD0, 4, 0, 1, 0, 0, 0⟩, ⟨0xD0, 0xD0, 5, 1, 3, 1, 0, 0⟩, ⟨0xD0, 0xD0, 6, 0, 3, 0, 0, 0⟩,
   ⟨0xD0, 0xD0, 7, 0, 1, 0, 0, 0⟩, ⟨0xD0, 0xD0, 8, 0, 1, 0, 0, 0⟩, ⟨0xD0, 0xD0, 9, 2, 11, 2, 0, 0⟩]

/-- R396. -/
def faultsCan : List FaultDef :=
  [⟨0xE0, 0xE7, 1, 1, 3, 1, 0, 0⟩, ⟨0xE0, 0xE7, 2, 0, 1, 0, 0, 0⟩, ⟨0xE0, 0xE7, 3, 0, 1, 1, 100, 1000⟩,
   ⟨0xE0, 0xE7, 4, 0, 1, 1, 10, 1000⟩, ⟨0xE0, 0xE7, 5, 0, 1, 1, 10, 1000⟩, ⟨0xE0, 0xE7, 6, 0, 1, 1, 10, 1000⟩,
   ⟨0xE0, 0xE7, 7, 1, 3, 1, 0, 0⟩, ⟨0xE0, 0xE7, 8, 1, 3, 1, 0, 0⟩, ⟨0xE0, 0xE7, 9, 0, 1, 0, 0, 0⟩]

/-- R438. -/
def faultsGwLbb : List FaultDef :=
  [⟨0xF0, 0xF0, 1, 1, 3, 1, 0, 0⟩, ⟨0xF0, 0xF0, 2, 1, 3, 1, 0, 0⟩, ⟨0xF1, 0xF1, 3, 0, 1, 1, 100, 1000⟩,
   ⟨0xF1, 0xF1, 4, 0, 1, 1, 10, 1000⟩, ⟨0xF8, 0xF8, 1, 1, 3, 2, 10, 1000⟩, ⟨0xF8, 0xF8, 2, 0, 1, 0, 0, 0⟩,
   ⟨0xF8, 0xF8, 3, 1, 3, 1, 0, 0⟩, ⟨0xF9, 0xF9, 4, 1, 3, 1, 0, 0⟩, ⟨0xF9, 0xF9, 5, 0, 1, 0, 0, 0⟩,
   ⟨0xFA, 0xFA, 6, 1, 3, 2, 3, 1000⟩]

/-- R476. -/
def faultsDio : List FaultDef :=
  [⟨0x100, 0x11F, 1, 1, 3, 1, 0, 0⟩, ⟨0x100, 0x11F, 2, 1, 3, 1, 0, 0⟩, ⟨0x100, 0x11F, 3, 1, 3, 1, 0, 0⟩,
   ⟨0x100, 0x11F, 4, 2, 11, 2, 0, 0⟩, ⟨0x100, 0x11F, 5, 0, 1, 0, 0, 0⟩, ⟨0x100, 0x11F, 6, 1, 3, 2, 5, 60000⟩,
   ⟨0x100, 0x11F, 7, 0, 1, 0, 0, 0⟩, ⟨0x100, 0x11F, 8, 2, 11, 2, 0, 0⟩, ⟨0x100, 0x100, 9, 2, 11, 2, 0, 0⟩,
   ⟨0x100, 0x11F, 10, 0, 1, 1, 10, 1000⟩, ⟨0x100, 0x100, 11, 1, 3, 1, 0, 0⟩, ⟨0x100, 0x100, 12, 1, 3, 1, 0, 0⟩]

/-- R520, R560, R589, R618. -/
def faultsSystem : List FaultDef :=
  [⟨4, 4, 1, 0, 1, 1, 10, 1000⟩, ⟨5, 5, 1, 1, 3, 1, 0, 0⟩, ⟨0x120, 0x120, 1, 1, 3, 1, 0, 0⟩,
   ⟨0x120, 0x120, 2, 0, 1, 0, 0, 0⟩, ⟨0x120, 0x120, 3, 0, 1, 0, 0, 0⟩,
   ⟨0, 0, 1, 1, 3, 1, 0, 0⟩, ⟨0x130, 0x130, 1, 0, 1, 0, 0, 0⟩, ⟨0x130, 0x130, 2, 0, 1, 0, 0, 0⟩,
   ⟨0x130, 0x130, 3, 0, 1, 0, 0, 0⟩, ⟨0x130, 0x130, 4, 1, 3, 2, 3, 1000⟩, ⟨0x130, 0x130, 5, 1, 3, 1, 0, 0⟩,
   ⟨0x130, 0x130, 6, 1, 3, 1, 0, 0⟩, ⟨0x130, 0x130, 7, 2, 3, 2, 0, 0⟩, ⟨0x130, 0x130, 8, 1, 3, 1, 0, 0⟩,
   ⟨0x130, 0x130, 9, 2, 3, 2, 0, 0⟩, ⟨0x130, 0x130, 10, 1, 3, 1, 0, 0⟩, ⟨0x150, 0x150, 1, 2, 11, 2, 0, 0⟩,
   ⟨0x150, 0x150, 2, 0, 1, 0, 0, 0⟩, ⟨0x160, 0x160, 1, 0, 1, 0, 0, 0⟩,
   ⟨0x140, 0x140, 1, 0, 1, 0, 0, 0⟩, ⟨0x140, 0x140, 2, 2, 11, 2, 0, 0⟩, ⟨0x140, 0x140, 3, 1, 3, 1, 0, 0⟩,
   ⟨0x140, 0x140, 4, 1, 3, 1, 0, 0⟩,
   ⟨0x170, 0x170, 1, 0, 1, 1, 10, 60000⟩, ⟨0x170, 0x170, 2, 1, 3, 1, 0, 0⟩, ⟨0x171, 0x171, 3, 2, 1, 2, 0, 0⟩,
   ⟨0x171, 0x171, 4, 1, 3, 1, 0, 0⟩, ⟨0x172, 0x172, 5, 1, 3, 1, 0, 0⟩, ⟨0x172, 0x172, 6, 2, 11, 2, 0, 0⟩,
   ⟨0x172, 0x172, 7, 1, 3, 1, 0, 0⟩]

/-- Every fault kind of the manual. -/
def faultDefs : List FaultDef :=
  faultsFabric ++ faultsLane 0x10 ++ faultsLane 0x20 ++ faultsLane 0x30 ++ faultsScales ++ faultsTask ++ faultsLedger ++
  faultsCyc ++ faultsPorterPort 0x90 0xAA ++ faultsPorterPort 0xB0 0xCA ++ faultsPorterControl 0xAF ++
  faultsPorterControl 0xCF ++ faultsTwin ++ faultsCan ++ faultsGwLbb ++ faultsDio ++ faultsSystem

/-- The default of a pair (SOURCE, KIND), if the owning chapter defines it. -/
def faultDef (source kind : Nat) : Option FaultDef :=
  faultDefs.find? (fun d => d.lo ≤ source && source ≤ d.hi && d.kind == kind)

/-- Application sources (R487). -/
def isAppSource (s : Nat) : Bool := 0x200 ≤ s && s < 0x400

/-- Sources that the owning chapters name (R487); the rest are reserved. -/
def isAssigned (s : Nat) : Bool := isAppSource s || faultDefs.any (fun d => d.lo ≤ s && s ≤ d.hi)

/-- Sources 0x010 to 0x03F (LANE). -/
def isLaneSource (s : Nat) : Bool := 0x10 ≤ s && s < 0x40

/-- The pair of a LANE source or of an SCL pair source 0x041 + n (R62). -/
def pairOfSource (s : Nat) : Option Nat :=
  if isLaneSource s then some ((s - 0x10) / 16)
  else if 0x41 ≤ s ∧ s ≤ 0x43 then some (s - 0x41)
  else none

/-- How a pair (SOURCE, KIND) classifies: base, escalation class, N, W in ms, and reaction by class. -/
structure ClassRule where
  base : Nat
  esc : Nat
  n : Nat
  windowMs : Nat
  react : List Nat
  deriving DecidableEq, Repr

def FaultDef.rule (d : FaultDef) : ClassRule :=
  ⟨d.base, d.esc, d.n, d.windowMs,
    (List.range 4).map (fun c => if c = d.base then d.react else builtinReact c)⟩

def builtinRule (cls : Nat) : ClassRule := ⟨cls, cls, 0, 0, (List.range 4).map builtinReact⟩

/-- The rule of R489 for a message: the class table's entry, else the owning chapter's, else the requested class with
no escalation and the built-in set. -/
def Mod.classRule (m : Mod) (source kind cls : Nat) : ClassRule :=
  match (m.fc.table.getD []).find? (fun e => e.source == source && e.kind == kind) with
  | some e => ⟨e.base, e.esc, e.n, e.windowMs, e.react⟩
  | none =>
    match faultDef source kind with
    | some d => d.rule
    | none => builtinRule (cls % 4)

/-- One event on an escalation counter (R492): the counter after it and whether it escalates. -/
def escalate (c : Nat) (t0 now n windowMs : Nat) : Nat × Nat × Bool :=
  let (c', t') := if c = 0 ∨ now - t0 ≥ windowMs * 1000000 then (1, now) else (min 255 (c + 1), t0)
  (c', t', n != 0 && n ≤ c')

/-- Events of the current window of a pair (SOURCE, KIND), as the IN_WINDOW fields show them (R492). -/
def Mod.inWindow (m : Mod) (source kind : Nat) : Nat :=
  match m.fc.counters.find? (fun e => e.source == source && e.kind == kind) with
  | none => 0
  | some e =>
    if m.now - e.t0 < (m.classRule source kind 0).windowMs * 1000000 then e.count else 0

/-- Count an event: the state after it and whether it escalates. -/
def Mod.countEvent (m : Mod) (source kind t : Nat) (r : ClassRule) : Mod × Bool :=
  if r.n = 0 then (m, false)
  else
    let old := m.fc.counters.find? (fun e => e.source == source && e.kind == kind)
    let (c, t0, esc) := escalate ((old.map (·.count)).getD 0) ((old.map (·.t0)).getD 0) t r.n r.windowMs
    let e : EscCounter := ⟨source, kind, c, t0⟩
    let l := if old.isSome then updFirst (fun x => x.source == source && x.kind == kind) (fun _ => e) m.fc.counters
      else m.fc.counters ++ [e]
    ({ m with fc := { m.fc with counters := l } }, esc)

/-- The class that a message raised now would take, the messages that still wait for intake counted before it: what
LANE and Scales act on at the event itself (R60, R93). -/
def Mod.classNow (m : Mod) (source kind : Nat) : Nat :=
  let r := m.classRule source kind 0
  let waiting := m.fc.reports.filter (fun q => q.source == source && q.kind == kind)
  let m' := waiting.foldl (fun a q => (a.countEvent source kind q.mono r).1) m
  if (m'.countEvent source kind m.now r).2 then r.esc else r.base

/-- A message raised now would escalate (R492). -/
def Mod.escalatesNow (m : Mod) (source kind : Nat) : Bool :=
  let r := m.classRule source kind 0
  let waiting := m.fc.reports.filter (fun q => q.source == source && q.kind == kind)
  let m' := waiting.foldl (fun a q => (a.countEvent source kind q.mono r).1) m
  (m'.countEvent source kind m.now r).2

/-- The Daybook code of a fault (R501). -/
def faultCode (source kind : Nat) : Nat :=
  if source ≤ 5 then source * 16 + kind
  else
    let s :=
      if source < 0x40 then 0x01 else if source < 0x50 then 0x02 else if source < 0x60 then 0x03
      else if source < 0x70 then 0x04 else if source < 0x90 then 0x05 else if source < 0xD0 then 0x06
      else if source < 0xE0 then 0x07 else if source < 0xF0 then 0x08 else if source < 0xF8 then 0x09
      else if source < 0x100 then 0x0A else if source < 0x120 then 0x0B else if source < 0x130 then 0x0C
      else if source < 0x140 then 0x0D else if source < 0x150 then 0x0E else if source < 0x160 then 0x0F
      else if source < 0x170 then 0x10 else if source < 0x180 then 0x11 else 0x20
    s * 256 + kind

/-- Fault codes whose default base class is INFO: those that the built-in rate table limits (R504). -/
def isInfoCode (code : Nat) : Bool := faultDefs.any (fun d => d.base == 0 && faultCode d.lo d.kind == code)

/-- Rate entry in force for a code (R504). -/
def Mod.rateEntry (m : Mod) (code : Nat) : Option RateEntry :=
  match m.dbk.table with
  | none => builtinRate isInfoCode code
  | some t => t.entries.find? (fun e => e.code == code)

/-- R505: whether an event of this code and severity is admitted, and the bucket after it. -/
def rateAdmit (entry : Option RateEntry) (b : Bucket) (code severity t : Nat) : Bool × Bucket :=
  match entry with
  | none => (true, { b with supp := 0 })
  | some e =>
    if e.periodMs = 0 ∨ 4 ≤ severity ∨ code = 0x0080 then (true, { b with supp := 0 })
    else
      let period := e.periodMs * 1000000
      let (tok, nxt) := refill e.burst period t e.burst b.tokens b.next
      if 1 ≤ tok then
        (true, { b with tokens := tok - 1, next := if tok = e.burst then t + period else nxt, supp := 0 })
      else (false, { b with tokens := tok, next := nxt, supp := min 0xFFFFFFFF (b.supp + 1) })

/-- An event offered to the Daybook (R505, R506). -/
def Mod.offer (m : Mod) (e : Event) : Mod :=
  let entry := m.rateEntry e.code
  let b0 := (m.bucket e.code).getD ⟨e.code, (entry.map (·.burst)).getD 0, 0, 0, 0⟩
  let (ok, b) := rateAdmit entry b0 e.code e.severity e.mono
  if !ok then (m.setBucket b).count Reg.DBK_SUPPRESSED_TOTAL 1
  else
    let level := m.dbk.fifo.length
    if level < 240 ∨ (level < 256 ∧ 4 ≤ e.severity) then
      let m := m.setBucket b
      let m := { m with dbk := { m.dbk with fifo := m.dbk.fifo ++ [{ e with suppressed := b0.supp }] } }
      m.peak Reg.DBK_STATUS_PEAK (level + 1)
    else
      let m := m.setBucket { b with supp := b0.supp, overflow := min 0xFFFF (b.overflow + 1) }
      let m := m.count Reg.DBK_OVERFLOWS_TOTAL 1
      if e.code = 0x0C02 then m else m.raise 0x120 2

/-- Severities of R500. -/
def svTRACE : Nat := 0
def svNOTICE : Nat := 1
def svINFO : Nat := 2

/-- An event that is no fault, stamped now (R502). -/
def Mod.event (m : Mod) (code severity : Nat) (snaps : List Nat) : Mod :=
  m.offer ⟨code, severity, false, false, false, 0, 0, snaps, m.now, m.secs, m.nanos,
    !m.flag Reg.TIM_CTL_VALID, m.cycle⟩

/-- The Daybook event of a classified fault. -/
def Report.event (q : Report) (cls : Nat) (esc merged : Bool) : Event :=
  ⟨faultCode q.source q.kind, cls + 2, merged, q.peer, esc, faultMsg q.source q.kind cls esc merged q.peer q.addr, 0,
    q.snaps, q.mono, q.sec, q.ns, q.unset, q.cycle⟩

end Sys2Proof.Machine
end

