-- ==== Sys2Proof/Machine/CanRam.lean ====
section
/-!
DEFINITION. The CAN controllers below their commands: message RAM (R369, R371, R373, R386), mailbox states (R383),
publication (R372), error states (R395), modes (R393) and the time-stamp counter (R391).
-/

namespace Sys2Proof.Machine

/-! ### Message RAM -/

def mbAddr (n k : Nat) : Nat := canRam n + 72 * k
def stAddr (n k : Nat) : Nat := canRam n + 0x1200 + 8 * k
def rqAddr (n k : Nat) : Nat := canRam n + 0x1400 + 76 * k

/-- States of a transmit mailbox (R373). -/
def mbEMPTY : Nat := 0
def mbARMED : Nat := 1
def mbSENDING : Nat := 2
def mbSENT : Nat := 3
def mbSTALE : Nat := 4
def mbHELD : Nat := 5

def Mod.mbState (m : Mod) (n k : Nat) : Nat := (m.rd8 (stAddr n k + 4)).toNat
def Mod.setMbState (m : Mod) (n k v : Nat) : Mod := m.wr8 (stAddr n k + 4) (BitVec.ofNat 8 v)
def Mod.mbAge (m : Mod) (n k : Nat) : Nat := m.rdLE (stAddr n k + 6) 2
def Mod.setMbAge (m : Mod) (n k v : Nat) : Mod := m.wrLE (stAddr n k + 6) 2 (min 0xFFFF v)
/-- One more attempt in the window, saturating (R373). -/
def Mod.mbAttempt (m : Mod) (n k : Nat) : Mod :=
  m.wr8 (stAddr n k + 5) (BitVec.ofNat 8 (min 0xFF ((m.rd8 (stAddr n k + 5)).toNat + 1)))

def Mod.canSt (m : Mod) (n : Nat) : CanState := m.can.getD n .reset
def Mod.setCan (m : Mod) (n : Nat) (f : CanState → CanState) : Mod := { m with can := updAt m.can n f }

/-- Controllers of the variant (R364). -/
def Mod.canCount (m : Mod) : Nat := if m.is3110 then 4 else 8

/-- CAN_STATUS.STATE codes (R398). -/
def cnDISABLED : Nat := 0
def cnINTEGRATING : Nat := 1
def cnACTIVE : Nat := 2
def cnPASSIVE : Nat := 3
def cnBUSOFF : Nat := 4
def cnRECOVERING : Nat := 5

def Mod.canState (m : Mod) (n : Nat) : Nat := m.get Reg.CAN_STATUS_STATE n
def Mod.setCanState (m : Mod) (n v : Nat) : Mod := m.put Reg.CAN_STATUS_STATE v n
def Mod.canOnBus (m : Mod) (n : Nat) : Bool := m.canState n == cnACTIVE || m.canState n == cnPASSIVE

/-- Bytes of a DLC (R371). -/
def dlcBytes (dlc : Nat) : Nat :=
  if dlc ≤ 8 then dlc
  else match dlc with
    | 9 => 12 | 10 => 16 | 11 => 20 | 12 => 24 | 13 => 32 | 14 => 48 | _ => 64

/-! ### Publication and safe state (R372, R383) -/

/-- Whether published mailbox bytes with SEND 1 are invalid (R372). -/
def mailboxInvalid (fdEn : Bool) (id ctrl : Nat) : Bool :=
  let fdf := bitOf ctrl 4
  (bitOf id 30 && fdf) || (fdf && !fdEn) || (bitOf ctrl 5 && !fdf) || (8 < ctrl % 16 && !fdf)

/-- A mailbox becomes STALE: counted in CAN_TX_STATS.STALE, all causes (R407). -/
def Mod.mbStale (m : Mod) (n k : Nat) : Mod := (m.setMbState n k mbSTALE).count Reg.CAN_TX_STATS_STALE 1 n

/-- A mailbox is under the safe rule: ARMED, HELD and SENT become STALE, with no MSG_STALE (R383). -/
def Mod.mbSafe (m : Mod) (n k : Nat) : Mod :=
  let st := m.mbState n k
  if st = mbARMED ∨ st = mbHELD ∨ st = mbSENT then m.mbStale n k else m

/-- The safe rule over the mailboxes that satisfy `p`. -/
def Mod.canSafe (m : Mod) (p : Nat → Nat → Bool) : Mod :=
  (List.range 8).foldl (fun a n => (List.range 64).foldl (fun b k => if p n k then b.mbSafe n k else b) a) m

/-- The 10 MHz time-stamp counter (R391). -/
def Mod.tsCount (m : Mod) : Nat := m.now / 100 % 2 ^ 32

/-- New contents of the mailbox under attempt, with the count at which they were published. -/
def CanAttempt.publish (a : CanAttempt) (k ts : Nat) (mb : List Byte) : CanAttempt :=
  if a.mailbox = k then { a with published := a.published ++ [(ts, mb)] } else a

/-- Publication of mailbox `k` of controller `n` (R124, R372, R383). -/
def Mod.canPublish (m : Mod) (n k : Nat) (mb : List Byte) : Mod :=
  let id := leNat (mb.take 4)
  let ctrl := leNat ((mb.drop 4).take 2)
  let st := m.mbState n k
  let m := m.wrBytes (mbAddr n k) mb
  if !bitOf ctrl 6 then m.setMbState n k mbEMPTY
  else if mailboxInvalid (m.flag Reg.CAN_CTL_FD_EN n) id ctrl then
    (m.setMbState n k mbEMPTY).raise (0xE0 + n) 9 (mbAddr n k) [k]
  else
    let m := m.setMbAge n k 0
    if st = mbSENDING then
      m.setCan n (fun c => { c with rearm := true, attempt := c.attempt.map (fun a => a.publish k m.tsCount (m.rdBytes (mbAddr n k) 72)) })
    else m.setMbState n k (if st = mbHELD then mbHELD else mbARMED)

/-! ### Modes, error states -/

/-- The mode that controller `n` takes at its next CAN basic cycle start (R393); after a takeover it stays RESTRICTED until the
first basic cycle start after the restore (R351 step 6). -/
def Mod.canMode (m : Mod) (n : Nat) : Nat :=
  let waits := m.unit == stACTIVE && (m.twn.takingOver || (m.gw.started == false && m.get Reg.CAN_STATUS_EFF_MODE n == 1))
  if m.unit = stSTANDBY ∨ m.unit = stSURRENDERED ∨ waits then 1 else m.get Reg.CAN_CTL_MODE n

/-- The attempt of a controller ends: its mailbox goes to `v` if it is still SENDING, to ARMED if it was published
meanwhile (R383); under the safe rule it goes on to STALE. -/
def Mod.endAttempt (m : Mod) (n v : Nat) : Mod :=
  match (m.canSt n).attempt with
  | none => m
  | some a =>
    let rearm := (m.canSt n).rearm
    let m := m.setCan n (fun c => { c with attempt := none, rearm := false })
    if m.mbState n a.mailbox = mbSENDING then
      let m := m.setMbState n a.mailbox (if rearm && v != mbHELD then mbARMED else v)
      if m.unit = stSAFE ∨ m.unit = stDEBUG then m.mbSafe n a.mailbox else m
    else m

/-- TEC and REC as CAN_ERRCNT shows them (R401). -/
def Mod.putErr (m : Mod) (n tec rec_ : Nat) : Mod :=
  ((m.put Reg.CAN_ERRCNT_TEC (min 0xFF tec) n).put Reg.CAN_ERRCNT_REC (rec_ % 128) n).put Reg.CAN_ERRCNT_RP (b2n (128 ≤ rec_)) n

/-- The controller enters BUS_OFF (R395). -/
def Mod.canBusOff (m : Mod) (n : Nat) : Mod :=
  let m := (m.endAttempt n mbHELD).setCanState n cnBUSOFF
  let m := ((m.put Reg.CAN_ERRCNT_TEC 0xFF n).count Reg.CAN_ERRCNT_BUSOFFS 1 n).put Reg.CAN_STATUS_MATRIX_RUN 0 n
  let m := m.raise (0xE0 + n) 1
  if m.flag Reg.CAN_CTL_AUTO_RECOVER n then m.setCanState n cnRECOVERING else m

/-- The error counters after an event, and the error state that follows (R395). Counters change in NORMAL mode only (R392). -/
def Mod.canCounters (m : Mod) (n : Nat) (c : CanCounters) : Mod :=
  if !m.canOnBus n || m.get Reg.CAN_STATUS_EFF_MODE n != 0 then m
  else
    let m := m.putErr n c.tec c.rec_
    let m := if m.canState n = cnACTIVE ∧ (127 < c.tec ∨ 127 < c.rec_) then
        (m.setCanState n cnPASSIVE).raise (0xE0 + n) 2
      else m
    if m.canState n = cnPASSIVE then
      if 255 < c.tec then m.canBusOff n
      else if c.tec < 128 ∧ c.rec_ < 128 then m.setCanState n cnACTIVE
      else m
    else m

/-- Queue entries get OWN 0 (R390, R395). -/
def Mod.canFreeQueue (m : Mod) (n : Nat) : Mod := (List.range 128).foldl (fun a k => a.wr8 (rqAddr n k + 7) 0) m

/-- Every mailbox of the controller becomes EMPTY. -/
def Mod.canEmpty (m : Mod) (n : Nat) : Mod :=
  ((List.range 64).foldl (fun a k => a.setMbState n k mbEMPTY) m).setCan n (fun c => { c with attempt := none, rearm := false })

/-- CAN_CTL.ENABLE has changed at a commit (R395). -/
def Mod.canEnable (m : Mod) (n : Nat) (on : Bool) : Mod :=
  if on then (if m.canState n = cnDISABLED then m.setCanState n cnINTEGRATING else m)
  else (((m.setCanState n cnDISABLED).put Reg.CAN_STATUS_MATRIX_RUN 0 n).canFreeQueue n).canEmpty n

/-- Every mailbox EMPTY, every queue entry free, WR 0 (R383, R390): at a start and at a takeover. -/
def Mod.canStart (m : Mod) : Mod :=
  (List.range 8).foldl (fun a n => ((a.canFreeQueue n).canEmpty n).put Reg.CAN_RX_STATUS_WR 0 n) m

/-- Acknowledgement of a queue entry; one whose OWN is 0 is ignored (R388). -/
def Mod.canAck (m : Mod) (n k : Nat) : Mod := if k < 128 then m.wr8 (rqAddr n k + 7) 0 else m

/-! ### Time stamps (R391) -/

/-- Monotonic time of a stamp of controller `n`. -/
def Mod.stampMono (m : Mod) (n ts : Nat) : Nat :=
  let d := sext 32 (ts + 2 ^ 32 - m.get Reg.CAN_TSCAP_CNT_CAP_CNT n)
  (((m.canSt n).capMono : Int) + 100 * d).toNat

/-! ### Matrix swap (R374, R377, R378) -/

def CanColumn.bytes (c : CanColumn) : List Byte :=
  leBytes 4 c.start ++ leBytes 4 c.len ++ leBytes 2 c.frame ++ leBytes 1 c.type ++ List.replicate 5 0
def CanFilter.bytes (f : CanFilter) : List Byte := leBytes 4 f.id ++ leBytes 4 f.mask ++ leBytes 1 f.flags ++ List.replicate 7 0

/-- A committed matrix comes into force: column and filter tables are copied into the message RAM, and the gateway's
latches of the controller are cleared (R411). -/
def Mod.canSwap (m : Mod) (n : Nat) : Mod :=
  match (m.canSt n).next with
  | none => m
  | some x =>
    let m := m.clear (canRam n + 0x3A00) 0x600
    let m := m.wrBytes (canRam n + 0x3A00) (x.columns.flatMap CanColumn.bytes)
    let m := m.wrBytes (canRam n + 0x3C00) (x.filters.flatMap CanFilter.bytes)
    let m := m.setCan n (fun c => { c with matrix := some x, next := none, rowNext := 0, latches := [] })
    let m := { m with gw := { m.gw with seen := m.gw.seen.filter (fun e => e.2.1 % 8 != n) } }
    ((m.put Reg.CAN_STATUS_TABLE_PENDING 0 n).put Reg.CAN_STATUS_MATRIX_RUN 0 n).event 0x08F0 svNOTICE [x.id, n]

end Sys2Proof.Machine
end

