-- ==== Sys2Proof/Machine/DioOps.lean ====
section
/-!
DEFINITION. The DIO island below its commands: safe state and its causes (R467, R469), the order of R475, the drivers,
the inbound snapshot and the outbound delivery (R454, R455).
-/

namespace Sys2Proof.Machine

def Mod.setDio (m : Mod) (f : DioState → DioState) : Mod := { m with dio := f m.dio }

def bitPut (n k : Nat) (v : Bool) : Nat := if bitOf n k == v then n else if v then n + 2 ^ k else n - 2 ^ k

/-- Direction of a channel: fixed on FPM-3110 (R452, R481). -/
def Mod.dioOut (m : Mod) (c : Nat) : Bool := if m.is3110 then 16 ≤ c else m.flag Reg.DIO_CHc_CFG_DIR c

/-- The variant's DIR bits stand in the registers (R481). -/
def Mod.dioDirs (m : Mod) : Mod :=
  if m.is3110 then (List.range 32).foldl (fun a c => a.put Reg.DIO_CHc_CFG_DIR (b2n (16 ≤ c)) c) m else m

/-- Group supply states (R471). -/
def suOK : Nat := 0
def suLOW : Nat := 1
def suLOST : Nat := 2

def Mod.supply (m : Mod) (g : Nat) : Nat := m.get Reg.DIO_Gg_SUPPLY_STATE g

/-- The LOCAL data set of a direction that the I/O copy table defines (R454). -/
def Mod.localSet (m : Mod) (outbound : Bool) : Option DsDesc :=
  match m.cyc.ioc with
  | none => none
  | some t => t.sets.find? (fun d => d.local_ && d.outbound == outbound)

/-- The logic side commands the safe state of channel `c` (R467), or no LOCAL outbound data set is configured. -/
def Mod.dioCommanded (m : Mod) (c : Nat) : Bool :=
  m.unit == stSAFE || m.unit == stDEBUG || m.unit == stSURRENDERED || m.unit == stSTANDBY || bitOf m.fc.dioHold c ||
    (m.localSet true).isNone

/-- A cause of the safe state of channel `c` holds (R467). -/
def Mod.dioCause (m : Mod) (c : Nat) : Bool := m.dioCommanded c || m.dio.invalidDelivery || m.dio.wdtSafe

/-- State of an output driver by the first row of R475 that applies; with ENABLE 0 every output is off (R477), and a group
whose LATCHED has cleared waits for a delivery (R473). -/
def Mod.dioDrive (m : Mod) (c : Nat) : Bool :=
  let g := c / 8
  if !m.dioOut c || !m.flag Reg.DIO_CTL_ENABLE then false
  else if m.flag Reg.DIO_Gg_SUPPLY_CUT g then false
  else if m.flag Reg.DIO_Gg_SUPPLY_LATCHED g || m.supply g == suLOST then false
  else if m.flag Reg.DIO_CHc_STATUS_OVERLOAD c || m.flag Reg.DIO_CHc_STATUS_THERMAL c then false
  else if m.flag Reg.DIO_CHc_STATUS_SAFE c then
    (match m.get Reg.DIO_CHc_CFG_SAFE_STATE c with
     | 1 => true
     | 2 => bitOf m.dio.holdValue c
     | _ => false)
  else if m.flag Reg.DIO_CHc_STATUS_LOCKED c || bitOf m.dio.waits c then false
  else if m.flag Reg.DIO_CHc_CFG_TIMED c then m.flag Reg.DIO_CHc_STATUS_CMD c && bitOf m.dio.timed c
  else m.flag Reg.DIO_CHc_STATUS_CMD c

/-- A safe state begins for channel `c`: the driven value is kept for HOLD, and a RESTART_LOCK channel is LOCKED
(R466, R470). -/
def Mod.dioSafeBegin (m : Mod) (c : Nat) : Mod :=
  if m.dioOut c && !m.flag Reg.DIO_CHc_STATUS_SAFE c && m.dioCause c then
    let m := m.setDio (fun d => { d with holdValue := bitPut d.holdValue c (m.flag Reg.DIO_CHc_STATUS_DRIVE c) })
    let m := m.put Reg.DIO_CHc_STATUS_SAFE 1 c
    if m.flag Reg.DIO_CHc_CFG_RESTART_LOCK c then m.put Reg.DIO_CHc_STATUS_LOCKED 1 c else m
  else m

/-- The driver of channel `c` follows its state; a driver switching counts (R484), and the readback follows the driver. -/
def Mod.dioSwitch (m : Mod) (c : Nat) : Mod :=
  let v := m.dioDrive c
  if m.dioOut c && m.flag Reg.DIO_CHc_STATUS_DRIVE c != v then
    ((m.put Reg.DIO_CHc_STATUS_DRIVE (b2n v) c).put Reg.DIO_CHc_STATUS_LEVEL (b2n v) c).put Reg.DIO_CHc_COUNT_EDGES
      (m.get Reg.DIO_CHc_COUNT_EDGES c + 1) c
  else m

/-- DIO_STATUS.STATE (R485): 0 OFF, 1 WAITING, 2 RUN, 3 SAFE, 4 WDT_SAFE. -/
def Mod.dioStateCode (m : Mod) : Nat :=
  if !m.flag Reg.DIO_CTL_ENABLE then 0
  else if m.dio.wdtSafe then 4
  else if m.unit == stSAFE || m.unit == stDEBUG || m.unit == stSURRENDERED || m.unit == stSTANDBY ||
      m.dio.invalidDelivery then 3
  else if !m.dio.delivered then 1
  else 2

/-- The island after any change: safe states begin and the drivers follow. -/
def Mod.dioRefresh (m : Mod) : Mod :=
  let m := (List.range 32).foldl (fun a c => a.dioSafeBegin c) m
  let m := (List.range 32).foldl (fun a c => a.dioSwitch c) m
  m.put Reg.DIO_STATUS_STATE m.dioStateCode

/-- At power-up or restart of the island (R470, R471, R482): groups LOST and LATCHED, channels at their reset status,
RESTART_LOCK channels LOCKED, no delivery yet. -/
def Mod.dioStart (m : Mod) : Mod :=
  let m := m.setDio (fun _ => .reset)
  let m := (List.range 4).foldl (fun a g => (a.put Reg.DIO_Gg_SUPPLY_STATE suLOST g).put Reg.DIO_Gg_SUPPLY_LATCHED 1 g) m
  let m := (List.range 32).foldl (fun a c =>
    let a := ((a.put Reg.DIO_CHc_STATUS_OVERLOAD 0 c).put Reg.DIO_CHc_STATUS_THERMAL 0 c).put Reg.DIO_CHc_STATUS_CMD 0 c
    let a := ((a.put Reg.DIO_CHc_STATUS_STUCK_ON 0 c).put Reg.DIO_CHc_STATUS_READBACK_ERR 0 c).put Reg.DIO_CHc_STATUS_SAFE 0 c
    let a := ((a.put Reg.DIO_CHc_STATUS_INVALID 1 c).put Reg.DIO_CHc_STATUS_DRIVE 0 c).put Reg.DIO_CHc_STATUS_LEVEL 0 c
    a.put Reg.DIO_CHc_STATUS_LOCKED (b2n (a.dioOut c && a.flag Reg.DIO_CHc_CFG_RESTART_LOCK c)) c) m
  m.dioRefresh

/-- Bit map over the channels. -/
def chanBits (p : Nat → Bool) : Nat := bitSet ((List.range 32).filter p)

/-- The inbound payload of 24 bytes (R454, R456). -/
def Mod.dioSnapshot (m : Mod) : List Byte :=
  let level := chanBits (fun c => m.flag Reg.DIO_CHc_STATUS_LEVEL c)
  let invalid := chanBits (fun c => m.flag Reg.DIO_CHc_STATUS_INVALID c)
  let fault := chanBits (fun c => m.dioOut c && (m.flag Reg.DIO_CHc_STATUS_OVERLOAD c || m.flag Reg.DIO_CHc_STATUS_THERMAL c ||
    m.flag Reg.DIO_CHc_STATUS_STUCK_ON c || m.flag Reg.DIO_CHc_STATUS_READBACK_ERR c))
  let locked := chanBits (fun c => m.dioOut c && m.flag Reg.DIO_CHc_STATUS_LOCKED c)
  let group := (List.range 4).map (fun g => BitVec.ofNat 8 (m.supply g + 4 * m.get Reg.DIO_Gg_SUPPLY_LATCHED g +
    8 * m.get Reg.DIO_Gg_SUPPLY_CUT g))
  leBytes 4 level ++ leBytes 4 invalid ++ leBytes 4 m.dio.edges ++ leBytes 4 fault ++ leBytes 4 locked ++ group

/-- One channel at an intact delivery: CMD, the latch that a CMD of 0 clears (R461), the gate of a timed output (R474),
and the REARM edge (R470). -/
def Mod.dioChannelDelivery (m : Mod) (c : Nat) (cmd rearmEdge : Bool) : Mod :=
  if !m.dioOut c then m
  else
    let m := m.put Reg.DIO_CHc_STATUS_CMD (b2n cmd) c
    let m := if cmd then m else (m.put Reg.DIO_CHc_STATUS_OVERLOAD 0 c).put Reg.DIO_CHc_STATUS_THERMAL 0 c
    let m := if cmd then m else m.setDio (fun d => { d with timed := bitPut d.timed c false })
    if rearmEdge then m.put Reg.DIO_CHc_STATUS_LOCKED 0 c else m

/-- An intact delivery of 8 bytes with its PRODUCER_VALID (R454, R455, R467, R469). -/
def Mod.dioDeliver (m : Mod) (payload : List Byte) (valid : Bool) : Mod :=
  let cmd := leNat (payload.take 4)
  let rearm := leNat ((payload.drop 4).take 4)
  let old := m.dio.rearm
  let report := m.dio.wdtReport
  let edge := fun c => match old with | none => false | some o => !bitOf o c && bitOf rearm c
  let m := (List.range 32).foldl (fun a c => a.dioChannelDelivery c (bitOf cmd c) (edge c)) m
  let m := m.setDio (fun d => { d with
    rearm := some rearm, delivered := true, waits := 0, wdtReport := false, invalidDelivery := !valid,
    wdtSafe := if valid then false else d.wdtSafe })
  let m := if report then m.raise 0x100 9 0 [0, m.get Reg.DIO_Gg_SUPPLY_MV 0] else m
  let m := if valid then
      (List.range 32).foldl (fun a c => if a.dioCause c then a else a.put Reg.DIO_CHc_STATUS_SAFE 0 c) m
    else m
  m.dioRefresh

/-- A DIO fault: channel or group number and its L+ reading in the snapshot (R476). -/
def Mod.dioFault (m : Mod) (source kind number g : Nat) : Mod :=
  m.raise source kind 0 [number, m.get Reg.DIO_Gg_SUPPLY_MV g]

end Sys2Proof.Machine
end

