-- ==== Sys2Proof/Machine/LbbOps.lean ====
section
/-!
DEFINITION. The F2 backplane bridge below its commands: windows (R425), F2 cycles (R426 to R428), the prefetch buffer
(R435, R436), the LBB safe table (R437) and the bridge state (R444).
-/

namespace Sys2Proof.Machine

def Mod.setLbb (m : Mod) (f : LbbState → LbbState) : Mod := { m with lbb := f m.lbb }

def f2Base : Nat := 0x200000000

/-! ### Windows -/

def Mod.winStart (m : Mod) (w : Nat) : Nat := m.get Reg.LBB_WINw_CFG_BASE w * 65536
def Mod.winLen (m : Mod) (w : Nat) : Nat := (m.get Reg.LBB_WINw_CFG_SIZEM1 w + 1) * 65536

/-- The valid window that holds all of `n` bytes from F2 address `a`. -/
def Mod.window (m : Mod) (a n : Nat) : Option Nat :=
  (List.range 16).find? (fun w => m.flag Reg.LBB_WINw_CFG_VALID w && m.winStart w ≤ a && a + n ≤ m.winStart w + m.winLen w)

/-- The bridge has released the backplane: in RUN_STANDBY (R343, R437), and after a takeover until the first basic cycle start
after its step 3 (R351 step 6). -/
def Mod.lbbReleased (m : Mod) : Bool :=
  m.unit == stSTANDBY ||
    (m.unit == stACTIVE && (m.twn.takingOver || (!m.gw.started && m.get Reg.LBB_STATUS_STATE == 5)))

/-- LBB_STATUS.STATE (R444): 0 DISABLED, 1 IDLE, 2 OUTBOUND, 3 GRANTED, 5 RELEASED. -/
def Mod.lbbStateCode (m : Mod) : Nat :=
  if !m.flag Reg.LBB_CTL_ENABLE then 0
  else if m.lbbReleased then 5
  else if m.lbb.granted then 3
  else if !m.lbb.waiting.isEmpty then 2
  else 1

/-- The bridge can start an F2 cycle: it owns the bus, no card holds FACK#, and it has not released the backplane. -/
def Mod.f2Free (m : Mod) : Bool := !m.lbb.granted && !m.lbb.ackStuck && !m.lbbReleased

/-! ### Prefetch buffer -/

/-- The buffered words of window `w` are discarded and counted (R436). -/
def Mod.discardWords (m : Mod) (w : Nat) : Mod :=
  let n := (m.lbb.buffer.filter (fun x => x.window == w)).length
  let m := m.setLbb (fun l => { l with buffer := l.buffer.filter (fun x => x.window != w) })
  if n = 0 then m else m.count Reg.LBB_PREFETCH_DISCARDw_WORDS n w

/-- FBG# follows FBR# (R430, R437): granted at once, since no F2 cycle runs between commands, and never while the bridge has
released the backplane. A grant discards the buffered words (R436). -/
def Mod.busGrant (m : Mod) : Mod :=
  let may := m.flag Reg.LBB_STATUS_BR && m.flag Reg.LBB_CTL_ENABLE && !m.lbbReleased
  if !m.lbb.granted && may && m.flag Reg.LBB_CTL_GRANT_EN then
    ((List.range 16).foldl Mod.discardWords ((m.setLbb (fun l => { l with granted := true, due := none })).emit (.fbg true)))
  else if m.lbb.granted && !may then (m.setLbb (fun l => { l with granted := false })).emit (.fbg false)
  else m

/-- Transactions of initiators that wait (R428); the writes of the safe table are the bridge's own. -/
def Mod.f2Queue (m : Mod) : Nat := (m.lbb.waiting.filter (fun x => x.who != .lbb)).length

def Mod.lbbRefresh (m : Mod) : Mod :=
  let m := m.busGrant
  (m.put Reg.LBB_STATUS_STATE m.lbbStateCode).put Reg.LBB_STATUS_QUEUE m.f2Queue

def Mod.bufWord (m : Mod) (a : Nat) : Option PrefetchWord := m.lbb.buffer.find? (fun x => x.addr == a)

/-- F2 words that an access of `n` bytes at `a` touches: word address, byte strobes. -/
def f2Words (a n : Nat) : List (Nat × Nat) :=
  if n = 1 then [(a / 2 * 2, if a % 2 = 0 then 1 else 2)] else (List.range (n / 2)).map (fun i => (a + 2 * i, 3))

/-! ### Cycles -/

/-- Read cycles in ascending order: the words read so far, until a card gives no FACK#. -/
def readCycles : List (Nat × Nat) → List CardReply → Mod → Mod × Option (List Nat) × List CardReply
  | [], cs, m => (m, some [], cs)
  | (a, s) :: ws, cs, m =>
    let m := m.emit (.f2 false a s 0)
    match cs with
    | .ack d :: cs' =>
      match readCycles ws cs' m with
      | (m', some l, r) => (m', some (d.toNat :: l), r)
      | (m', none, r) => (m', none, r)
    | .none :: cs' => (m, none, cs')
    | [] => (m, none, [])

/-- Write cycles in ascending order. -/
def writeCycles : List ((Nat × Nat) × Nat) → List CardReply → Mod → Mod × Bool × List CardReply
  | [], cs, m => (m, true, cs)
  | ((a, s), d) :: ws, cs, m =>
    let m := m.emit (.f2 true a s d)
    match cs with
    | .ack _ :: cs' => writeCycles ws cs' m
    | .none :: cs' => (m, false, cs')
    | [] => (m, false, [])

/-- Value of `n` bytes at `a` from the words read. -/
def f2Value (a n : Nat) (ws : List Nat) : Nat :=
  if n = 1 then (let w := ws.headD 0; if a % 2 = 0 then w % 256 else w / 256)
  else ws.foldr (fun w acc => w + 65536 * acc) 0

/-- Words that carry value `v` of `n` bytes at `a`. -/
def f2Split (a n v : Nat) : List Nat :=
  if n = 1 then [if a % 2 = 0 then v % 256 else v % 256 * 256] else (List.range (n / 2)).map (fun i => bitsOf v (16 * i) 16)

/-- F2_TIMEOUT: the transaction ends and is counted (R428, R450). -/
def Mod.f2TimedOut (m : Mod) (a : Nat) : Mod := (m.raise 0xF8 1 (f2Base + a)).count Reg.LBB_STATS_TIMEOUTS 1

/-- F2_DECODE (R425). -/
def Mod.f2Decode (m : Mod) (a : Nat) : Mod := m.raise 0xF8 2 (f2Base + a)

/-- An outbound read of `n` bytes at `a` in window `w`: from the buffer if it holds it, else by cycles (R426, R435,
R436). -/
def Mod.f2Read (m : Mod) (w a n : Nat) (cs : List CardReply) : Mod × Option Nat × List CardReply :=
  let ws := f2Words a n
  let held := ws.map (fun x => m.bufWord x.1)
  let words := ws.map (·.1)
  let next := if m.flag Reg.LBB_WINw_CFG_MEMORY_LIKE w && m.flag Reg.LBB_WINw_CFG_PREFETCH w then
      some (w, (words.getLastD a) + 2, m.get Reg.LBB_WINw_CFG_PREFETCH w) else none
  if held.all (·.isSome) then
    let m := m.setLbb (fun l => { l with buffer := l.buffer.filter (fun x => !words.contains x.addr), due := next })
    (m, some (f2Value a n (held.map (fun x => (x.map (·.word)).getD 0))), cs)
  else
    match readCycles ws cs (m.discardWords w) with
    | (m', some l, r) => (m'.setLbb (fun b => { b with due := next }), some (f2Value a n l), r)
    | (m', none, r) => (m'.f2TimedOut a, none, r)

/-- An outbound write of `n` bytes at `a` in window `w`. -/
def Mod.f2Write (m : Mod) (w a n v : Nat) (cs : List CardReply) : Mod × Bool × List CardReply :=
  let m := m.setLbb (fun l => { l with due := none })
  match writeCycles ((f2Words a n).zip (f2Split a n v)) cs (m.discardWords w) with
  | (m', true, r) => (m', true, r)
  | (m', false, r) => (m'.f2TimedOut a, false, r)

/-- Result of the arithmetic of an AMO on `n` bytes (RISC-V A). -/
def amoResult (op : AmoOp) (n old v : Nat) : Nat :=
  let w := 8 * n
  match op with
  | .swap => v % 2 ^ w
  | .add => (old + v) % 2 ^ w
  | .xor => (old ^^^ v) % 2 ^ w
  | .and => (old &&& v) % 2 ^ w
  | .or => (old ||| v) % 2 ^ w
  | .min => if sext w old ≤ sext w v then old else v % 2 ^ w
  | .max => if sext w v ≤ sext w old then old else v % 2 ^ w
  | .minu => min old (v % 2 ^ w)
  | .maxu => max old (v % 2 ^ w)

/-- A locked sequence: read cycles, then write cycles, FLOCK# asserted throughout (R427). -/
def Mod.f2Amo (m : Mod) (w a n : Nat) (op : AmoOp) (v : Nat) (cs : List CardReply) : Mod × Option Nat × List CardReply :=
  let m := (m.setLbb (fun l => { l with due := none })).emit (.flock true)
  match readCycles (f2Words a n) cs (m.discardWords w) with
  | (m', none, r) => ((m'.f2TimedOut a).emit (.flock false), none, r)
  | (m', some l, r) =>
    let old := f2Value a n l
    match writeCycles ((f2Words a n).zip (f2Split a n (amoResult op n old v))) r m' with
    | (m2, true, r2) => (m2.emit (.flock false), some old, r2)
    | (m2, false, r2) => ((m2.f2TimedOut a).emit (.flock false), none, r2)

/-! ### Safe table (R437) -/

/-- One write of the safe table; it discards the buffered words of its window (R436). A write that no card acknowledges is
reported by a command of its own (F2_TIMEOUT). -/
def Mod.safeWrite (m : Mod) (a v : Nat) : Mod :=
  (match m.window a 2 with
    | some w => m.discardWords w
    | none => m).emit (.f2 true a 3 v)

/-- The writes of the safe table, in table order; while the bus is not free they wait for it. -/
def Mod.lbbSafeWrites (m : Mod) : Mod :=
  if !m.flag Reg.LBB_CTL_ENABLE || m.lbbReleased then m
  else if m.f2Free then m.lbb.safe.foldl (fun a e => a.safeWrite e.1 e.2) m
  else m.setLbb (fun l => { l with
    waiting := l.waiting ++ l.safe.map (fun e => ⟨.lbb, .write .b2 (BitVec.ofNat 64 e.2), e.1, []⟩) })

/-- What the bridge and the outputs do when SYS_STATE has changed: the safe table writes (R437), the CAN mailboxes of the
safe rule (R383) and the DIO safe state (R467). -/
def Mod.onUnitState (m : Mod) : Mod :=
  let m := if m.unit = stSAFE ∨ m.unit = stDEBUG ∨ m.unit = stSURRENDERED then m.lbbSafeWrites else m
  let m := if m.unit = stSAFE ∨ m.unit = stDEBUG then m.canSafe (fun _ _ => true) else m
  m.dioRefresh.lbbRefresh

end Sys2Proof.Machine
end

