-- ==== Sys2Proof/Machine/Unit.lean ====
section
/-!
DEFINITION. The unit as a whole: state transitions (R543), SAFE, surrender (R345), SAFE_LATCH (R544), skipped releases,
and a pair that fails (R60, R61, R631).
-/

namespace Sys2Proof.Machine

/-! ### Task bookkeeping -/

/-- The task set that pair `p` runs: in TRIAD the one task set, kept under pair 0 (R110). -/
def Mod.own (m : Mod) (p : Nat) : Nat := if m.triad then 0 else p

/-- Task descriptors of pair `p` in the table in force. -/
def Mod.descs (m : Mod) (p : Nat) : List TaskDesc :=
  match m.task.table with
  | none => []
  | some t => t.descs.getD (m.own p) []

def Mod.desc (m : Mod) (p t : Nat) : Option TaskDesc := (m.descs p).find? (fun d => d.index == t)

def Mod.dyn (m : Mod) (p t : Nat) : TaskDyn :=
  (m.task.dyn.find? (fun d => d.pair == m.own p && d.task == t)).getD ⟨m.own p, t, 0, none, none, false, none, []⟩

def putDyn (l : List TaskDyn) (d : TaskDyn) : List TaskDyn :=
  if l.any (fun x => x.pair == d.pair && x.task == d.task) then
    updFirst (fun x => x.pair == d.pair && x.task == d.task) (fun _ => d) l
  else l ++ [d]

def Mod.setDyn (m : Mod) (d : TaskDyn) : Mod := { m with task := { m.task with dyn := putDyn m.task.dyn d } }

/-- The latched release of task `t` of pair `p`, if it has not reached its commit point. -/
def Mod.rel (m : Mod) (p t : Nat) : Option Release :=
  m.task.releases.find? (fun r => r.pair == m.own p && r.desc.index == t && r.stage != .done)

def Mod.setRels (m : Mod) (f : List Release → List Release) : Mod :=
  { m with task := { m.task with releases := f m.task.releases } }

/-- The release of task `t` of pair `p` changed. -/
def Mod.updRel (m : Mod) (p t : Nat) (f : Release → Release) : Mod :=
  m.setRels (updFirst (fun r => r.pair == m.own p && r.desc.index == t && r.stage != .done) f)

def Mod.delRel (m : Mod) (p t : Nat) : Mod :=
  { m.setRels (List.filter (fun r => !(r.pair == m.own p && r.desc.index == t))) with
    lgr := { m.lgr with requests := m.lgr.requests.filter (· != (m.own p, t)) } }

/-- A configuration transaction ends with `result` (R563). -/
def Mod.txnClose (m : Mod) (result : Nat) : Mod :=
  let m := { m with cfg := { m.cfg with txn := none } }
  let m := (m.put Reg.CFG_TXN_STATUS_STATE 0).put Reg.CFG_TXN_STATUS_OWNER 0
  ((m.put Reg.CFG_TXN_STATUS_WRITES 0).put Reg.CFG_TXN_STATUS_RESULT result).put Reg.CFG_TXN_BEGIN_BEGIN 0

/-- The transaction bound to the release of task `t` of task set `o` is discarded (R547). -/
def Mod.txnDrop (m : Mod) (o t : Nat) : Mod :=
  match m.cfg.txn with
  | none => m
  | some x => if (x.owner == .pair o || (x.owner == .triad && o == 0)) && x.task == t then m.txnClose 4 else m

/-- A task register field of pair `p` and task `t`: in TRIAD kept once (R156). -/
def Mod.tget (m : Mod) (f : Fld) (p t : Nat) : Nat := m.get f (m.own p) t
def Mod.tput (m : Mod) (f : Fld) (p t v : Nat) : Mod := m.put f v (m.own p) t

/-- Causes of TASK_Tn_STATUS.SKIP_CAUSE (R157). -/
def skRESTART : Nat := 1
def skPOLICY : Nat := 2
def skNOTRELEASED : Nat := 3
def skTRAP : Nat := 4
def skINHIBITED : Nat := 5
def skFAILED : Nat := 6

/-- A release is skipped: counted and recorded (R157, R158, R502). -/
def Mod.skip (m : Mod) (p t number cause : Nat) : Mod :=
  ((m.count Reg.TASK_Tn_SKIPS_TOTAL 1 (m.own p) t).tput Reg.TASK_Tn_STATUS_SKIP_CAUSE p t cause).event 0x0380 svINFO
    [t + 256 * m.own p, cause, number % 2 ^ 32]

/-- The parts of pair `p` in its releases changed. -/
def Mod.updParts (m : Mod) (p : Nat) (f : Release → Part → Part) : Mod :=
  m.setRels (List.map (fun r =>
    if r.pair == m.own p then { r with parts := r.parts.map (fun q => if q.pair == p then f r q else q) } else r))

/-! ### Scales registers by pair (R102) -/

def vstateFld (p : Nat) : Fld := ⟨0x30004, 0, 0, 3 * p, 3, .ro, 0⟩
def resyncsFld (p : Nat) : Fld := ⟨0x30004, 0, 0, 16 + 4 * p, 4, .ro, 0⟩

def vsOFF : Nat := 0
def vsVOTING : Nat := 1
def vsEXCLUDED : Nat := 2
def vsDEGRADED : Nat := 3
def vsPROBATION : Nat := 4
def vsFAILED : Nat := 5

def Mod.vstate (m : Mod) (p : Nat) : Nat := m.get (vstateFld p)
def Mod.setVstate (m : Mod) (p v : Nat) : Mod := m.put (vstateFld p) v
def Mod.setScl (m : Mod) (f : SclState → SclState) : Mod := { m with scl := f m.scl }
/-- A voter now: VOTING or PROBATION (R85). -/
def Mod.votes (m : Mod) (p : Nat) : Bool := m.vstate p == vsVOTING || m.vstate p == vsPROBATION

/-! ### Lane registers -/

def lnRESET : Nat := 0
def lnSELFTEST : Nat := 1
def lnIDLE : Nat := 2
def lnRUN : Nat := 3
def lnRESTORE : Nat := 4
def lnFAILED : Nat := 5
def lnDEBUG : Nat := 6

def Mod.lstate (m : Mod) (p : Nat) : Nat := m.get Reg.LANE_STATUS_STATE p
def Mod.setLstate (m : Mod) (p v : Nat) : Mod := m.put Reg.LANE_STATUS_STATE v p
def Mod.half (m : Mod) (p : Nat) : Nat := m.get Reg.LANE_STATUS_ACTIVE_HALF p

/-! ### The online change ends -/

/-- Base of the management core's DRAM area (R27). -/
def mcDram : Nat := 0xD0000000
/-- Base of the update staging area (R27). -/
def stagingDram : Nat := 0xB0000000
/-- Address of the change descriptor (R203, R228). -/
def Mod.chgDesc (m : Mod) : Nat := mcDram + m.get Reg.TASK_CHG_Q_OFFSET * 64

/-- RESULT and REFUSE written into the descriptor and TASK_CHG_STATUS (R203, R229). -/
def Mod.chgResult (m : Mod) (result refuse : Nat) : Mod :=
  ((m.wr8 (m.chgDesc + 5) (BitVec.ofNat 8 result)).wr8 (m.chgDesc + 6) (BitVec.ofNat 8 refuse)).put
    Reg.TASK_CHG_STATUS_RESULT result |>.put Reg.TASK_CHG_STATUS_REFUSE refuse

/-- The change is over: the sequencer is IDLE and the change area is free (R226). -/
def Mod.chgIdle (m : Mod) : Mod :=
  let c : ChgState := { m.chg with
    payload := [], programs := [], table := none, tableBytes := [], migs := []
    acked := false, checked := false, pendingSet := none }
  { m.put Reg.TASK_CHG_STATUS_STATE 0 with chg := c }

/-- RESULT 4 and CHANGE_ABANDONED (R208, R226). -/
def Mod.chgAbandon (m : Mod) (code : Nat) : Mod :=
  ((m.chgResult 4 code).raise 0x050 9 0 [m.chg.session, code]).chgIdle

/-! ### Unit state -/

def Mod.setCyc (m : Mod) (f : CycState → CycState) : Mod := { m with cyc := f m.cyc }
def Mod.setTwn (m : Mod) (f : TwnState → TwnState) : Mod := { m with twn := f m.twn }
def Mod.setLgr (m : Mod) (f : LgrState → LgrState) : Mod := { m with lgr := f m.lgr }

/-- The held map record, by slot (R189). -/
def Mod.heldMap (m : Mod) : Option (Nat × MapRec) := m.lgr.maps.find? (fun x => x.2.held)

/-- The slot after `s` modulo 8, skipping the held one (R179). -/
def Mod.nextSlot (m : Mod) (s : Nat) : Nat :=
  let n := (s + 1) % 8
  match m.heldMap with
  | some (h, _) => if n = h then (n + 1) % 8 else n
  | none => n

/-- A granule of FRC or RT changed outside a release: a commit without releases is due (R179). -/
def Mod.loose (m : Mod) (gs : List Nat) : Mod :=
  m.setLgr (fun l => { l with loose := (l.loose ++ gs).dedup, looseDue := true })

/-- RT granules of the module entry (R171: offset 0x2400). -/
def moduleGranules : List Nat := [6500]
/-- RT granule of task entry `t` of pair `p` (R171). -/
def rtGranule (p t : Nat) : Nat := 6464 + (48 * p + t) / 4

/-- SAFE_LATCH is set while the unit is in SAFE or SURRENDERED and a FATAL record is open (R544). -/
def Mod.checkLatch (m : Mod) : Mod :=
  if (m.unit = stSAFE ∨ m.unit = stSURRENDERED) ∧ m.fc.record.isSome ∧ m.get Reg.FC_OPEN_CLASS = clFATAL ∧
      m.lgr.safeLatch = false then
    ((m.setLgr (fun l => { l with safeLatch := true })).put Reg.SYS_STATE_SAFE_LATCH 1).loose moduleGranules
  else m

/-- Last state that the module entry keeps (R171). -/
def lastStateOf (old new : Nat) : Nat := if new = stACTIVE ∨ new = stSTANDBY ∨ new = stSAFE then new else old

/-- In TRIAL the boot record takes the window and the clean count at every state change (R583). -/
def Mod.bootSave (m : Mod) : Mod :=
  if m.get Reg.UPD_STATE_STATE = 2 then
    { m with upd := { m.upd with boot := { m.upd.boot with
        remain := m.get Reg.UPD_CONFIRM_REMAIN_SECONDS, clean := m.get Reg.UPD_CLEAN_COUNT } } }
  else m

/-- The module entry's last state follows a transition into `new`, and only a changed entry is written again (R171). -/
def Mod.noteLastState (m : Mod) (new : Nat) : Mod :=
  if lastStateOf m.lgr.lastState new = m.lgr.lastState then m
  else (m.setLgr (fun l => { l with lastState := lastStateOf l.lastState new })).loose moduleGranules

/-- A transition of SYS_STATE.STATE: STATE_CHANGE is written and the module entry updated (R543). -/
def Mod.setState (m : Mod) (new : Nat) : Mod :=
  if m.unit = new then m
  else
    let old := m.unit
    let m := m.bootSave.noteLastState new
    ((m.put Reg.SYS_STATE_STATE new).event 0x0085 svINFO [old, new]).checkLatch.onUnitState

/-- Scales stops voting: every PAIRn_VSTATE reads OFF (R93, R99). -/
def Mod.votesOff (m : Mod) : Mod :=
  ((List.range 3).foldl (fun a p => a.setVstate p vsOFF) m).setScl (fun s => { s with votes := [], copies := [] })

/-- The unit leaves RUN_ACTIVE: voting ends, no release that a commit has not taken commits any more, and a change that
is LOADING, ARMED or in HOLD is abandoned (R93, R179, R226). -/
def Mod.leaveActive (m : Mod) : Mod :=
  let m := m.votesOff
  let m := m.setRels (List.filter (fun r => r.stage == .committing))
  let m := m.setLgr (fun l => { l with requests := [] })
  let m := match m.cfg.txn with
    | some x => if x.owner == .mc then m else m.txnClose 4
    | none => m
  let c := m.get Reg.TASK_CHG_STATUS_STATE
  if c = 1 ∨ c = 2 ∨ c = 3 then m.chgAbandon 1 else m

/-- TWN_STATUS.ROLE codes (R360). -/
def rlNONE : Nat := 0
def rlACTIVE : Nat := 1
def rlSTANDBY : Nat := 2
def rlCLAIMING : Nat := 3
def rlSURRENDERED : Nat := 4
def Mod.role (m : Mod) : Nat := m.get Reg.TWN_STATUS_ROLE
/-- The role, with its copy in SYS_STATE (R562). -/
def Mod.setRole (m : Mod) (r : Nat) : Mod := (m.put Reg.TWN_STATUS_ROLE r).put Reg.SYS_STATE_ROLE r
def Mod.hasTwin (m : Mod) : Bool := m.get Reg.SYS_PROFILE_TWIN_POS != 0

/-- The unit gives up control (R345, R543). `reason` as in the SURRENDER body (R342). -/
def Mod.surrender (m : Mod) (reason : Nat) : Mod :=
  let st := m.unit
  if st = stSTARTING ∨ st = stACTIVE ∨ st = stSAFE ∨ st = stSTANDBY then
    let active := m.role == rlACTIVE
    let m := if m.hasTwin then m.setRole rlSURRENDERED else m
    let m := m.setTwn (fun w => { w with
      surrender := if active && m.hasTwin then some reason else none, claiming := none, swap := none, swapSent := false, takingOver := false })
    let m := m.put Reg.TWN_CTL_SWAP 0
    let m := (m.setCyc (fun c => { c with silent := true })).put Reg.CYC_STATUS_ROLE 4
    (if st = stACTIVE then m.leaveActive else m).setState stSURRENDERED
  else m

/-- An active twin that enters DEBUG performs R345; STATE stays DEBUG. -/
def Mod.surrenderDebug (m : Mod) : Mod :=
  if m.hasTwin && m.role == rlACTIVE then
    (((m.setRole rlSURRENDERED).setTwn (fun w => { w with surrender := some 1, swap := none, swapSent := false })).setCyc
      (fun c => { c with silent := true })).put Reg.CYC_STATUS_ROLE 4 |>.put Reg.TWN_CTL_SWAP 0
  else m

/-- SAFE_OUTPUTS of whole-unit scope (R494, R543). -/
def Mod.enterSafe (m : Mod) : Mod :=
  let st := m.unit
  if st = stACTIVE then m.leaveActive.setState stSAFE
  else if st = stSTANDBY then m.surrender 0
  else if st = stSTARTING then { m with cfg := { m.cfg with safeAtStart := true } }
  else m

/-- Outputs of pair `p` are held in their safe state: the unit does not run, a hold of limited scope covers them, or the
pair has FAILED (R61, R257, R494). -/
def Mod.heldPair (m : Mod) (p : Nat) : Bool :=
  m.unit != stACTIVE || m.fc.taskHold ||
    (if m.triad then (List.range 3).all (fun q => bitOf (m.get Reg.FC_STATUS_PAIR_HOLD) q)
     else bitOf (m.get Reg.FC_STATUS_PAIR_HOLD) p || m.lstate p == lnFAILED)

/-- Some task of pair `p` writes mailbox `k` of controller `n` (R128). -/
def Mod.writesMailbox (m : Mod) (p n k : Nat) : Bool :=
  (m.descs p).any (fun d => d.outputs.any (fun e => e.type == 2 && e.ctrl == n && e.start ≤ k && k < e.start + e.len))

/-- The outputs of the tasks of pair `p` come under a hold of limited scope (R62, R494); the CAN mailboxes that they
write follow (R383). -/
def Mod.holdPair (m : Mod) (p : Nat) : Mod :=
  let m := m.put Reg.FC_STATUS_PAIR_HOLD (m.get Reg.FC_STATUS_PAIR_HOLD ||| 2 ^ p)
  if m.heldPair p then m.canSafe (m.writesMailbox p) else m

/-! ### Vote records when a voter goes (R85, R86, R88) -/

def Mod.voteOf (m : Mod) (t : Nat) : Option VoteRec := m.scl.votes.find? (fun v => v.task == t)
def Mod.updVote (m : Mod) (t : Nat) (f : VoteRec → VoteRec) : Mod :=
  m.setScl (fun s => { s with votes := updFirst (fun v => v.task == t) f s.votes })

/-- Digests of the record's voters, in order of arrival. -/
def VoteRec.voterDigests (v : VoteRec) : List DigestRec := v.digests.filter (fun d => v.voters.contains d.pair)
/-- The record can release nothing any more (R634). -/
def VoteRec.final (v : VoteRec) : Bool := v.windowEnded || v.noMajority || v.skipped

/-- A release that Scales does not release (R89): counted once, its transaction discarded. -/
def Mod.notReleased (m : Mod) (t : Nat) : Mod :=
  match m.rel 0 t with
  | none => m
  | some r =>
    let cause := if r.parts.any (·.trapped) then skTRAP else skNOTRELEASED
    let m := (m.skip 0 t r.number cause).txnDrop 0 t
    m.updRel 0 t (fun x => { x with stage := .done })

/-- NO_MAJORITY (R88): the release is over. -/
def Mod.noMajority (m : Mod) (t : Nat) : Mod :=
  ((m.raise 0x40 4).updVote t (fun x => { x with noMajority := true })).notReleased t

/-- A record after one of its voters has gone: V is the number of voters at any moment, so the window may open now, and every
voter that is left may have delivered without two equal digests (R85, R86, R88; notes/assumptions/40.md). -/
def Mod.reevalVote (m : Mod) (t : Nat) : Mod :=
  match m.voteOf t with
  | none => m
  | some v =>
    if v.released.isSome || v.final || v.voterDigests.isEmpty then m
    else
      let m := if v.window.isNone && decide (v.voters.length - 1 ≤ v.voterDigests.length) then
          m.updVote t (fun x => { x with window := some m.now })
        else m
      if 2 ≤ v.voters.length ∧ v.voterDigests.length = v.voters.length then m.noMajority t else m

def Mod.reevalVotes (m : Mod) : Mod := (m.scl.votes.map (·.task)).foldl Mod.reevalVote m

/-- The record without voter `p`; its digest goes unless the record has been released (R58, R94). -/
def VoteRec.without (v : VoteRec) (p : Nat) : VoteRec :=
  { v with
    voters := v.voters.filter (· != p)
    digests := if v.released.isSome then v.digests else v.digests.filter (fun d => d.pair != p) }

/-! ### A pair fails -/

/-- Whether R61 calls for surrender when pair `p` is FAILED. -/
def Mod.failSurrenders (m : Mod) (p : Nat) : Bool :=
  if m.triad then ((List.range 3).filter (fun q => m.lstate q == lnFAILED)).length ≥ 2
  else (m.descs p).any (·.safe)

/-- A pair is no longer a voter of any record (R85, R94). -/
def Mod.unvoter (m : Mod) (p : Nat) : Mod :=
  (m.setScl (fun s => { s with votes := s.votes.map (fun v => v.without p) })).reevalVotes

/-- Releases of a FAILED pair that no commit has taken are discarded (R631). -/
def Mod.discardFailed (m : Mod) (p : Nat) : Mod :=
  if m.triad then
    m.updParts p (fun _ q => { q with dropped := true })
  else
    let lost := m.task.releases.filter (fun r => r.pair == p && r.stage != .committing)
    let m := lost.foldl (fun a r => (a.skip p r.desc.index r.number skFAILED).txnDrop p r.desc.index) m
    lost.foldl (fun a r => a.delRel p r.desc.index) m

/-- Pair `p` becomes FAILED with `cause` (R60, R61, R72, R631). -/
def Mod.failPair (m : Mod) (p cause : Nat) : Mod :=
  if m.lstate p = lnFAILED then m
  else
    let m := ((m.setLstate p lnFAILED).put Reg.LANE_FAIL_CAUSE_CAUSE cause p).put Reg.LANE_FAIL_CAUSE_CYCLE m.cycle p
    let m := m.setLane p (fun l => { l with restart := none, reservation := none })
    let m := m.discardFailed p
    let m := if m.triad ∧ m.vstate p ≠ vsOFF then (m.setVstate p vsFAILED).unvoter p else m
    if m.failSurrenders p then
      if m.unit = stSTARTING then { m with cfg := { m.cfg with safeAtStart := true } } else m.surrender 0
    else m.holdPair p

/-- A release or a latch of a pair is possible: the pair executes tasks. -/
def Mod.pairRuns (m : Mod) (p : Nat) : Bool := m.lstate p == lnRUN || m.lstate p == lnDEBUG

end Sys2Proof.Machine
end

