-- ==== Sys2Proof/Machine/Tables.lean ====
section
/-!
DEFINITION. The tables of the control program and of the network as bytes: task release table (R126 to R130), program
image (R137 to R139), migration table and change set (R202, R210 to R214), schedule directory (R248 to R250), I/O copy
table (R252, R253), node table (R266) and window directory (R295 to R298). A reader `rd o n` gives the little-endian
number of `n` bytes at offset `o`; `by_ o n` gives the bytes.
-/

namespace Sys2Proof.Machine

/-- `n` bytes of a list from offset `o`; past its end the bytes are 0. -/
def sliceB (l : List Byte) (o n : Nat) : List Byte :=
  let s := (l.drop o).take n
  s ++ List.replicate (n - s.length) 0

def listLE (l : List Byte) (o n : Nat) : Nat := leNat (sliceB l o n)

/-- Reader of the boot and engine table SRAM from offset `base`. -/
def Mod.trd (m : Mod) (base o n : Nat) : Nat := m.rdLE (tableBase + base + o) n
def Mod.tby (m : Mod) (base o n : Nat) : List Byte := m.rdBytes (tableBase + base + o) n

def isPow2 (n : Nat) : Bool := (List.range 13).any (fun k => n == 2 ^ k)

/-- Whether two ranges [a, a + n) and [b, b + k) overlap. -/
def overlap (a n b k : Nat) : Bool := a < b + k && b < a + n

/-- Every two elements (in list order) satisfy `p`. -/
def allPairs {α : Type} (p : α → α → Bool) : List α → Bool
  | [] => true
  | a :: r => r.all (p a) && allPairs p r

def sortedBy {α : Type} (lt : α → α → Bool) : List α → Bool
  | a :: b :: r => lt a b && sortedBy lt (b :: r)
  | _ => true

/-! ### Program metadata (R139) -/

structure VarEntry where
  id : Nat
  off : Nat
  width : Nat
  bit : Nat
  deriving DecidableEq, Repr

structure TaskEntry where
  index : Nat
  entry : Nat
  init : Nat
  stack : Nat
  deriving DecidableEq, Repr

structure ProgMeta where
  programId : Nat
  version : Nat
  codeCrc : Nat
  stateUsed : Nat
  layoutId : Nat
  tasks : List TaskEntry
  vars : List VarEntry
  deriving DecidableEq, Repr

def parseMeta (rd : Nat → Nat → Nat) : Option ProgMeta :=
  let nt := rd 6 1
  let nv := rd 0x1C 2
  if rd 0 4 = 0x4154454D ∧ rd 4 2 = 1 ∧ 1 ≤ nt ∧ nt ≤ 48 ∧ nv ≤ 160 then
    some ⟨rd 8 8, rd 0x10 4, rd 0x14 4, rd 0x18 4, rd 0x20 8,
      (List.range nt).map (fun i => ⟨rd (0x40 + 16 * i) 1, rd (0x44 + 16 * i) 4, rd (0x48 + 16 * i) 4, rd (0x4C + 16 * i) 4⟩),
      (List.range nv).map (fun i => ⟨rd (0x340 + 16 * i) 4, rd (0x344 + 16 * i) 4, rd (0x348 + 16 * i) 1, rd (0x349 + 16 * i) 1⟩)⟩
  else none

/-- Offset of .farov.meta within a half (R137). -/
def metaOff : Nat := 0x1BF000

/-- Metadata of the program in half `h` of pair `p`. -/
def Mod.progMeta (m : Mod) (p h : Nat) : Option ProgMeta := parseMeta (fun o n => m.rdLE (halfBase p h + metaOff + o) n)
/-- Metadata of the running program of pair `p`. -/
def Mod.prog (m : Mod) (p : Nat) : Option ProgMeta := m.progMeta p (m.half p)
def Mod.programId (m : Mod) (p : Nat) : Nat := ((m.prog p).map (·.programId)).getD 0
def Mod.layoutId (m : Mod) (p : Nat) : Nat := ((m.prog p).map (·.layoutId)).getD 0
/-- A forced variable of the running program (R139, R148). -/
def Mod.var (m : Mod) (p id : Nat) : Option VarEntry := ((m.prog p).map (·.vars)).getD [] |>.find? (fun v => v.id == id)

/-- The two PT_LOAD segments and .farov.meta of an ELF64 executable (R137), placed as the loader places them. -/
def loadElf (l : List Byte) : Option Program :=
  let rd := listLE l
  let phoff := rd 32 8
  let phn := rd 56 2
  let phs := (List.range phn).map (fun i => phoff + rd 54 2 * i)
  let load := phs.filter (fun o => rd o 4 == 1)
  let code := load.find? (fun o => rd (o + 4) 4 == 5)
  let state := load.find? (fun o => rd (o + 4) 4 == 6)
  let shoff := rd 40 8
  let shs := (List.range (rd 60 2)).map (fun i => shoff + rd 58 2 * i)
  let strOff := rd (shoff + rd 58 2 * rd 62 2 + 24) 8
  let name : List Byte := [0x2e, 0x66, 0x61, 0x72, 0x6f, 0x76, 0x2e, 0x6d, 0x65, 0x74, 0x61, 0]
  let sect := shs.find? (fun o => sliceB l (strOff + rd o 4) 12 == name)
  match code, state, sect with
  | some c, some s, some mt =>
    if rd 0 4 = 0x464C457F ∧ rd 4 1 = 2 ∧ rd 5 1 = 1 ∧ rd 16 2 = 2 ∧ rd 18 2 = 243 ∧ rd 48 4 = 5 ∧ load.length = 2 ∧
        rd (c + 16) 8 + rd (c + 40) 8 ≤ 0x1BF000 ∧ 0x80000000 ≤ rd (s + 16) 8 ∧
        rd (s + 16) 8 + rd (s + 40) 8 ≤ 0x80080000 then
      let pad := List.replicate (rd (c + 16) 8) (0 : Byte)
      let half := sliceB (pad ++ sliceB l (rd (c + 8) 8) (rd (c + 32) 8)) 0 metaOff ++ sliceB l (rd (mt + 24) 8) 4096
      let so := rd (s + 16) 8 - 0x80000000
      some ⟨half, List.replicate so 0 ++ sliceB l (rd (s + 8) 8) (rd (s + 32) 8), so + rd (s + 40) 8⟩
    else none
  | _, _, _ => none

def Program.info (p : Program) : Option ProgMeta := parseMeta (fun o n => listLE p.half (metaOff + o) n)

/-- CODE_CRC over half offsets 0x0 to 0x1B_EFFF (R139). -/
def Program.codeOk (p : Program) : Bool :=
  match p.info with
  | some i => crc32 (sliceB p.half 0 metaOff) == i.codeCrc
  | none => false

/-- The loader writes a program into half `h` of pair `p` (R205). -/
def Mod.loadHalf (m : Mod) (p h : Nat) (g : Program) : Mod := m.wrBytes (halfBase p h) (sliceB g.half 0 0x1C0000)

/-! ### Task release table (R126 to R130) -/

def parseExtent (rd : Nat → Nat → Nat) (o : Nat) : Extent := ⟨rd o 2, rd (o + 2) 2 + 1, rd (o + 4) 1, rd (o + 5) 1⟩
def parseTrig (rd : Nat → Nat → Nat) (o : Nat) : TrigEntry := ⟨rd o 1, rd (o + 1) 1, rd (o + 2) 2, rd (o + 4) 4⟩

def parseDesc (rd : Nat → Nat → Nat) (extOff trigOff o : Nat) : TaskDesc :=
  let fl := rd (o + 2) 1
  ⟨rd o 1, rd (o + 1) 1, bitOf fl 0, bitOf fl 1, bitOf fl 2, bitsOf fl 3 2, rd (o + 4) 2, rd (o + 6) 2, rd (o + 8) 4,
    rd (o + 12) 4, rd (o + 16) 4,
    (List.range (rd (o + 0x16) 2)).map (fun i => parseExtent rd (extOff + 8 * (rd (o + 0x14) 2 + i))),
    (List.range (rd (o + 0x1A) 2)).map (fun i => parseExtent rd (extOff + 8 * (rd (o + 0x18) 2 + i))),
    (List.range (rd (o + 0x1D) 1)).map (fun i => parseTrig rd (trigOff + 8 * (rd (o + 0x1C) 1 + i)))⟩

/-- Reserved fields of a descriptor read 0, and its lists lie in the pools. -/
def descBounds (rd : Nat → Nat → Nat) (o extCount trigCount : Nat) : Bool :=
  bitsOf (rd (o + 2) 1) 5 3 == 0 && rd (o + 3) 1 == 0 && rd (o + 0x1E) 2 == 0 && rd (o + 0x16) 2 ≤ 1024 &&
    rd (o + 0x1A) 2 ≤ 1024 && rd (o + 0x14) 2 + rd (o + 0x16) 2 ≤ extCount && rd (o + 0x18) 2 + rd (o + 0x1A) 2 ≤ extCount &&
    rd (o + 0x1C) 1 + rd (o + 0x1D) 1 ≤ trigCount

/-- The table as bytes, with its Header checks (R126, R130). -/
def parseTaskTable (rd : Nat → Nat → Nat) (by_ : Nat → Nat → List Byte) : Option TaskTable :=
  let len := rd 0x48 4
  let ext := rd 0x1C 4
  let extN := rd 0x20 4
  let trg := rd 0x24 4
  let trgN := rd 0x28 2
  let cnt := fun i => rd (0x0C + i) 1
  let off := fun i => rd (0x10 + 4 * i) 4
  let offs := (List.range 3).flatMap (fun i => (List.range (cnt i)).map (fun k => off i + 32 * k))
  if rd 0 4 = 0x31545254 ∧ rd 4 2 = 1 ∧ rd 6 2 < 2 ∧ 1 ≤ rd 8 2 ∧ rd 8 2 ≤ 256 ∧ 1 ≤ rd 0xA 1 ∧ rd 0xA 1 ≤ 64 ∧
      rd 0xB 1 = 0 ∧ rd 0xF 1 = 0 ∧ rd 0x2A 2 = 0 ∧ (by_ 0x4C 16).all (· == 0) ∧ 0x60 ≤ len ∧ len ≤ 0x100000 ∧
      1 ≤ extN ∧ extN ≤ 8192 ∧ ext + 8 * extN ≤ len ∧ trgN ≤ 128 ∧ trg + 8 * trgN ≤ len ∧
      (List.range 3).all (fun i => cnt i ≤ 48 && off i + 32 * cnt i ≤ len) ∧
      offs.all (fun o => descBounds rd o extN trgN) ∧
      crc32 (by_ 0 0x5C ++ by_ 0x60 (len - 0x60)) = rd 0x5C 4 then
    some ⟨rd 6 2 == 1, rd 8 2, rd 0xA 1,
      (List.range 3).map (fun i => (List.range (cnt i)).map (fun k => parseDesc rd ext trg (off i + 32 * k))),
      rd 0x2C 4, (List.range 3).map (fun i => rd (0x30 + 8 * i) 8)⟩
  else none

/-- What the checks of R130 need from the rest of the module. -/
structure TaskCtx where
  triad : Bool
  split : Nat → Bool
  bcQ : Nat
  macroN : Nat
  program : Nat → Option ProgMeta
  inputChan : Nat → Bool
  filter : Nat → Nat → Bool
  arrival : Nat → Bool

def Extent.lt (a b : Extent) : Bool :=
  a.type < b.type || (a.type == b.type && (a.ctrl < b.ctrl || (a.ctrl == b.ctrl && a.start < b.start)))

def Extent.meets (a b : Extent) : Bool :=
  a.type == b.type && a.ctrl == b.ctrl && overlap a.start a.len b.start b.len

def Extent.inRange (e : Extent) (input : Bool) : Bool :=
  (if input then e.type == 0 else 1 ≤ e.type && e.type ≤ 3) &&
    (if e.type ≤ 1 then e.start + e.len ≤ 0x10000 else e.start + e.len ≤ 64) &&
    (if e.type == 2 then e.ctrl < 8 else e.ctrl == 0)

def extentsOk (l : List Extent) (input : Bool) : Bool :=
  l.all (Extent.inRange · input) && sortedBy Extent.lt l && allPairs (fun a b => !a.meets b) l

def TaskDesc.cyclic (d : TaskDesc) : Bool := d.index < 16

/-- Timing check of R130 and the ratio of R112. -/
def timingOk (d : TaskDesc) (b : Nat) : Bool :=
  d.budget != 0 &&
  if d.cyclic then
    1 ≤ d.periodQ && d.periodQ ≤ 4096 &&
      (if d.periodQ ≥ b then d.periodQ % b == 0 && isPow2 (d.periodQ / b) && d.phase < d.periodQ / b
       else b % d.periodQ == 0 && isPow2 (b / d.periodQ) && d.phase == 0) &&
      d.offset < min d.periodQ b * 2500 && d.offset + d.budget ≤ d.deadline
  else d.periodQ == 0 && d.phase == 0 && d.offset == 0 && d.budget ≤ d.deadline

def triggerOk (c : TaskCtx) (e : TrigEntry) : Bool :=
  match e.src with
  | 1 => e.opt == 0 && e.id < 8 && e.param == 0
  | 2 => 1 ≤ e.opt && e.opt ≤ 3 && e.id < 32 && c.inputChan e.id && e.param == 0
  | 3 => e.opt == 0 && c.filter e.id e.param
  | 4 => e.opt == 0 && c.arrival e.id && e.param == 0
  | 5 => e.opt == 0 && e.id == 0 && e.param == 0
  | _ => false

def descOk (c : TaskCtx) (d : TaskDesc) : Bool :=
  d.index < 48 && (if d.cyclic then 32 ≤ d.priority && d.priority < 48 else d.priority < 32) &&
    timingOk d c.bcQ && extentsOk d.inputs true && extentsOk d.outputs false &&
    (if d.cyclic then d.triggers.isEmpty else 1 ≤ d.triggers.length && d.triggers.length ≤ 4) &&
    d.triggers.all (triggerOk c)

/-- R123 between two tasks: output bytes and CAN entries anywhere in the module, mailboxes within a pair. -/
def outputsApart (samePair : Bool) (a b : TaskDesc) : Bool :=
  a.outputs.all (fun x => b.outputs.all (fun y => !(x.meets y) || (x.type == 3 && !samePair)))

/-- R121 between two tasks of a pair. -/
def inputsApart (a b : TaskDesc) : Bool :=
  a.bank != b.bank || a.inputs.all (fun x => b.inputs.all (fun y => !x.meets y))

/-- The checks of R130 beyond the header. -/
def TaskTable.ok (t : TaskTable) (c : TaskCtx) : Bool :=
  let ds := fun i => t.descs.getD i []
  t.triad == c.triad && t.bcQ == c.bcQ && t.macroN == c.macroN &&
    (!t.triad || ((ds 1).isEmpty && (ds 2).isEmpty)) &&
    (List.range 3).all (fun p =>
      (!c.split p || (ds p).isEmpty) && sortedBy (fun a b => a.index < b.index) (ds p) && (ds p).all (descOk c) &&
      allPairs (fun a b => a.priority != b.priority && outputsApart true a b && inputsApart a b) (ds p) &&
      (match c.program p with
       | some g => (t.programs.getD p 0 == g.programId || (t.triad && p != 0 && t.programs.getD p 0 == 0)) &&
           (ds p).all (fun d => g.tasks.any (fun e => e.index == d.index))
       | none => t.programs.getD p 0 == 0 && (ds p).isEmpty)) &&
    allPairs (fun i j => (ds i).all (fun a => (ds j).all (outputsApart false a))) [0, 1, 2]

/-! ### Migration table and change set (R202, R210 to R214) -/

/-- Bytes of a type code (R212). -/
def typeSize (t : Nat) : Nat :=
  match t with
  | 0 => 1 | 1 => 1 | 2 => 1 | 3 => 2 | 4 => 2 | 5 => 4 | 6 => 4 | 7 => 8 | 8 => 8 | 9 => 4 | 10 => 8 | _ => 0

/-- Bytes that an entry reads and writes. -/
def MigEntry.srcLen (e : MigEntry) : Nat :=
  match e.op with
  | 1 => e.count
  | 2 => e.count * typeSize (e.types % 16)
  | 4 => 1
  | 5 => 1
  | _ => 0

def MigEntry.dstLen (e : MigEntry) : Nat :=
  match e.op with
  | 1 => e.count
  | 2 => e.count * typeSize (e.types / 16)
  | 3 => e.count * typeSize (e.types / 16)
  | _ => 1

def MigEntry.isBit (e : MigEntry) : Bool := e.op == 4 || e.op == 5
def MigEntry.dstBit (e : MigEntry) : Nat := bitsOf e.param 8 3

def parseMig (rd : Nat → Nat → Nat) (by_ : Nat → Nat → List Byte) : Option MigTable :=
  let n := rd 0x30 2
  if rd 0 4 = 0x5447494D ∧ rd 4 2 = 1 ∧ rd 6 2 = 0 ∧ n ≤ 8192 ∧ (by_ 0x32 10).all (· == 0) ∧
      crc32 (by_ 0 0x3C ++ by_ 0x40 (16 * n)) = rd 0x3C 4 then
    some ⟨rd 8 8, rd 0x10 8, rd 0x18 8, rd 0x20 8, rd 0x28 4, rd 0x2C 4,
      (List.range n).map (fun i =>
        let o := 0x40 + 16 * i
        ⟨rd o 1, rd (o + 1) 1, rd (o + 2) 2, rd (o + 4) 4, rd (o + 8) 4, rd (o + 12) 4⟩)⟩
  else none

def migDstApart (a b : MigEntry) : Bool :=
  if a.isBit && b.isBit then a.dst != b.dst || a.dstBit != b.dstBit else !overlap a.dst a.dstLen b.dst b.dstLen

/-- Reserved bits of an entry's TYPES and PARAM, and its codes (R211, R214). -/
def migFields (e : MigEntry) : Bool :=
  match e.op with
  | 1 => e.types == 0 && e.param == 0 && e.count != 0
  | 2 => e.types % 16 ≤ 10 && e.types / 16 ≤ 10 && e.param == 0 && e.count != 0
  | 3 => e.types % 16 == 0 && e.types / 16 ≤ 10 && e.src == 0 && e.count != 0
  | 4 => e.types == 0 && e.count == 1 && e.param == bitsOf e.param 0 3 + 256 * bitsOf e.param 8 3
  | 5 => e.types == 0 && e.count == 1 &&
      e.param == bitsOf e.param 0 3 + 256 * bitsOf e.param 8 3 + 65536 * bitsOf e.param 16 1 + 2 ^ 24 * bitsOf e.param 24 6
  | _ => false

/-- The checks of R214 for the tasks `ds` of the pair in the new table. -/
def MigTable.ok (g : MigTable) (ds : List TaskDesc) : Bool :=
  sortedBy (fun a b => a.dst < b.dst || (a.dst == b.dst && a.dstBit < b.dstBit)) g.entries &&
    allPairs migDstApart g.entries &&
    g.entries.all (fun e => migFields e && e.dst + e.dstLen ≤ g.newUsed &&
      (if e.op == 5 then
        match ds.find? (fun d => d.index == bitsOf e.param 24 6) with
        | none => false
        | some d =>
          if bitOf e.param 16 then e.src < g.newUsed
          else d.inputs.any (fun x => x.start ≤ e.src && e.src < x.start + x.len)
       else e.op == 3 || e.src + e.srcLen ≤ g.oldUsed))

/-- The directory of a change set (R202). -/
structure ChangeDir where
  pairs : List Nat
  elf : List Nat
  trt : Nat
  mig : List Nat
  len : Nat
  deriving DecidableEq, Repr

def parseChange (l : List Byte) (triad : Bool) : Option ChangeDir :=
  let rd := listLE l
  let pm := rd 6 1
  if rd 0 4 = 0x43474C4F ∧ rd 4 2 = 1 ∧ pm < 8 ∧ pm ≠ 0 ∧ (!triad || pm == 7) ∧ rd 7 1 = 0 ∧ rd 0x24 4 ≤ 0x800000 ∧
      rd 0x24 4 ≤ l.length ∧ (sliceB l 0x28 20).all (· == 0) then
    some ⟨(List.range 3).filter (fun p => bitOf pm p), (List.range 3).map (fun i => rd (8 + 4 * i) 4), rd 0x14 4,
      (List.range 3).map (fun i => rd (0x18 + 4 * i) 4), rd 0x24 4⟩
  else none

/-- The directory's CRC over 0x00 to 0x3B and every item (R202). -/
def changeCrcOk (l : List Byte) (d : ChangeDir) : Bool := crc32 (sliceB l 0 0x3C ++ sliceB l 0x40 (d.len - 0x40)) == listLE l 0x3C 4

/-! ### Schedule directory (R248 to R250) -/

def parseSchedEntry (rd : Nat → Nat → Nat) (dsl o : Nat) : SchedEntry :=
  let w := rd o 4
  let n := rd (o + 12) 2
  ⟨bitsOf w 0 24, bitsOf w 24 6, rd (o + 4) 2, bitsOf (rd (o + 6) 1) 0 3, bitsOf (rd (o + 6) 1) 4 3, rd (o + 7) 1, rd (o + 8) 4,
    bitsOf n 0 10, (List.range (bitsOf n 10 6)).map (fun i => rd (dsl + 2 * (rd (o + 14) 2 + i)) 2)⟩

def parseSchedTable (rd : Nat → Nat → Nat) (by_ : Nat → Nat → List Byte) : Option SchedTable :=
  let n := rd 0xC 2
  let dsl := rd 0x10 4
  let dn := rd 0x14 4
  if rd 0 4 = 0x53434E46 ∧ rd 4 2 = 1 ∧ rd 0xE 2 = 0 ∧ rd 0x1E 2 = 0 ∧ (by_ 0x24 24).all (· == 0) ∧ 1 ≤ n ∧ n ≤ 16384 ∧
      dn ≤ 65535 ∧ 200 ≤ rd 0x1C 2 ∧ rd 6 1 < 2 ∧ rd 7 1 < 3 ∧ (rd 7 1 = 0 ∨ rd 7 1 = rd 6 1 + 1) ∧
      (List.range n).all (fun i => bitsOf (rd (0x40 + 16 * i) 4) 30 2 == 0 && bitsOf (rd (0x46 + 16 * i) 1) 7 1 == 0 &&
        bitsOf (rd (0x48 + 16 * i) 4) 27 5 == 0 && 1 ≤ rd (0x44 + 16 * i) 2 &&
        rd (0x4E + 16 * i) 2 + bitsOf (rd (0x4C + 16 * i) 2) 10 6 ≤ dn) ∧
      (List.range dn).all (fun i => rd (dsl + 2 * i) 2 < 4096) ∧
      crc32 (by_ 0 0x3C ++ [0, 0, 0, 0] ++ by_ 0x40 (max (16 * n) (dsl + 2 * dn - 0x40))) = rd 0x3C 4 then
    some ⟨rd 6 1, rd 7 1, rd 8 1, rd 9 1, rd 0xA 2, rd 0x18 4, rd 0x1C 2, rd 0x20 4,
      (List.range n).map (fun i => parseSchedEntry rd dsl (0x40 + 16 * i))⟩
  else none

def parseSchedDir (rd : Nat → Nat → Nat) (by_ : Nat → Nat → List Byte) : Option SchedDir :=
  let n := rd 6 1
  let len := rd 8 4
  let tab := fun c i =>
    let o := rd (0x20 + 32 * c + 8 + 4 * i) 4
    if o = 0 then none else parseSchedTable (fun a k => rd (o + a) k) (fun a k => by_ (o + a) k)
  let present := fun c i => rd (0x20 + 32 * c + 8 + 4 * i) 4 != 0
  if rd 0 4 = 0x52494446 ∧ rd 4 2 = 1 ∧ 1 ≤ n ∧ n ≤ 32 ∧ rd 7 1 = 0 ∧ len ≤ 0x200000 ∧ 0x20 + 32 * n ≤ len ∧
      (by_ 0x10 12).all (· == 0) ∧ crc32 (by_ 0 0x1C ++ by_ 0x20 (len - 0x20)) = rd 0x1C 4 ∧
      (List.range n).all (fun c => rd (0x20 + 32 * c + 0x18) 8 == 0 && present c 0 && present c 1 &&
        (List.range 4).all (fun i => !present c i ||
          match tab c i with
          | some t => t.case_ == c && t.channel == i % 2 && t.kind == (if i < 2 then 0 else i - 1)
          | none => false)) ∧ rd 0x20 8 = 0 then
    some ⟨rd 0xC 4, (List.range n).map (fun c => ⟨rd (0x20 + 32 * c) 8, (List.range 4).map (fun i => tab c i)⟩)⟩
  else none

/-- Rate of a source port in Mbit/s (R286). -/
def portRate (src : Nat) : Nat := if src < 24 then 100 else if src = 0x80 then 2500 else 1000

/-- Frame time on the source port in 100 ns units, rounded up: DATA of the given payload lengths (R235, R241, R249). -/
def frameBytes (lens : List Nat) : Nat := max 64 (14 + 16 + (lens.map (fun n => 12 + (n + 3) / 4 * 4)).sum + 4)
def frameTime (lens : List Nat) (rate : Nat) : Nat := ((frameBytes lens + 20) * 80 + rate - 1) / rate

/-- Schedule port as a bit of DST (R249). -/
def srcBit (src : Nat) : Nat := if src < 24 then 2 ^ src else if src = 0x40 then 2 ^ 24 else if src = 0x41 then 2 ^ 25 else 2 ^ 26

/-- Two DATA entries may overlap in time (R247): no star or backbone port in common. -/
def portsApart (a b : SchedEntry) : Bool := ((srcBit a.src ||| a.dst) &&& (srcBit b.src ||| b.dst)) % 2 ^ 26 == 0

/-- Total rate of the entries of `l` that run at time `t` (from START − guard to slot end) and satisfy `p` (R247, R288). -/
def loadAt (l : List SchedEntry) (guard t : Nat) (p : SchedEntry → Bool) : Nat :=
  ((l.filter (fun e => p e && e.start ≤ t + guard && t < e.start + e.duration)).map (fun e => portRate e.src)).sum

/-- What the checks of R250 need from the rest of the module. -/
structure SchedCtx where
  macroN : Nat
  bcQ : Nat
  guard : Nat
  twin : Bool
  cascade : Bool
  /-- Data set descriptors of the I/O copy table. -/
  ds : Nat → Option DsDesc
  /-- Whether a node is attached to port SRC on a channel for a case (R266). -/
  attached : Nat → Nat → Nat → Nat → Bool

/-- Layout check of one basic cycle index (R245, R250). -/
def layoutOk (c : SchedCtx) (t : SchedTable) (i : Nat) : Bool :=
  let es := t.entries.filter (fun e => e.index == i)
  let polls := es.filter (fun e => e.type == 1)
  polls.any (fun e => e.group == 0 && e.start == 0) && allPairs (fun a b => a.group != b.group) polls &&
    es.all (fun e => e.start + e.duration + c.guard ≤ t.discStart) &&
    es.all (fun e => e.type != 2 || polls.any (fun q => q.group == e.group && q.start + q.duration ≤ e.start)) &&
    es.all (fun e => e.type != 2 || polls.all (fun q => q.group ≤ e.group || e.start + e.duration + c.guard ≤ q.start)) &&
    allPairs (fun a b => a.group < b.group && a.start < b.start || b.group < a.group && b.start < a.start) polls &&
    allPairs (fun a b => (a.type != 1 && b.type != 1) ||
      !overlap a.start (a.duration + c.guard) b.start (b.duration + c.guard)) es

/-- Slot, producer and data set checks of R250 for one entry. -/
def entryOk (c : SchedCtx) (t : SchedTable) (e : SchedEntry) : Bool :=
  let lens := e.sets.map (fun n => ((c.ds n).map (·.len)).getD 0)
  e.start < t.bcQ * 2500 && e.index < t.macroN && 1 ≤ e.type && e.type ≤ 3 &&
  match e.type with
  | 1 => e.src == 0x80 && e.node == 0 && e.sets.isEmpty
  | 3 => e.src == 0 && e.dst == 0 && e.node == 0 && e.sets.all (fun n => ((c.ds n).map (·.local_)).getD false)
  | _ =>
    (if e.node == 0 then e.src == 0x80 else c.attached e.node e.src t.channel t.case_) &&
      frameTime lens (portRate e.src) ≤ e.duration && frameBytes lens ≤ 1518 &&
      e.sets.all (fun n =>
        match c.ds n with
        | none => false
        | some d => (!d.outbound || e.node == 0) && (t.kind != 0 || d.channel == t.channel))

/-- The checks of R250 on one table. -/
def SchedTable.ok (c : SchedCtx) (t : SchedTable) : Bool :=
  t.macroN == c.macroN && t.bcQ == c.bcQ && t.discStart + t.discLen ≤ t.claimStart &&
    t.claimStart + 200 + c.guard ≤ t.bcQ * 2500 && (!c.twin || t.claimStart + 200 + c.guard + 300 ≤ t.bcQ * 2500) &&
    sortedBy (fun a b => a.index < b.index || (a.index == b.index &&
      (a.start < b.start || (a.start == b.start && a.src ≤ b.src)))) t.entries &&
    t.entries.all (entryOk c t) && (List.range t.macroN).all (layoutOk c t) &&
    (List.range t.macroN).all (fun i =>
      let es := t.entries.filter (fun e => e.index == i && e.type == 2)
      allPairs (fun a b => portsApart a b || !overlap a.start (a.duration + c.guard) b.start (b.duration + c.guard)) es &&
        allPairs (fun a b => a.sets.all (fun n => !b.sets.contains n)) es && es.all (fun e => e.sets.Nodup) &&
        es.all (fun e =>
          loadAt es c.guard e.start (fun x => bitOf x.dst 26) ≤ 2400 && loadAt es c.guard e.start (fun x => x.src == 0x80) ≤ 2400 &&
          (!c.cascade || (loadAt es c.guard e.start (fun x => bitOf x.dst 26) ≤ 1000 &&
            ((es.filter (fun x => x.src == 0x80 && x.start ≤ e.start && e.start < x.start + x.duration)).length ≤ 1)))) &&
        (List.range 8).all (fun g => ((es.filter (fun e => e.group == g && e.node != 0)).map (·.node)).dedup.length ≤ 255))

def SchedDir.ok (c : SchedCtx) (d : SchedDir) : Bool :=
  d.cases.all (fun k => k.tables.all (fun t => (t.map (SchedTable.ok c)).getD true))

/-! ### I/O copy table (R252, R253) -/

def parseCopy (rd : Nat → Nat → Nat) (o : Nat) : CopyEntry := ⟨rd o 2, rd (o + 2) 2, rd (o + 4) 2 + 1⟩

def parseDs (rd : Nat → Nat → Nat) (by_ : Nat → Nat → List Byte) (entryOff substOff n : Nat) : DsDesc :=
  let o := 0x40 + 32 * n
  let f := rd o 2
  ⟨n, bitOf f 1, bitsOf f 2 1, bitOf f 3, bitOf f 4, bitOf f 5, rd (o + 2) 2, rd (o + 4) 2, rd (o + 6) 1,
    (List.range (rd (o + 12) 2)).map (fun i => parseCopy rd (entryOff + 8 * (rd (o + 8) 4 + i))),
    by_ (substOff + rd (o + 16) 4) (rd (o + 2) 2)⟩

def dsOk (d : DsDesc) : Bool :=
  1 ≤ d.len && d.len ≤ 1400 &&
    (if d.outbound then d.producer == 0 else if d.local_ then d.producer == 0 else 3 ≤ d.producer && d.producer ≤ 0x3FE) &&
    1 ≤ d.missLimit && d.missLimit ≤ 255 && sortedBy (fun a b => a.dsOff + a.len ≤ b.dsOff) d.copies &&
    d.copies.all (fun e => e.dsOff + e.len ≤ d.len && e.imgOff + e.len ≤ (if d.outbound then 0x10000 else 0xF000))

/-- The table as bytes with its own checks (R252, R253). -/
def parseIoc (rd : Nat → Nat → Nat) (by_ : Nat → Nat → List Byte) : Option IocTable :=
  let ne := rd 8 4
  let eo := rd 0xC 4
  let so := rd 0x10 4
  let sl := rd 0x14 4
  let len := rd 0x1C 4
  let defined := (List.range 4096).filter (fun n => bitOf (rd (0x40 + 32 * n) 2) 0)
  let sets := defined.map (parseDs rd by_ eo so)
  if rd 0 4 = 0x434F4946 ∧ rd 4 2 = 1 ∧ rd 6 2 = 0 ∧ ne ≤ 65536 ∧ len ≤ 0x300000 ∧ 0x20040 ≤ len ∧ eo + 8 * ne ≤ len ∧
      so + sl ≤ len ∧ (by_ 0x20 28).all (· == 0) ∧
      crc32 (by_ 0 0x3C ++ [0, 0, 0, 0] ++ by_ 0x40 (len - 0x40)) = rd 0x3C 4 ∧
      defined.all (fun n =>
        let o := 0x40 + 32 * n
        bitsOf (rd o 2) 6 10 == 0 && rd (o + 7) 1 == 0 && rd (o + 14) 2 == 0 && (by_ (o + 20) 12).all (· == 0) &&
          rd (o + 12) 2 ≤ 1400 && rd (o + 8) 4 + rd (o + 12) 2 ≤ ne && rd (o + 16) 4 + rd (o + 2) 2 ≤ sl) ∧
      sets.all dsOk ∧
      allPairs (fun a b => a.outbound || b.outbound ||
        a.copies.all (fun x => b.copies.all (fun y => !overlap x.imgOff x.len y.imgOff y.len))) sets ∧
      sets.all (fun a => a.outbound || allPairs (fun x y => !overlap x.imgOff x.len y.imgOff y.len) a.copies) then
    some ⟨rd 0x18 4, sets⟩
  else none

def IocTable.ds (t : IocTable) (n : Nat) : Option DsDesc := t.sets.find? (fun d => d.ds == n)

/-- Data set `n` is a trigger source: DEFINED, inbound, with ARRIVAL (R130). -/
def IocTable.arrives (t : IocTable) (n : Nat) : Bool :=
  match t.ds n with
  | some d => !d.outbound && d.arrival
  | none => false

/-- Data sets that a task release table names as triggers (R253). -/
def TaskTable.arrivalSets (t : TaskTable) : List Nat :=
  t.descs.flatMap (fun l => l.flatMap (fun d => (d.triggers.filter (fun e => e.src == 4)).map (·.id)))

/-! ### Node table (R266) -/

def parseNodes (rd : Nat → Nat → Nat) (by_ : Nat → Nat → List Byte) : Option (List NodeEntry) :=
  let n := rd 6 2
  let es : List NodeEntry := (List.range n).map (fun i =>
    let o := 16 + 32 * i
    ⟨rd o 2, rd (o + 2) 1, rd (o + 3) 1, rd (o + 4) 4, bitOf (rd (o + 8) 2) 0, rd (o + 10) 2, by_ (o + 16) 16⟩)
  if rd 0 4 = 0x444F4E46 ∧ rd 4 2 = 1 ∧ 1 ≤ n ∧ n ≤ 1022 ∧ rd 8 4 = 0 ∧
      crc32 (by_ 0 12 ++ [0, 0, 0, 0] ++ by_ 16 (32 * n)) = rd 0xC 4 ∧
      (List.range n).all (fun i => rd (16 + 32 * i + 12) 4 == 0 && bitsOf (rd (16 + 32 * i + 8) 2) 1 15 == 0) ∧
      sortedBy (fun a b => a.node < b.node) es ∧
      es.all (fun e => 1 ≤ e.node && e.node ≤ 0x3FE && (e.portA < 24 || e.portA == 0xFF) && (e.portB < 24 || e.portB == 0xFF)) ∧
      allPairs (fun a b => (a.portA == 0xFF || a.portA != b.portA) && (a.portB == 0xFF || a.portB != b.portB)) es then
    some es
  else none

/-- The entry's port on channel `ch`. -/
def NodeEntry.port (e : NodeEntry) (ch : Nat) : Nat := if ch = 0 then e.portA else e.portB

/-! ### Window directory (R295 to R298) -/

def parseWindow (rd : Nat → Nat → Nat) (o : Nat) : Window :=
  ⟨bitsOf (rd o 4) 0 24, bitsOf (rd o 4) 24 6, bitsOf (rd (o + 4) 4) 0 24, rd (o + 8) 4, rd (o + 12) 1, rd (o + 13) 1⟩

def windowFields (rd : Nat → Nat → Nat) (o : Nat) : Bool :=
  bitsOf (rd o 4) 30 2 == 0 && bitsOf (rd (o + 4) 4) 24 8 == 0 && 1 ≤ bitsOf (rd (o + 4) 4) 0 24 &&
    1 ≤ rd (o + 12) 1 && rd (o + 12) 1 ≤ 5 && rd (o + 14) 2 == 0 && bitsOf (rd (o + 8) 4) 27 5 == 0

def parseWindowTable (rd : Nat → Nat → Nat) (by_ : Nat → Nat → List Byte) : Option WindowTable :=
  let n := rd 8 4
  let fst := fun p => rd (0x20 + 4 * p) 2
  let cnt := fun p => rd (0x22 + 4 * p) 2
  if rd 0 4 = 0x4C425750 ∧ rd 4 2 = 1 ∧ rd 6 1 < 3 ∧ rd 7 1 < 32 ∧ n ≤ 27 * 256 ∧ (by_ 0x10 16).all (· == 0) ∧ rd 0x8C 4 = 0 ∧
      (List.range 27).all (fun p => cnt p ≤ 256 && fst p + cnt p ≤ n) ∧
      (List.range n).all (fun i => windowFields rd (0x90 + 16 * i)) ∧
      crc32 (by_ 0 0xC ++ [0, 0, 0, 0] ++ by_ 0x10 (0x80 + 16 * n)) = rd 0xC 4 then
    some ⟨rd 7 1, rd 6 1, (List.range 27).map (fun p => (List.range (cnt p)).map (fun i => parseWindow rd (0x90 + 16 * (fst p + i))))⟩
  else none

/-- Start of a window in 100 ns units from the start of the macrocycle. -/
def Window.at_ (w : Window) (bcQ : Nat) : Nat := w.index * (bcQ * 2500) + w.open_

def windowsOk (bcQ macroN : Nat) (l : List Window) : Bool :=
  l.all (fun w => w.open_ < bcQ * 2500 && w.index < macroN) && sortedBy (fun a b => a.at_ bcQ + a.len ≤ b.at_ bcQ) l

/-- The directory as bytes with the checks of R298; `guard` is PRT_GUARD. -/
def parseWindowDir (rd : Nat → Nat → Nat) (by_ : Nat → Nat → List Byte) (guard channel : Nat) : Option WindowDir :=
  let n := rd 7 1
  let bc := rd 0x12 2
  let mc := rd 0x14 1
  let tab := fun c i =>
    let o := rd (0x60 + 16 * c + 8 + 4 * i) 4
    if o = 0 then none else parseWindowTable (fun a k => rd (o + a) k) (fun a k => by_ (o + a) k)
  let present := fun c i => rd (0x60 + 16 * c + 8 + 4 * i) 4 != 0
  if rd 0 4 = 0x52445750 ∧ rd 4 2 = 1 ∧ rd 6 1 = channel ∧ 1 ≤ n ∧ n ≤ 32 ∧ rd 8 4 ≤ 0x200000 ∧ rd 0x10 2 = guard ∧
      2 ≤ rd 0x10 2 ∧ rd 0x10 2 ≤ 100 ∧ (by_ 0x15 3).all (· == 0) ∧ bitsOf (rd 0x18 4) 27 5 = 0 ∧ (by_ 0x54 12).all (· == 0) ∧
      crc32 (by_ 0 0x1C ++ by_ 0x20 (0x40 + 16 * n)) = rd 0x1C 4 ∧
      (List.range n).all (fun c => (List.range 2).all (fun i => !present c i ||
        match tab c i with
        | some t => t.case_ == c && t.kind == (if i = 0 then 0 else channel + 1) && t.ports.all (windowsOk bc mc)
        | none => false)) then
    some ⟨channel, rd 0xC 4, rd 0x10 2, bc, mc, rd 0x18 4, (List.range 26).map (fun p => rd (0x20 + 2 * p) 2),
      (List.range n).map (fun c => (rd (0x60 + 16 * c) 8, tab c 0, tab c 1))⟩
  else none

/-- Porter port of a schedule source (R286, R297). -/
def portOfSrc (src : Nat) : Nat := if src < 24 then src else if src = 0x40 then 24 else if src = 0x41 then 25 else 26

/-- Windows that R297 derives from a POLL or DATA entry: port and window. -/
def deriveWindow (guard bcQ macroN : Nat) (e : SchedEntry) : Nat × Window :=
  let bc := bcQ * 2500
  if guard ≤ e.start then (portOfSrc e.src, ⟨e.start - guard, e.index, guard + e.duration, e.dst, e.type, e.group⟩)
  else (portOfSrc e.src, ⟨bc + e.start - guard, (e.index + macroN - 1) % macroN, guard + e.duration, e.dst, e.type, e.group⟩)

end Sys2Proof.Machine
end

