-- ==== Sys2Proof/Machine/Image.lean ====
section
/-!
DEFINITION. The process image: input banks and their selects (R119, R120, R166 to R168), output banks, publication
(R124, R169), forces (R146 to R151), and the bytes of the force table and runtime record (R146, R171).
-/

namespace Sys2Proof.Machine

/-! ### Input image -/

/-- Bit `n` of a bit map in memory. -/
def Mod.mapBit (m : Mod) (base n : Nat) : Bool := bitOf (m.rd8 (base + n / 8)).toNat (n % 8)

def Mod.setMapBit (m : Mod) (base n : Nat) (v : Bool) : Mod :=
  let b := (m.rd8 (base + n / 8)).toNat
  let c := if v then b ||| 2 ^ (n % 8) else b - (if bitOf b (n % 8) then 2 ^ (n % 8) else 0)
  m.wr8 (base + n / 8) (BitVec.ofNat 8 c)

/-- Current input bank of data set `n` (R167, R168). -/
def Mod.dsBank (m : Mod) (n : Nat) : Nat := b2n (m.mapBit inSelect n)

def Mod.ds (m : Mod) (n : Nat) : Option DsDesc := m.cyc.ioc.bind (fun t => t.ds n)

/-- The inbound data set that writes input byte `a` (R253). -/
def Mod.dsOfInput (m : Mod) (a : Nat) : Option Nat :=
  match m.cyc.ioc with
  | none => none
  | some t =>
    if 0xF000 ≤ a then (match t.ds (a - 0xF000) with | some d => if d.outbound then none else some d.ds | none => none)
    else (t.sets.find? (fun d => !d.outbound && d.copies.any (fun e => e.imgOff ≤ a && a < e.imgOff + e.len))).map (·.ds)

/-- Input byte `a` as every reader of the current image sees it (R166, R168). -/
def Mod.inByte (m : Mod) (a : Nat) : Byte :=
  match m.dsOfInput a with
  | none => 0
  | some n => m.rd8 (inBank (m.dsBank n) + a)

/-- Status byte of data set `n` (R165). -/
def Mod.dsStatus (m : Mod) (n : Nat) : Nat := (m.inByte (0xF000 + n)).toNat

/-! ### Forces -/

/-- Bytes that a force covers (R146). -/
def Force.len (f : Force) : Nat := if f.width = 2 then 2 else if f.width = 3 then 4 else 1

/-- Byte `a` of a value that had byte `old` there, under force `f` (R146). -/
def Force.apply (f : Force) (a : Nat) (old : Byte) : Byte :=
  if a < f.addr ∨ f.addr + f.len ≤ a then old
  else if f.width = 0 then
    let o := old.toNat
    let cleared := if bitOf o f.bit then o - 2 ^ f.bit else o
    BitVec.ofNat 8 (cleared + (f.value % 2) * 2 ^ f.bit)
  else BitVec.ofNat 8 (f.value / 256 ^ (a - f.addr))

/-- Active forces of a kind: 1 input, 2 output, 3 internal variable. -/
def Mod.forcesOf (m : Mod) (kind : Nat) : List Force := (m.task.forces.map (·.2)).filter (fun f => f.kind == kind)

/-- Byte `a` of an image under the forces of its kind. -/
def Mod.forced (m : Mod) (kind a : Nat) (b : Byte) : Byte := (m.forcesOf kind).foldl (fun x f => f.apply a x) b

/-! ### Latch (R120) -/

def extentBytes (e : Extent) : List Nat := (List.range e.len).map (fun i => e.start + i)

def inExtents (l : List Extent) (type a : Nat) : Bool := l.any (fun e => e.type == type && e.start ≤ a && a < e.start + e.len)

/-- Data sets with a byte forced within the task's input extents (R120). -/
def Mod.forcedSets (m : Mod) (ins : List Extent) : List Nat :=
  ((m.forcesOf 1).flatMap (fun f => (List.range f.len).filterMap (fun i =>
    if inExtents ins 0 (f.addr + i) then m.dsOfInput (f.addr + i) else none))).dedup

/-- The task's input extents copied into latch bank `bank`, input forces applied. -/
def Mod.latchInputs (m : Mod) (bank : Nat) (ins : List Extent) : Mod :=
  let sets := if m.flag Reg.TASK_CTL_LATCH_FORCE_FLAG then m.forcedSets ins else []
  let value := fun a =>
    if 0xF000 ≤ a then
      let s := (m.inByte a).toNat
      BitVec.ofNat 8 (if sets.contains (a - 0xF000) then s ||| 8 else s)
    else m.forced 1 a (m.inByte a)
  (ins.flatMap extentBytes).foldl (fun x a => x.wr8 (bank + a) (value a)) m

/-! ### Output image -/

/-- Current bank of output block `k` (R167). -/
def Mod.outBlockBank (m : Mod) (k : Nat) : Nat := b2n (m.mapBit outSelect k)

/-- Published output byte `a`. -/
def Mod.outByte (m : Mod) (a : Nat) : Byte := m.rd8 (outBank (m.outBlockBank (a / 64)) + a)

/-- One publication (R169): the blocks touched are copied into their other bank, the bytes overlaid, the bits flipped. -/
def Mod.publishBytes (m : Mod) (bytes : List (Nat × Byte)) : Mod :=
  let blocks := (bytes.map (fun b => b.1 / 64)).dedup
  let m1 := blocks.foldl (fun x k => x.copy (outBank (1 - m.outBlockBank k) + 64 * k) (outBank (m.outBlockBank k) + 64 * k) 64) m
  let m2 := bytes.foldl (fun x b => x.wr8 (outBank (1 - m.outBlockBank (b.1 / 64)) + b.1) b.2) m1
  blocks.foldl (fun x k => x.setMapBit outSelect k (m.outBlockBank k == 0)) m2

/-- Output bytes with the output forces that lie in them (R124, R149). -/
def Mod.withForces (m : Mod) (bytes : List (Nat × Byte)) : List (Nat × Byte) := bytes.map (fun b => (b.1, m.forced 2 b.1 b.2))

/-- Output bytes of a task's extents as they stand at `base` (staging or shadow, R79). -/
def Mod.extentValues (m : Mod) (base : Nat) (outs : List Extent) : List (Nat × Byte) :=
  (outs.filter (fun e => e.type == 1)).flatMap (fun e => (extentBytes e).map (fun a => (a, m.rd8 (base + a))))

/-- Both published output banks filled from the output record, output forces applied (R186 step 5, R351 step 2). -/
def Mod.fillOutputs (m : Mod) : Mod :=
  (List.range 0x10000).foldl (fun x a =>
    let b := m.forced 2 a (m.rd8 (outRecord + a))
    (x.wr8 (outBank 0 + a) b).wr8 (outBank 1 + a) b) m

/-! ### Orphaned forces (R150) -/

/-- Output bytes that some task of the table in force, or the gateway, writes (`gw`: gateway destinations, R410). -/
def Mod.outputWritten (m : Mod) (gw : Nat → Bool) (a : Nat) : Bool :=
  gw a || match m.task.table with
    | none => false
    | some t => t.descs.any (fun l => l.any (fun d => inExtents d.outputs 1 a))

def Mod.isOrphan (m : Mod) (gw : Nat → Bool) (f : Force) : Bool :=
  f.kind == 2 && (List.range f.len).any (fun i => !m.outputWritten gw (f.addr + i))

/-- ORPHAN of every output force checked (at a set and at every table swap). -/
def Mod.checkOrphans (m : Mod) (gw : Nat → Bool) : Mod :=
  { m with task := { m.task with forces := m.task.forces.map (fun e => (e.1, { e.2 with orphan := m.isOrphan gw e.2 })) } }

/-- FORCED and ORPHAN indications (R151, R155). -/
def Mod.forceIndications (m : Mod) : Mod :=
  let any := b2n (!m.task.forces.isEmpty)
  let orp := b2n (m.task.forces.any (fun e => e.2.orphan))
  (((m.put Reg.SYS_STATE_FORCED any).put Reg.SYS_STATE_ORPHAN_FORCE orp).put Reg.TASK_STATUS_FORCED any).put
    Reg.TASK_STATUS_ORPHAN orp

/-- Each orphaned output force written into the published bank as one publication (R150). -/
def Mod.publishOrphans (m : Mod) : Mod :=
  ((m.forcesOf 2).filter (·.orphan)).foldl (fun x f =>
    x.publishBytes ((List.range f.len).map (fun i => (f.addr + i, f.apply (f.addr + i) (x.outByte (f.addr + i)))))) m

/-- Internal variable forces of pair `p` written into its state region (R149). -/
def Mod.applyVarForces (m : Mod) (p : Nat) : Mod :=
  ((m.forcesOf 3).filter (fun f => m.triad || f.pair == p)).foldl (fun x f =>
    match m.var p f.addr with
    | none => x
    | some v =>
      let g : Force := { f with addr := v.off, width := v.width, bit := v.bit }
      (List.range g.len).foldl (fun y i =>
        y.wr8 (stateBase p + v.off + i) (g.apply (v.off + i) (y.rd8 (stateBase p + v.off + i)))) x) m

/-! ### Force table and runtime record as bytes (R146, R171) -/

def Force.bytes (f : Force) : List Byte :=
  [BitVec.ofNat 8 f.kind, BitVec.ofNat 8 f.width, BitVec.ofNat 8 f.bit, BitVec.ofNat 8 (b2n f.orphan + 2 * f.pair)] ++
    leBytes 4 f.addr ++ leBytes 4 f.value ++ leBytes 4 f.setSeq

/-- 16 bytes of entry `i` of the force table. -/
def Mod.forceEntry (m : Mod) (i : Nat) : List Byte := ((alGet m.task.forces i).map Force.bytes).getD (List.replicate 16 0)

def parseForce (l : List Byte) : Option Force :=
  let rd := listLE l
  if rd 0 1 = 0 ∨ 3 < rd 0 1 then none
  else some ⟨rd 0 1, rd 1 1, rd 2 1, bitOf (rd 3 1) 0, bitsOf (rd 3 1) 1 2, rd 4 4, rd 8 4, rd 12 4⟩

def trigBytes (d : TrigData) : List Byte :=
  leBytes 1 d.src ++ leBytes 1 d.opt ++ leBytes 2 d.id ++ leBytes 4 d.param ++ leBytes 8 d.time

/-- 64 bytes of task entry `t` of pair `p`: release number and its presence, ENABLED, pending trigger, and a mark of a
written entry. The manual names
the contents and leaves their places open (notes/assumptions/9.md). -/
def Mod.rtTask (m : Mod) (p t : Nat) : List Byte :=
  let d := m.task.dyn.find? (fun d => d.pair == p && d.task == t)
  match d with
  | none => List.replicate 64 0
  | some d =>
    leBytes 8 (d.committed.getD 0) ++ leBytes 1 (b2n d.committed.isSome) ++
      leBytes 1 (d.enableReq.elim (m.get Reg.TASK_Tn_STATUS_ENABLED p t) b2n) ++ leBytes 1 (b2n d.pendingTrig.isSome) ++
      [1] ++ List.replicate 4 0 ++ ((d.pendingTrig.map trigBytes).getD (List.replicate 16 0)) ++ List.replicate 32 0

/-- The module entry (R171, R544): last state, SAFE_LATCH and update state. -/
def Mod.rtModule (m : Mod) : List Byte :=
  leBytes 1 m.lgr.lastState ++ leBytes 1 (b2n m.lgr.safeLatch) ++ leBytes 2 m.lgr.updEntry ++ List.replicate 1020 0

/-- The 10,240 bytes of the runtime record. -/
def Mod.rtBytes (m : Mod) : List Byte :=
  (List.range 144).flatMap (fun i => m.rtTask (i / 48) (i % 48)) ++ m.rtModule

/-- 256 bytes of granule `g` as the engines hold them now (R170). Pairs' state comes from the TCM of pair `src g`. -/
def Mod.granuleBytes (m : Mod) (src : Nat) (g : Nat) : List Byte :=
  if g < 6144 then m.rdBytes (stateBase (if m.triad then src else g / 2048) + 256 * (g % 2048)) 256
  else if g < 6400 then m.rdBytes (outRecord + 256 * (g - 6144)) 256
  else if g < 6464 then (List.range 16).flatMap (fun i => m.forceEntry (16 * (g - 6400) + i))
  else sliceB m.rtBytes (256 * (g - 6464)) 256

/-- Address of copy `c` of granule `g` in MRAM (R180). -/
def copyAddr (c g : Nat) : Nat := mramBase + 0x100000 + 0x200000 * c + 256 * g

end Sys2Proof.Machine
end

