-- ==== Sys2Proof/Machine/Sched.lean ====
section
/-!
DEFINITION. The TASK sequencer and Scales below their commands: bodies (R111, R140), vote records (R85 to R97),
restarts of a pair (R54 to R58, R95), overruns (R132, R133), latches and triggers (R111 to R121), commit requests (R174).
-/

namespace Sys2Proof.Machine

def Mod.setTask (m : Mod) (f : TaskState → TaskState) : Mod := { m with task := f m.task }

/-! ### Bodies -/

/-- The part of pair `p` in a release, if it still runs. -/
def Release.live (r : Release) (p : Nat) : Bool := r.parts.any (fun q => q.pair == p && !q.returned && !q.dropped)

/-- The most urgent of two releases; the first on equal priority (an earlier release of the same task). -/
def moreUrgent (a : Option Release) (r : Release) : Option Release :=
  match a with
  | none => some r
  | some b => if r.desc.priority < b.desc.priority then some r else some b

/-- The release whose body pair `p` executes (R111). -/
def Mod.current (m : Mod) (p : Nat) : Option Release :=
  (m.task.releases.filter (fun r => r.pair == m.own p && r.live p)).foldl moreUrgent none

/-- One release, named by task set, task and release number, changed. -/
def Mod.updRelNum (m : Mod) (o t n : Nat) (f : Release → Release) : Mod :=
  m.setRels (updFirst (fun r => r.pair == o && r.desc.index == t && r.number == n) f)

def Release.updPart (r : Release) (p : Nat) (f : Part → Part) : Release :=
  { r with parts := r.parts.map (fun q => if q.pair == p then f q else q) }

/-- Dirty bit of a granule of pair `p`'s space in the bitmap of task `t` (R172). -/
def Mod.markDirty (m : Mod) (p t g : Nat) : Mod :=
  m.setLgr (fun l => { l with dirty := if l.dirty.contains (p, t, g) then l.dirty else l.dirty ++ [(p, t, g)] })

/-- State region bytes that internal variable forces write on pair `p` (R149). -/
def Mod.forcedState (m : Mod) (p : Nat) : List Nat :=
  ((m.forcesOf 3).filter (fun f => m.triad || f.pair == p)).flatMap (fun f =>
    match m.var p f.addr with
    | none => []
    | some v => (List.range (if v.width = 2 then 2 else if v.width = 3 then 4 else 1)).map (fun i => v.off + i))

/-- Internal variable forces written on behalf of task `t` (R149, R172). -/
def Mod.varForces (m : Mod) (p t : Nat) : Mod :=
  (m.forcedState p).foldl (fun a o => a.markDirty p t (o / 256)) (m.applyVarForces p)

/-- The runtime enters the body of the pair's most urgent release, if it has not yet (R111, R138, R140, R149). -/
def Mod.startBody (m : Mod) (p : Nat) : Mod :=
  if !m.pairRuns p then m
  else
    match m.current p with
    | none => m
    | some r =>
      if r.parts.any (fun q => q.pair == p && q.started) then m
      else
        let t := r.desc.index
        let entry := (((m.prog p).map (·.tasks)).getD []).find? (fun e => e.index == t) |>.map (·.entry) |>.getD 0
        let m := m.updRelNum r.pair t r.number (fun x => x.updPart p (fun q => { q with started := true }))
        (m.varForces p t).emit (.body p t (halfBase p (m.half p) + entry) (latchBank r.pair r.desc.bank) (shadowBase p) r.trig
          (stateBase p))

def Mod.startBodies (m : Mod) : Mod := ((m.startBody 0).startBody 1).startBody 2

/-- TRIAD releases that are over and on which no pair still works are forgotten. -/
def Mod.gcRels (m : Mod) : Mod :=
  m.setRels (List.filter (fun r => !(r.stage == .done && (!m.triad || r.closed) &&
    r.parts.all (fun q => q.dropped || q.digested))))

/-! ### Vote records -/

/-- Voters without a digest against which LAG may be raised (R92). -/
def VoteRec.missing (v : VoteRec) : List Nat :=
  v.voters.filter (fun p => !v.digests.any (fun d => d.pair == p) && !v.exempt.contains p)
def Mod.setResyncs (m : Mod) (p n : Nat) : Mod := m.put (resyncsFld p) (min 15 n)
def Mod.resyncs (m : Mod) (p : Nat) : Nat := m.get (resyncsFld p)

def listPut (l : List Nat) (p n : Nat) : List Nat := (l ++ List.replicate (p + 1 - l.length) 0).set p n

/-- A pair is demoted (R93, R94, R97). -/
def Mod.demote (m : Mod) (p : Nat) : Mod :=
  let st := m.vstate p
  if st = vsOFF ∨ st = vsFAILED ∨ st = vsDEGRADED then m
  else if m.get Reg.SCL_CTL_RESYNC_LIMIT ≤ m.resyncs p then (m.raise (0x41 + p) 3).failPair p 1
  else
    let m := (m.setVstate p vsDEGRADED).unvoter p
    let m := m.setScl (fun s => { s with probation := listPut s.probation p 0, backToProbation := s.backToProbation.filter (· != p) })
    let left := (List.range 3).filter (fun q => m.vstate q == vsVOTING || m.vstate q == vsPROBATION || m.vstate q == vsEXCLUDED)
    if left.length < 2 then (m.raise 0x40 5).surrender 0 else m

/-- LAG of pair `p` in the record of task `t` (R88, R93, R100, R104). -/
def Mod.lag (m : Mod) (t p : Nat) : Mod :=
  let esc := m.escalatesNow (0x41 + p) 1
  let m := (m.raise (0x41 + p) 1).count Reg.SCL_LAG_COUNTn_TOTAL 1 p
  let m := m.updVote t (fun v => { v with lag := v.lag ++ [p] })
  if m.vstate p = vsPROBATION ∨ (m.vstate p = vsVOTING ∧ esc) then m.demote p else m

/-- The vote set of a task as it stands at `base` (R81, R83): bytes with their offset in the shadow. -/
def voteSet (outs : List Extent) : List Nat :=
  (outs.filter (fun e => e.type == 1)).flatMap extentBytes ++
  (outs.filter (fun e => e.type == 2)).flatMap (fun e => (List.range (72 * e.len)).map (fun i => 0x10000 + 72 * (64 * e.ctrl + e.start) + i)) ++
  (outs.filter (fun e => e.type == 3)).flatMap (fun e => (List.range (32 * e.len)).map (fun i => 0x19000 + 32 * e.start + i))

/-- The digest of a release on pair `p` (R83). -/
def Mod.digestOf (m : Mod) (p : Nat) (r : Release) : Nat :=
  crc64 (leBytes 8 r.number ++ leBytes 4 r.cycle ++ leBytes 1 r.desc.index ++ [0, 0, 0] ++
    (voteSet r.desc.outputs).map (fun o => m.rd8 (shadowBase p + o)))

/-- Address in pair `p`'s shadow of the first 8-byte word that differs from the source's (R100). -/
def Mod.firstDiff (m : Mod) (p src : Nat) (outs : List Extent) : Nat :=
  match (voteSet outs).find? (fun o => m.rd8 (shadowBase p + o) != m.rd8 (shadowBase src + o)) with
  | some o => (shadowBase p + o) / 8 * 8
  | none => 0

/-- VOTE_DISAGREE of pair `p` in the record of task `t` (R88, R93, R100, R106). -/
def Mod.disagree (m : Mod) (t p src : Nat) (outs : List Extent) : Mod :=
  let m := (m.raise (0x41 + p) 2 (m.firstDiff p src outs)).count Reg.SCL_DISAGREE_COUNTn_TOTAL 1 p
  let m := m.updVote t (fun v => { v with disagree := v.disagree ++ [p] })
  if m.vstate p = vsVOTING ∨ m.vstate p = vsPROBATION then m.demote p else m

/-- A judged digest, equal and in time (R93). -/
def Mod.judgeGood (m : Mod) (p : Nat) : Mod :=
  if m.vstate p = vsPROBATION then
    let n := m.scl.probation.getD p 0 + 1
    if m.get Reg.SCL_CTL_RECOVER_COUNT ≤ n then
      ((m.setVstate p vsVOTING).setResyncs p 0).setScl (fun s => { s with probation := listPut s.probation p 0 })
    else m.setScl (fun s => { s with probation := listPut s.probation p n })
  else m

/-! ### Restart of a pair -/

/-- The pair is excluded from voting by a mismatch restart (R58, R85, R93). -/
def Mod.exclude (m : Mod) (p : Nat) : Mod :=
  let st := m.vstate p
  let m := if st = vsVOTING then m.setVstate p vsEXCLUDED
    else if st = vsPROBATION then
      (m.setVstate p vsEXCLUDED).setScl (fun s => { s with backToProbation := s.backToProbation ++ [p] })
    else m
  (m.setScl (fun s => { s with votes := s.votes.map (fun v =>
    if v.voters.contains p then { v.without p with exempt := v.exempt ++ [p] } else v) })).reevalVotes

/-- Base and size of a pair's DRAM area (R27). -/
def pairDram (p : Nat) : Nat := dramBase + 0x10000000 * p

/-- An affected pair of a running migration (R221): its restart runs the migration again. -/
def Mod.migrating (m : Mod) (p : Nat) : Bool :=
  let c := m.get Reg.TASK_CHG_STATUS_STATE
  (c == 4 || c == 5) && m.chg.pairs.contains p

/-- A restart discards the transaction of a release of the pair that has not reached its commit point (R547); in TRIAD the
pair's write list goes. -/
def Mod.txnRestart (m : Mod) (p : Nat) : Mod :=
  match m.cfg.txn with
  | none => m
  | some x =>
    match x.owner with
    | .mc => m
    | .pair q =>
      if q = p ∧ (m.rel p x.task).any (fun r => r.stage != .committing) then m.txnClose 4 else m
    | .triad =>
      if (m.rel 0 x.task).any (fun r => r.stage != .committing) then
        { m with cfg := { m.cfg with txn := some { x with lists := x.lists.filter (fun l => l.1 != p) } } }
      else m

/-- A restart under R54 begins: outputs discarded, cores in reset, caches invalidated without writeback, and the contents of
the pair's DRAM area cleared (R38). `resync`: a resync of R95. -/
def Mod.startRestart (m : Mod) (p : Nat) (resync : Bool) : Mod :=
  let st := m.lstate p
  if (st = lnRUN ∨ st = lnIDLE) ∧ !m.split p then
    let mig := m.migrating p
    let m := m.setLane p (fun l => { l with
      restart := some ⟨.resetting, st == lnIDLE, resync, mig, false, 0⟩, cache := [], reservation := none })
    let m := (m.setLstate p lnRESTORE).count Reg.LANE_RESTARTS_TOTAL 1 p
    let m := m.setScl (fun s => { s with stalled := s.stalled.filter (fun x => x.1 != p) })
    let m := (m.clear (pairDram p) 0x10000000).setLbb (fun l => { l with reads := l.reads.filter (fun r => r.1 != p) })
    let m := { m with chg := { m.chg with restarted := if m.chg.restarted.contains p then m.chg.restarted else m.chg.restarted ++ [p] } }
    let m := { m with upd := { m.upd with cycleClean := false } }
    let m := m.txnRestart p
    if resync then m else m.exclude p
  else m

/-- A resync at a latch (R93, R95): DEGRADED becomes PROBATION. -/
def Mod.resync (m : Mod) (p : Nat) : Mod :=
  if m.vstate p = vsDEGRADED ∧ (m.lstate p = lnRUN) then
    ((m.setVstate p vsPROBATION).setResyncs p (m.resyncs p + 1)).startRestart p true
  else m

/-! ### Overruns, skips, pending triggers -/

/-- A release overruns: counted once, and the policy decides what follows (R132, R133). -/
def Mod.overrun (m : Mod) (o t : Nat) : Mod :=
  match m.rel o t with
  | none => m
  | some r =>
    if r.overrun then m
    else
      let m := (m.updRel o t (fun x => { x with overrun := true })).count Reg.TASK_Tn_OVERRUNS_TOTAL 1 (m.own o) t
      if r.desc.faultPolicy then m.raise (0x51 + m.own o) 1 0 [t] else m.setDyn { m.dyn o t with skipNext := true }

/-- New releases do not latch: a swap or an update activation waits for quiescence, or a takeover restores (R351, R356,
R578). -/
def Mod.latchBlocked (m : Mod) : Bool :=
  m.upd.quiescing || m.twn.takingOver || (match m.twn.swap with | some (_, started) => started | none => false)

/-- Latches of the affected pairs wait from the switch boundary to the end of the migration (R218). -/
def Mod.latchHeld (m : Mod) (o : Nat) : Bool :=
  let c := m.get Reg.TASK_CHG_STATUS_STATE
  (c == 3 || c == 4) && (m.chg.pairs.contains o || m.triad)

/-- ENABLED as it applies from the task's next latch (R115, R142): a pending trigger is discarded by a disable. -/
def Mod.applyEnable (m : Mod) (o t : Nat) : Mod :=
  match (m.dyn o t).enableReq with
  | none => m
  | some on =>
    let m := m.tput Reg.TASK_Tn_STATUS_ENABLED o t (b2n on)
    m.setDyn { m.dyn o t with enableReq := none, pendingTrig := if on then (m.dyn o t).pendingTrig else none }

/-- Bit copies of EDGE_INIT entries at the first latch after a switch (R222): SRC, DST and PARAM. -/
def Mod.runEdges (m : Mod) (o t : Nat) (d : TaskDesc) : Mod :=
  let es := (m.dyn o t).edges
  let pairs := if m.triad then [0, 1, 2] else [o]
  let one := fun (a : Mod) (p : Nat) (e : Nat × Nat × Nat) =>
    let (src, dst, par) := e
    let from_ := if bitOf par 16 then a.rd8 (stateBase p + src) else a.rd8 (latchBank o d.bank + src)
    let v := bitOf from_.toNat (bitsOf par 0 3)
    let old := (a.rd8 (stateBase p + dst)).toNat
    let k := bitsOf par 8 3
    let new := if bitOf old k == v then old else if v then old + 2 ^ k else old - 2 ^ k
    (a.wr8 (stateBase p + dst) (BitVec.ofNat 8 new)).markDirty p t (dst / 256)
  let m := es.foldl (fun a e => pairs.foldl (fun b p => one b p e) a) m
  if es.isEmpty then m else m.setDyn { m.dyn o t with edges := [] }

/-- SCL_LAST_VOTE shows a closed record (R108). -/
def Mod.lastVote (m : Mod) (v : VoteRec) : Mod :=
  let agree := ((v.digests.filter (fun d : DigestRec => v.released.map (·.2) == some d.value)).map (·.pair))
  let m := (m.put Reg.SCL_LAST_VOTE_LATE (bitSet v.lag.dedup)).put Reg.SCL_LAST_VOTE_DISAGREE (bitSet v.disagree.dedup)
  let m := (m.put Reg.SCL_LAST_VOTE_AGREE (bitSet agree.dedup)).put Reg.SCL_LAST_VOTE_RELEASED (b2n v.released.isSome)
  (m.put Reg.SCL_LAST_VOTE_SOURCE ((v.released.map (·.1)).getD 0)).put Reg.SCL_LAST_VOTE_TASK v.task

/-- Bytes of pair `p`'s shadow that are write-protected: the vote sets of the open records for whose release the pair has
requested its digest (R82); a release that the pair executes again is not protected from it. -/
def Mod.protectedBytes (m : Mod) (p : Nat) : List Nat :=
  let asked := fun (v : VoteRec) =>
    m.task.releases.any (fun r => r.desc.index == v.task && r.number == v.number && r.parts.any (fun q => q.pair == p && q.returned))
  (m.scl.votes.filter asked).flatMap (fun v => ((m.desc 0 v.task).map (fun d => voteSet d.outputs)).getD [])

/-- A write of `n` bytes at `a` into pair `p`'s own shadow meets a protected vote set. -/
def Mod.shadowStalls (m : Mod) (p a n : Nat) : Bool :=
  m.triad && (m.protectedBytes p).any (fun o => a ≤ shadowBase p + o && shadowBase p + o < a + n)

/-- Stalled shadow writes that meet no protected vote set any more complete, in order (R82); those of a pair that no longer
runs go. -/
def Mod.stalledGo (m : Mod) : Mod :=
  m.scl.stalled.foldl (fun a (p, addr, n, v) =>
    if !a.pairRuns p then a
    else if a.shadowStalls p addr n then a.setScl (fun s => { s with stalled := s.stalled ++ [(p, addr, n, v)] })
    else (a.wrLE addr n v).emit (.completed (.pair (Fin.ofNat 3 p)) (some 0))) (m.setScl (fun s => { s with stalled := [] }))

/-- The record of task `t` closes at the next latch of the task (R85, R88). Held reads of the matcher go (R434). -/
def Mod.closeVote (m : Mod) (t : Nat) : Mod :=
  match m.voteOf t with
  | none => m
  | some v =>
    let m := if v.released.isNone && v.window.isNone && !v.final then
        let m := v.missing.foldl (fun a p => a.lag t p) m
        ((m.raise 0x40 7).updVote t (fun x => { x with skipped := true })).notReleased t
      else if v.released.isNone then m.notReleased t
      else m
    let m := m.lastVote ((m.voteOf t).getD v)
    let m := m.setScl (fun s => { s with votes := s.votes.filter (fun x => x.task != t) })
    let m := m.setLbb (fun l => { l with held := l.held.filter (fun h => h.task != t) })
    ((m.setRels (List.map (fun r => if r.desc.index == t && r.number == v.number then { r with closed := true } else r))).gcRels).stalledGo

/-! ### Latch -/

/-- Monotonic deadline of a release (R127). -/
def deadlineOf (d : TaskDesc) (latch start : Nat) : Nat :=
  if d.cyclic then
    let p := d.periodQ * 250000
    start + (if p = 0 then 0 else (latch - start) / p * p) + d.deadline * 100
  else latch + d.deadline * 100

/-- Task `d` of task set `o` latches now (R111, R117, R120, R140): `start` is the start of its basic cycle. -/
def Mod.doLatch (m : Mod) (o : Nat) (d : TaskDesc) (trig : Option TrigData) (start : Nat) : Mod :=
  let t := d.index
  let m := if m.triad then m.closeVote t else m
  let m := if m.triad then ((m.resync 0).resync 1).resync 2 else m
  let pairs := if m.triad then (List.range 3).filter (fun p => m.lstate p != lnFAILED) else [o]
  let n := (m.dyn o t).next
  let m := m.setDyn { m.dyn o t with next := n + 1, pendingTrig := none }
  let m := m.tput Reg.TASK_Tn_STATUS_RELEASE_LO o t n
  let m := m.latchInputs (latchBank o d.bank) d.inputs
  let m := m.runEdges o t d
  let restoring := fun p => m.lstate p == lnRESTORE
  let r : Release := {
    pair := o, desc := d, number := n, cycle := m.cycle, mono := m.now, sec := m.secs, ns := m.nanos
    forces := m.task.forces.length, orphan := m.task.forces.any (fun e => e.2.orphan)
    deadline := deadlineOf d m.now start, trig := trig
    parts := pairs.map (fun p => ⟨p, false, false, false, false, restoring p && m.triad, false, false, []⟩)
    overrun := false, late := false, stage := .running, closed := false, source := o, other := none
    lostRaised := false }
  let m := m.setRels (fun l => l ++ [r])
  let m := if m.triad then
      let voters := (List.range 3).filter (fun p => m.votes p)
      let exempt := voters.filter restoring
      m.setScl (fun s => { s with votes := s.votes ++ [⟨t, n, voters, exempt, [], none, false, none, false, false, [], []⟩] })
    else m
  m.startBodies

/-- The pair of task set `o` can take a latch: it is up, or it restarts; in TRIAD, some pair is. -/
def Mod.canLatch (m : Mod) (o : Nat) : Bool :=
  let up := fun p => m.lstate p == lnRUN || m.lstate p == lnDEBUG || m.lstate p == lnRESTORE
  if m.triad then (List.range 3).any up else up o

/-- The pending trigger of an event task, at the end of its current release (R115, R133). -/
def Mod.latchPending (m : Mod) (o t : Nat) : Mod :=
  let m := if (m.rel o t).isNone && (m.dyn o t).pendingTrig.isSome then m.applyEnable o t else m
  let y := m.dyn o t
  match y.pendingTrig, m.desc o t with
  | some g, some d =>
    if (m.rel o t).isSome then m
    else if y.skipNext then (m.setDyn { y with skipNext := false, pendingTrig := none }).skip o t y.next skPOLICY
    else if m.latchBlocked || m.latchHeld o || !m.running || !m.canLatch o then m
    else m.doLatch o d (some g) m.now
  | _, _ => if 16 ≤ t then m.setDyn { y with skipNext := false } else m

/-- A release ends without a commit: it leaves the sequencer, and a pending trigger may latch. -/
def Mod.endRelease (m : Mod) (o t : Nat) : Mod := ((m.delRel o t).latchPending o t).startBodies

/-- A trigger is lost (R115); in TRIAD TRIGGER_LOST is raised at most once per release (R152). -/
def Mod.triggerLost (m : Mod) (o t : Nat) : Mod :=
  let m := m.count Reg.TASK_Tn_OVERRUNS_LOST_TRIGGERS 1 o t
  if m.triad && ((m.rel o t).map (·.lostRaised)).getD false then m
  else (m.updRel o t (fun r => { r with lostRaised := true })).raise (0x51 + o) 3 0 [t]

/-- A trigger for event task `t` of task set `o` (R114, R115, R152, R218). -/
def Mod.triggerTask (m : Mod) (o t : Nat) (g : TrigData) : Mod :=
  match m.desc o t with
  | none => m
  | some d =>
    if !m.running || d.cyclic || (!m.triad && m.lstate o == lnFAILED) then m
    else
      let m := if (m.rel o t).isNone then m.applyEnable o t else m
      if m.tget Reg.TASK_Tn_STATUS_ENABLED o t == 0 then m
      else if (m.rel o t).isSome || m.latchHeld o || m.latchBlocked || !m.canLatch o then
        if (m.dyn o t).pendingTrig.isSome then m.triggerLost o t
        else m.setDyn { m.dyn o t with pendingTrig := some g }
      else
        match (m.dyn o t).pendingTrig with
        | none => m.doLatch o d (some g) m.now
        | some g0 =>
          let m := m.doLatch o d (some g0) m.now
          m.setDyn { m.dyn o t with pendingTrig := some g }

/-- Every event task that names a source: SRC, ID, and an OPT or PARAM test (R129). -/
def Mod.triggerSource (m : Mod) (g : TrigData) (p : TrigEntry → Bool) : Mod :=
  match m.task.table with
  | none => m
  | some tb =>
    (List.range 3).foldl (fun a o =>
      (tb.descs.getD o []).foldl (fun b d =>
        if d.triggers.any (fun e => e.src == g.src && p e) then b.triggerTask o d.index g else b) a) m

/-- A cyclic latch falls due (R112, R132, R133); `start` is the start of its basic cycle. -/
def Mod.cyclicDue (m : Mod) (o : Nat) (d : TaskDesc) (start : Nat) : Mod :=
  let t := d.index
  let m := m.applyEnable o t
  if m.tget Reg.TASK_Tn_STATUS_ENABLED o t == 0 || !m.canLatch o then m
  else
    let y := m.dyn o t
    let released : Bool := match m.rel o t with
      | none => false
      | some r => !m.triad || r.stage != .running ||
          (match m.voteOf t with | some v => v.number == r.number && v.released.isSome | none => false)
    if released then
      -- The previous release has not reached its commit point: it overruns, and this latch is skipped (R133).
      let m := m.overrun o t
      (m.setDyn { m.dyn o t with skipNext := false }).skip o t y.next skPOLICY
    else if y.skipNext then (m.setDyn { y with skipNext := false }).skip o t y.next skPOLICY
    else m.doLatch o d none start

/-! ### Commit requests (R174, R184) -/

/-- The release of task `t` requests its commit; with commits inhibited it is skipped (R184). -/
def Mod.requestCommit (m : Mod) (o t : Nat) : Mod :=
  match m.rel o t with
  | none => m
  | some r =>
    if m.lgr.inhibited then
      let m := (m.skip o t r.number skINHIBITED).txnDrop o t
      if m.triad then ((m.updRel o t (fun x => { x with stage := .done })).latchPending o t).startBodies else m.endRelease o t
    else
      (m.updRel o t (fun x => { x with stage := .requested })).setLgr (fun l => { l with requests := l.requests ++ [(o, t)] })

end Sys2Proof.Machine
end

