-- ==== Sys2Proof/Machine/EngineTables.lean ====
section
/-!
DEFINITION. The tables of the remaining engines as bytes, with their refusal checks: CAN matrix and filters (R374 to
R377, R385), gateway map (R412 to R418), LBB safe table (R437), class table (R490, R491), rate table (R504) and firewall
table (R44, R45).
-/

namespace Sys2Proof.Machine

/-! ### Registers by address -/

/-- The row and instance indices of the register word at offset `o` from 0x01_0000_0000, if one lies there. -/
def rowAt (r : RegRow) (o : Nat) : Option (Nat × Nat) :=
  let i := if r.n1 = 1 then 0 else (o - r.off) / r.s1
  let j := if r.n2 = 1 then 0 else (o - (r.off + r.s1 * i)) / r.s2
  if r.off + r.s1 * i + r.s2 * j = o ∧ i < r.n1 ∧ j < r.n2 then some (i, j) else none

def findReg (o : Nat) : Option (RegRow × Nat × Nat) :=
  Reg.all.findSome? (fun r => (rowAt r o).map (fun ij => (r, ij.1, ij.2)))

/-- An aligned register or a word of the CAN message RAM: what a snapshot set may name (R504). -/
def snapAddress (o : Nat) : Bool := o % 4 == 0 && ((findReg o).isSome || (0x140000 ≤ o && o < 0x160000))

/-! ### CAN matrix (R374 to R377, R385) -/

/-- A filter keeps R385: reserved bits 0, TRIGGER only with STORE, and an 11-bit identifier where IDE is 0. -/
def filterOk (f : CanFilter) : Bool :=
  bitsOf f.id 30 2 == 0 && bitsOf f.mask 30 2 == 0 && bitsOf f.flags 6 2 == 0 && bitsOf f.flags 4 2 ≤ 2 &&
    (bitOf f.id 29 || bitsOf f.id 11 18 == 0) && (!bitOf f.flags 2 || bitOf f.flags 1)

def cellOk (cols c v : Nat) : Bool := if cols ≤ c then v == 0xFF else v == 0xFF || !bitOf v 7

/-- No mailbox appears with both MODE values. -/
def modesOk (cells : List Nat) : Bool :=
  (List.range 64).all (fun k => !(cells.contains k && cells.contains (k + 64)))

/-- The matrix as bytes with the checks of R377, for controller `ctrl` and the basic cycle in µs. -/
def parseMatrix (rd : Nat → Nat → Nat) (by_ : Nat → Nat → List Byte) (ctrl bcUs : Nat) : Option CanMatrix :=
  let rows := rd 7 1
  let nc := rd 8 1
  let nf := rd 0x10 1
  let grid := 0x20 + 16 * nc
  let flt := grid + 32 * rows
  let len := flt + 16 * nf
  let cols := (List.range nc).map (fun i =>
    let o := 0x20 + 16 * i
    (⟨bitsOf (rd o 4) 0 24, bitsOf (rd (o + 4) 4) 0 24, rd (o + 8) 2, rd (o + 10) 1⟩ : CanColumn))
  let cells := (List.range rows).map (fun r => (List.range 32).map (fun c => rd (grid + 32 * r + c) 1))
  let filters := (List.range nf).map (fun i => (⟨rd (flt + 16 * i) 4, rd (flt + 16 * i + 4) 4, rd (flt + 16 * i + 8) 1⟩ : CanFilter))
  let cyc := rd 0xA 2
  if rd 0 4 = 0x58544D43 ∧ rd 4 2 = 1 ∧ rd 6 1 = ctrl ∧ [1, 2, 4, 8, 16, 32, 64].contains rows ∧ 1 ≤ nc ∧ nc ≤ 32 ∧
      bitsOf (rd 9 1) 1 7 = 0 ∧ 250 ≤ cyc ∧ cyc ≤ 64000 ∧ cyc % 250 = 0 ∧ (!bitOf (rd 9 1) 0 || cyc == bcUs) ∧ nf ≤ 64 ∧
      (by_ 0x11 11).all (· == 0) ∧ crc32 (by_ 0 0x1C ++ [0, 0, 0, 0] ++ by_ 0x20 (len - 0x20)) = rd 0x1C 4 ∧
      (List.range nc).all (fun i =>
        let o := 0x20 + 16 * i
        rd (o + 3) 1 == 0 && rd (o + 7) 1 == 0 && (by_ (o + 11) 5).all (· == 0)) ∧
      cols.all (fun c => c.frame ≤ c.len && (c.type == 1 || c.type == 2) && c.start + c.len ≤ cyc * 10) ∧
      sortedBy (fun a b => a.start < b.start && a.start + a.len ≤ b.start) cols ∧
      cells.all (fun r => (List.range 32).all (fun c => cellOk nc c (r.getD c 0))) ∧ modesOk cells.flatten ∧
      filters.all filterOk ∧ (List.range nf).all (fun i => (by_ (flt + 16 * i + 9) 7).all (· == 0)) then
    some ⟨bitOf (rd 9 1) 0, cyc, rd 0xC 4, cols, cells, filters⟩
  else none

/-- A filter that releases event tasks (R130: a configured filter). -/
def CanMatrix.triggers (x : CanMatrix) (i : Nat) : Bool :=
  match x.filters[i]? with
  | some f => bitOf f.flags 0 && bitOf f.flags 2
  | none => false

/-! ### Gateway map (R412 to R418) -/

/-- Container bit positions of a signal, its least significant bit first (R415). -/
def sigBits (be : Bool) (bit len : Nat) : List Nat :=
  if be then
    -- from the most significant bit downward
    ((List.range len).foldl (fun (a : List Nat × Nat) _ => (a.2 :: a.1, if a.2 % 8 = 0 then a.2 + 15 else a.2 - 1)) ([], bit)).1
  else (List.range len).map (fun i => bit + i)

def GwEntry.srcBits (e : GwEntry) : List Nat := sigBits (bitOf e.flags 1) e.srcBit e.srcLen
def GwEntry.dstBits (e : GwEntry) : List Nat := sigBits (bitOf e.flags 3) e.dstBit e.dstLen

/-- F2 words of a kind 5 container (R414). -/
def f2ContainerWords (bit len : Nat) : Nat := (bit + len + 15) / 16

/-- Key of a destination byte: output byte, mailbox byte (controller, mailbox, byte), or F2 byte. -/
def mbxKey (ctrl mbx i : Nat) : Nat := 0x100000 + (ctrl * 64 + mbx) * 64 + i
def f2Key (a : Nat) : Nat := 0x10000000 + a

/-- Key of byte `i` of the entry's destination container. -/
def GwEntry.dstKey (e : GwEntry) (i : Nat) : Nat :=
  match e.dstKind with
  | 1 => mbxKey (bitsOf e.dstId 0 3) (bitsOf e.dstId 3 6) i
  | 4 => e.dstOff + i
  | _ => f2Key (e.dstOff + i)

/-- Destination bits of the entry: key and bit. -/
def GwEntry.dstCells (e : GwEntry) : List (Nat × Nat) := e.dstBits.map (fun b => (e.dstKey (b / 8), b % 8))

def representable (v : Int) (len : Nat) (signed : Bool) : Bool :=
  if signed then -(2 ^ (len - 1) : Nat) ≤ v && v ≤ (2 ^ (len - 1) : Nat) - 1 else 0 ≤ v && v ≤ (2 ^ len : Nat) - 1

def parseGwEntry (rd : Nat → Nat → Nat) (o : Nat) : GwEntry :=
  ⟨rd o 1, rd (o + 1) 1, rd (o + 2) 2, rd (o + 4) 2, rd (o + 6) 2, rd (o + 8) 4, rd (o + 12) 4, rd (o + 0x10) 2, rd (o + 0x12) 2,
    rd (o + 0x14) 1, rd (o + 0x15) 1, sext 32 (rd (o + 0x18) 4), rd (o + 0x1C) 4, sext 64 (rd (o + 0x20) 8),
    sext 64 (rd (o + 0x28) 8), sext 64 (rd (o + 0x30) 8), sext 64 (rd (o + 0x38) 8)⟩

/-- What the checks of R418 need from the rest of the module. -/
structure GwCtx where
  bcQ : Nat
  ctrls : Nat
  ds : Nat → Option DsDesc
  /-- Window `w` is valid and holds `n` bytes from F2 address `a`. -/
  window : Nat → Nat → Nat → Bool
  rd : Nat → Bool
  wr : Nat → Bool
  amo : Nat → Bool
  /-- Some task of the table in force writes output byte `a`, or mailbox `k` of controller `n`. -/
  taskByte : Nat → Bool
  taskMailbox : Nat → Nat → Bool

def srcOk (c : GwCtx) (e : GwEntry) : Bool :=
  match e.srcKind with
  | 1 => e.srcOff == 0 && e.srcBits.all (· < 512)
  | 2 => e.srcOff == 0 &&
      (match c.ds e.srcId with
       | some d => !d.outbound && e.srcBits.all (· < 8 * d.len)
       | none => false)
  | 3 => e.srcId == 0 && e.srcBits.all (fun b => 8 * e.srcOff + b < 8 * 0x10000)
  | 4 => e.srcId == 0 && e.srcBits.all (fun b => 8 * e.srcOff + b < 8 * 0x10000)
  | 5 =>
    let n := f2ContainerWords e.srcBit e.srcLen
    e.srcId < 16 && e.srcOff % 2 == 0 && n ≤ 4 && e.srcBits.all (· < 16 * n) && c.window e.srcId e.srcOff (2 * n) &&
      c.rd e.srcId && (!bitOf e.flags 6 || c.amo e.srcId)
  | _ => false

def dstOk (c : GwCtx) (ts : List GwTemplate) (e : GwEntry) : Bool :=
  match e.dstKind with
  | 1 =>
    let n := bitsOf e.dstId 0 3
    let k := bitsOf e.dstId 3 6
    e.dstOff == 0 && e.dstBits.all (· < 512) && ts.any (fun t => t.ctrl == n && t.mbx == k) && !c.taskMailbox n k
  | 4 => e.dstId == 0 && e.dstBits.all (fun b => 8 * e.dstOff + b < 8 * 0x10000 && !c.taskByte (e.dstOff + b / 8))
  | 5 =>
    let n := f2ContainerWords e.dstBit e.dstLen
    e.dstId < 16 && e.dstOff % 2 == 0 && n ≤ 4 && e.dstBits.all (· < 16 * n) && c.window e.dstId e.dstOff (2 * n) &&
      c.wr e.dstId && (!bitOf e.flags 6 || c.amo e.dstId)
  | _ => false

def gwEntryOk (c : GwCtx) (ts : List GwTemplate) (e : GwEntry) : Bool :=
  bitsOf e.flags 7 9 == 0 && 1 ≤ e.srcLen && e.srcLen ≤ 64 && 1 ≤ e.dstLen && e.dstLen ≤ 64 && e.num != 0 && e.den != 0 &&
    e.den ≤ 2 ^ 31 && e.min ≤ e.max && e.min ≤ e.dflt && e.dflt ≤ e.max && representable e.min e.dstLen (bitOf e.flags 2) &&
    representable e.max e.dstLen (bitOf e.flags 2) && srcOk c e && dstOk c ts e

/-- Phase times and entry ranges (R413, R418). -/
def phasesOk (bcQ entries : Nat) : Nat → Option Nat → List GwPhase → Bool
  | next, _, [] => next == entries
  | next, first, p :: r =>
    let room := match r with | q :: _ => q.start - p.start | [] => bcQ * 2500
    p.start < bcQ * 2500 && [1, 2, 4, 8, 16, 32, 64].contains p.period && p.phase < p.period && p.first == next &&
      1 ≤ p.count && (match r with | q :: _ => p.start < q.start | [] => true) && 200 + 4 * p.count ≤ 10 * room &&
      phasesOk bcQ entries (next + p.count) first r

/-- The map as bytes with the checks of R418. -/
def parseGwMap (rd : Nat → Nat → Nat) (by_ : Nat → Nat → List Byte) (c : GwCtx) : Option GwMap :=
  let np := rd 6 1
  let ne := rd 8 2
  let nm := rd 0xA 2
  let po := rd 0x10 4
  let eo := rd 0x14 4
  let mo := rd 0x18 4
  let len := rd 0x1C 4
  let phases := (List.range np).map (fun i =>
    let o := po + 16 * i
    (⟨bitsOf (rd o 4) 0 24, rd (o + 4) 1, rd (o + 5) 1, rd (o + 8) 2, rd (o + 10) 2⟩ : GwPhase))
  let entries := (List.range ne).map (fun i => parseGwEntry rd (eo + 64 * i))
  let ts := (List.range nm).map (fun i =>
    let o := mo + 16 * i
    (⟨rd o 1, rd (o + 1) 1, rd (o + 2) 2, rd (o + 4) 4, rd (o + 8) 2⟩ : GwTemplate))
  if rd 0 4 = 0x50414D47 ∧ rd 4 2 = 1 ∧ 1 ≤ np ∧ np ≤ 8 ∧ rd 7 1 = 0 ∧ 1 ≤ ne ∧ ne ≤ 16384 ∧ nm ≤ 512 ∧ len ≤ 1056960 ∧
      0x40 ≤ len ∧ po % 16 = 0 ∧ eo % 16 = 0 ∧ mo % 16 = 0 ∧ po + 16 * np ≤ len ∧ eo + 64 * ne ≤ len ∧ mo + 16 * nm ≤ len ∧
      (by_ 0x20 28).all (· == 0) ∧ crc32 (by_ 0 0x3C ++ [0, 0, 0, 0] ++ by_ 0x40 (len - 0x40)) = rd 0x3C 4 ∧
      (List.range np).all (fun i => rd (po + 16 * i + 3) 1 == 0 && rd (po + 16 * i + 6) 2 == 0 && rd (po + 16 * i + 12) 4 == 0) ∧
      (List.range ne).all (fun i => rd (eo + 64 * i + 0x16) 2 == 0) ∧
      (List.range nm).all (fun i => (by_ (mo + 16 * i + 10) 6).all (· == 0)) ∧
      phasesOk c.bcQ ne 0 none phases ∧ entries.all (gwEntryOk c ts) ∧ (entries.flatMap GwEntry.dstCells).Nodup ∧
      ts.all (fun t => t.ctrl < c.ctrls && t.mbx < 64) ∧ allPairs (fun a b => a.ctrl != b.ctrl || a.mbx != b.mbx) ts then
    some ⟨rd 0xC 4, phases, entries, ts⟩
  else none

/-- Output bytes that the map writes (R410). -/
def GwMap.outBytes (g : GwMap) : List Nat :=
  ((g.entries.filter (fun e => e.dstKind == 4)).flatMap (fun e => e.dstBits.map (fun b => e.dstOff + b / 8))).dedup

/-- Mailboxes that the map assigns to the gateway: controller and mailbox. -/
def GwMap.mailboxes (g : GwMap) : List (Nat × Nat) := g.templates.map (fun t => (t.ctrl, t.mbx))

/-- The gateway map in force writes output byte `a` (R150, R410). -/
def Mod.gwByte (m : Mod) (a : Nat) : Bool := (m.gw.map.map GwMap.outBytes).getD [] |>.contains a
/-- The gateway map in force is assigned mailbox `k` of controller `n` (R384). -/
def Mod.gwMailbox (m : Mod) (n k : Nat) : Bool := (m.gw.map.map GwMap.mailboxes).getD [] |>.contains (n, k)

/-! ### LBB safe table (R437) -/

/-- F2 address and value of each write; `writable a`: the word at `a` lies in a window with WR. -/
def parseSafe (rd : Nat → Nat → Nat) (by_ : Nat → Nat → List Byte) (writable : Nat → Bool) : Option (List (Nat × Nat)) :=
  let n := rd 4 2
  if rd 0 4 = 0x45464153 ∧ n ≤ 64 ∧ rd 6 2 = 0 ∧ rd 12 4 = 0 ∧ crc32 (by_ 16 (8 * n)) = rd 8 4 ∧
      (List.range n).all (fun i => rd (16 + 8 * i + 3) 1 == 0 && rd (16 + 8 * i) 4 % 2 == 0 && rd (16 + 8 * i + 6) 2 == 0 &&
        writable (rd (16 + 8 * i) 4)) then
    some ((List.range n).map (fun i => (rd (16 + 8 * i) 4, rd (16 + 8 * i + 4) 2)))
  else none

/-! ### Class table (R490, R491) -/

def parseClassTable (rd : Nat → Nat → Nat) (by_ : Nat → Nat → List Byte) : Option (List ClassEntry) :=
  let n := rd 6 2
  let es := (List.range n).map (fun i =>
    let o := 16 + 16 * i
    let r := rd (o + 8) 4
    (⟨rd o 2, rd (o + 2) 1, bitsOf (rd (o + 3) 1) 0 2, bitsOf (rd (o + 3) 1) 2 2, rd (o + 4) 1,
      [bitsOf r 0 5, bitsOf r 5 5, bitsOf r 10 5, bitsOf r 15 5], rd (o + 12) 4⟩ : ClassEntry))
  if rd 0 4 = 0x53414C43 ∧ rd 4 2 = 1 ∧ n ≤ 2048 ∧ crc32 (by_ 0 12 ++ [0, 0, 0, 0] ++ by_ 16 (16 * n)) = rd 12 4 ∧
      (List.range n).all (fun i =>
        let o := 16 + 16 * i
        bitsOf (rd o 2) 10 6 == 0 && bitsOf (rd (o + 3) 1) 4 4 == 0 && (by_ (o + 5) 3).all (· == 0) && bitsOf (rd (o + 8) 4) 20 12 == 0) ∧
      es.all (fun e => isAssigned e.source && e.base ≤ e.esc && 1 ≤ e.windowMs && e.windowMs ≤ 86400000 &&
        (isLaneSource e.source || e.react.all (fun r => !bitOf r 2))) ∧
      sortedBy (fun a b => a.source < b.source || (a.source == b.source && a.kind < b.kind)) es then
    some es
  else none

/-! ### Rate table (R504) -/

def parseRateTable (rd : Nat → Nat → Nat) (by_ : Nat → Nat → List Byte) : Option RateTable :=
  let n := rd 6 2
  let k := rd 8 1
  let so := 16 + 16 * ((n + 1) / 2)
  let es := (List.range n).map (fun i =>
    let o := 16 + 8 * i
    (⟨rd o 2, rd (o + 2) 1, rd (o + 3) 1, rd (o + 4) 4⟩ : RateEntry))
  let sets := (List.range k).map (fun i =>
    let o := so + 64 * i
    (List.range (min 15 (rd o 1))).map (fun j => rd (o + 4 + 4 * j) 4))
  if rd 0 4 = 0x45544152 ∧ rd 4 2 = 1 ∧ n ≤ 1024 ∧ k ≤ 63 ∧ (by_ 9 3).all (· == 0) ∧
      crc32 (by_ 0 12 ++ [0, 0, 0, 0] ++ by_ 16 (so + 64 * k - 16)) = rd 12 4 ∧
      es.all (fun e => 1 ≤ e.burst && e.set ≤ k && e.periodMs ≤ 86400000 && e.code != 0x0080) ∧
      sortedBy (fun a b => a.code < b.code) es ∧
      (List.range k).all (fun i =>
        let o := so + 64 * i
        1 ≤ rd o 1 && rd o 1 ≤ 15 && (by_ (o + 1) 3).all (· == 0)) ∧ sets.all (fun s => s.all snapAddress) then
    some ⟨es, sets⟩
  else none

/-! ### Firewall table (R44, R45) -/

/-- An entry of a valid firewall table: base, size in bytes, and the permissions of PERM. -/
structure FwEntry where
  base : Nat
  size : Nat
  perm : Nat
  deriving DecidableEq, Repr

/-- A TCM or DRAM area of a pair other than `p` (R27, R621). -/
def foreignArea (p a n : Nat) : Bool :=
  (List.range 3).any (fun q => q != p && (overlap a n (tcmBase q) 0x400000 || overlap a n (pairDram q) 0x10000000))

/-- The valid entries of the firewall table of pair `p`; none if the table is refused. -/
def parseFirewall (rd : Nat → Nat → Nat) (by_ : Nat → Nat → List Byte) (p : Nat) : Option (List FwEntry) :=
  let n := rd 0 4
  if 1 ≤ n ∧ n ≤ 16 ∧ rd 8 8 = 0 ∧ crc32 (by_ 16 (16 * n)) = rd 4 4 ∧
      (List.range n).all (fun i =>
        let o := 16 + 16 * i
        let b := rd o 8
        bitsOf b 0 12 == 0 && bitsOf b 40 24 == 0 && 1 ≤ rd (o + 8) 4 && rd (o + 8) 4 ≤ 1048576 &&
          bitsOf (rd (o + 12) 1) 5 3 == 0 && bitsOf (rd (o + 12) 1) 1 2 == 0 && bitsOf (rd (o + 13) 1) 1 7 == 0 &&
          rd (o + 14) 2 == 0 && !foreignArea p b (4096 * rd (o + 8) 4)) then
    some (((List.range n).filter (fun i => bitOf (rd (16 + 16 * i + 13) 1) 0)).map (fun i =>
      ⟨rd (16 + 16 * i) 8, 4096 * rd (16 + 16 * i + 8) 4, rd (16 + 16 * i + 12) 1⟩))
  else none

/-- The firewall of pair `p` as it checks it. -/
def Mod.firewall (m : Mod) (p : Nat) : Option (List FwEntry) :=
  let b := m.get Reg.LANE_FIREWALL_BASE_OFFSET p * 16
  parseFirewall (m.trd b) (m.tby b) p

/-- Core `c` of pair `p` may read `n` bytes at `a` under a table entry (R43). -/
def Mod.firewallReads (m : Mod) (p c a n : Nat) : Bool :=
  ((m.firewall p).getD []).any (fun e => bitOf e.perm 0 && bitOf e.perm (3 + c) && e.base ≤ a && a + n ≤ e.base + e.size)

end Sys2Proof.Machine
end

