-- ==== Sys2Proof/Machine/ConfigOps.lean ====
section
/-!
DEFINITION. Configuration transactions below their commands: the shadow (R546), the checks of the owning chapters at a
commit (R548), applying the shadow block by block at its boundaries (R548, R636), and what a changed field does.
-/

namespace Sys2Proof.Machine

def Mod.setCfg (m : Mod) (f : CfgState → CfgState) : Mod := { m with cfg := f m.cfg }
def Mod.setGw (m : Mod) (f : GwState → GwState) : Mod := { m with gw := f m.gw }
def Mod.setPrt (m : Mod) (s : Nat) (f : PrtState → PrtState) : Mod := { m with prt := updAt m.prt s f }
def Mod.prtSt (m : Mod) (s : Nat) : PrtState := m.prt.getD s .reset

/-! ### Register words -/

/-- Fields of the word at offset `o` whose access satisfies `p` take their bits of `v`. -/
def Mod.putWord (m : Mod) (o v : Nat) (p : Access → Bool) : Mod :=
  match findReg o with
  | none => m
  | some (r, i, j) => r.flds.foldl (fun a f => if p f.acc then a.put f (bitsOf v f.lo f.width) i j else a) m

/-- The stored fields of the word at offset `o`, in place. -/
def Mod.wordAt (m : Mod) (o : Nat) (p : Access → Bool) : Nat :=
  match findReg o with
  | none => 0
  | some (r, i, j) => (r.flds.map (fun f => if p f.acc then m.get f i j * 2 ^ f.lo else 0)).sum

def isShadowed (a : Access) : Bool := a == .tx || a == .rwl

/-- Block code of a register offset (R563, R623). -/
def blockOf (o : Nat) : Nat := o / 0x10000

def Mod.applyWrites (m : Mod) (ws : List TxnWrite) : Mod := ws.foldl (fun a w => a.putWord w.off w.value isShadowed) m

/-! ### Field ranges -/

/-- A field whose meaning states a range: lowest and highest value, signed or not. -/
structure RangeRule where
  fld : Fld
  lo : Int
  hi : Int
  signed : Bool
  deriving DecidableEq, Repr

/-- Ranges that the register tables state for TX and RWL fields. -/
def rangeRules : List RangeRule :=
  [⟨Reg.SCL_CTL_RECOVER_COUNT, 1, 255, false⟩, ⟨Reg.SCL_CTL_RESYNC_LIMIT, 1, 15, false⟩, ⟨Reg.SCL_SKEW_MAX_US, 10, 5000, false⟩,
   ⟨Reg.SCL_SKEW_PERCENT, 1, 100, false⟩, ⟨Reg.SCL_SKEW_EVENT_EVENT_US, 10, 5000, false⟩, ⟨Reg.TASK_CTL_FORCE_BATCH, 1, 16, false⟩,
   ⟨Reg.CYC_BC_US_US, 250, 64000, false⟩, ⟨Reg.CYC_MACRO_COUNT, 1, 64, false⟩, ⟨Reg.CYC_CTL_FORCE_FALLBACK, 0, 2, false⟩,
   ⟨Reg.CYC_FALLBACK_CFG_NODE_MISS_LIMIT, 1, 255, false⟩, ⟨Reg.CYC_FALLBACK_CFG_RESTORE_MS, 100, 60000, false⟩,
   ⟨Reg.CYC_ADMIT_WAIT_MS, 100, 60000, false⟩, ⟨Reg.TWN_CTL_HB_LIMIT, 2, 15, false⟩,
   ⟨Reg.LBB_TIMEOUT_HOLD_US, 10, 10000, false⟩, ⟨Reg.LBB_TIMEOUT_ACCESS_US, 2, 20, false⟩, ⟨Reg.DIO_WDT_MS, 1, 1000, false⟩,
   ⟨Reg.CFG_CAL_OSC_TRIM, -200, 200, true⟩, ⟨Reg.CFG_CAL_DIO_G0, -50, 50, true⟩, ⟨Reg.CFG_CAL_DIO_G1, -50, 50, true⟩,
   ⟨Reg.CFG_CAL_DIO_G2, -50, 50, true⟩, ⟨Reg.CFG_CAL_DIO_G3, -50, 50, true⟩, ⟨Reg.PRT_CTL_CASCADE, 0, 2, false⟩,
   ⟨Reg.PRT_CTL_UNIT, 0, 2, false⟩, ⟨Reg.PRT_GUARD_GUARD, 2, 100, false⟩, ⟨Reg.PRT_LATE_CFG_WINDOW_MS, 1, 60000, false⟩,
   ⟨Reg.PRT_LATE_CFG_LIMIT, 1, 255, false⟩, ⟨Reg.CAN_NBT_NTSEG1, 1, 255, false⟩, ⟨Reg.CAN_NBT_NTSEG2, 1, 127, false⟩,
   ⟨Reg.CAN_DBT_DTSEG1, 1, 63, false⟩, ⟨Reg.DIO_CHc_CFG_FILTER, 1, 500, false⟩, ⟨Reg.DIO_CHc_CFG_ACTION, 0, 2, false⟩,
   ⟨Reg.DIO_CHc_CFG_SAFE_STATE, 0, 2, false⟩, ⟨Reg.DIO_CHc_TIMING_PULSE_US, 1, 65535, false⟩]

/-- The value of a field keeps its range. -/
def inRange (f : Fld) (v : Nat) : Bool :=
  match rangeRules.find? (fun r => r.fld == f) with
  | none => true
  | some r =>
    let z : Int := if r.signed then sext f.width v else v
    r.lo ≤ z && z ≤ r.hi

/-- Every shadowed field of a written word keeps its range in the candidate `c`. -/
def wordInRange (c : Mod) (o : Nat) : Bool :=
  match findReg o with
  | none => false
  | some (r, i, j) => r.flds.all (fun f => !isShadowed f.acc || inRange f (c.get f i j))

/-! ### Candidate tables -/

/-- Offset in the table SRAM that a base register names. -/
def Mod.base (m : Mod) (f : Fld) (i : Nat := 0) : Nat := m.get f i * 16

/-- A base register names another table than the one in force. -/
def rebased (m c : Mod) (f : Fld) (i : Nat := 0) : Bool := m.get f i != c.get f i

/-- R454: LOCAL data sets, at most one of each direction, of 24 and 8 bytes. -/
def localOk (t : IocTable) : Bool :=
  let inb := t.sets.filter (fun d => d.local_ && !d.outbound)
  let out := t.sets.filter (fun d => d.local_ && d.outbound)
  inb.length ≤ 1 && inb.all (·.len == 24) && out.length ≤ 1 && out.all (·.len == 8)

/-- The I/O copy table of the next basic cycle, or the one in force. -/
def Mod.iocNext (m : Mod) : Option IocTable := m.cyc.nextIoc <|> m.cyc.ioc
def Mod.bcQ (m : Mod) : Nat := m.get Reg.CYC_BC_US_US / 250
def Mod.macroN (m : Mod) : Nat := m.get Reg.CYC_MACRO_COUNT

/-- The node table of the candidate. -/
def candNodes (m c : Mod) : Option (List NodeEntry) :=
  if rebased m c Reg.CYC_NODE_TABLE_BASE_OFFSET then
    parseNodes (c.trd (c.base Reg.CYC_NODE_TABLE_BASE_OFFSET)) (c.tby (c.base Reg.CYC_NODE_TABLE_BASE_OFFSET))
  else some m.cyc.nodes

/-- Whether node `n` is attached to schedule port `src` on channel `ch` in case `k` (R266). Partners behind the backbone
and the twin unit are described by the case and by the profile. -/
def attachedNode (c : Mod) (ns : List NodeEntry) (n src ch k : Nat) : Bool :=
  if src = 0x80 then c.hasTwin && (n == 1 || n == 2)
  else if src = 0x40 ∨ src = 0x41 then true
  else ns.any (fun e => e.node == n && e.port ch == src && bitOf e.cases k)

def schedCtx (c : Mod) (ns : List NodeEntry) : SchedCtx where
  macroN := c.macroN
  bcQ := c.bcQ
  guard := c.get Reg.PRT_GUARD_GUARD 0
  twin := c.hasTwin
  cascade := c.hasTwin
  ds := fun n => c.iocNext.bind (fun t => t.ds n)
  attached := attachedNode c ns

/-- The schedule directory that the candidate names, if it names another one. -/
def candDir (m c : Mod) : Option (Option SchedDir) :=
  if rebased m c Reg.CYC_SCHED_BASE_OFFSET then
    let b := c.base Reg.CYC_SCHED_BASE_OFFSET
    some (match parseSchedDir (c.trd b) (c.tby b), candNodes m c with
      | some d, some ns => if d.ok (schedCtx c ns) then some d else none
      | _, _ => none)
  else none

/-- The matrix of controller `n` that the candidate names, if it names another one. -/
def candMatrix (m c : Mod) (n : Nat) : Option (Option CanMatrix) :=
  if rebased m c Reg.CAN_MATRIX_CTL_OFFSET n then
    some (parseMatrix (c.trd (c.base Reg.CAN_MATRIX_CTL_OFFSET n)) (c.tby (c.base Reg.CAN_MATRIX_CTL_OFFSET n)) n (c.get Reg.CYC_BC_US_US))
  else none

/-- The matrix that controller `n` will have. -/
def nextMatrix (m c : Mod) (n : Nat) : Option CanMatrix :=
  match candMatrix m c n with
  | some x => x
  | none => (m.canSt n).next <|> (m.canSt n).matrix

/-- Programs of the application sets on eMMC: those that a table's PROGRAM_IDs select (R540). -/
def ChgState.program (c : ChgState) (p id : Nat) : Option Program :=
  ([c.current, c.pendingSet, c.previous].filterMap (fun x => x)).findSome? (fun s : AppSet =>
    (s.programs.find? (fun g => g.1 == p && ((g.2.info.map (·.programId)).getD 0) == id)).map (·.2))

/-- The program that the checks of R130 hold a table against: the loaded one; before the loader has run, that of the
matching application set, and without one the check is left to the loader (R540). -/
def tableProgram (m : Mod) (start : Bool) (t : TaskTable) (p : Nat) : Option ProgMeta :=
  if start then
    let id := t.programs.getD (if t.triad then 0 else p) 0
    if id = 0 then none
    else some (((m.chg.program p id).bind Program.info).getD
      ⟨id, 0, 0, 0, 0, (List.range 48).map (fun i => ⟨i, 0, 0, 0⟩), []⟩)
  else m.prog p

/-- The checks of R130 and R410 on a table, against the module `m` and the candidate configuration `c`. -/
def taskOk (m c : Mod) (program : Nat → Option ProgMeta) (t : TaskTable) : Bool :=
  let ctx : TaskCtx := {
    triad := c.triad, split := c.split, bcQ := c.bcQ, macroN := c.macroN
    program := program
    inputChan := fun k => !c.dioOut k
    filter := fun n i => n < c.canCount && ((nextMatrix m c n).map (fun x => x.triggers i)).getD false
    arrival := fun n => ((c.iocNext).map (fun x => x.arrives n)).getD false }
  let g := m.gw.next <|> m.gw.map
  let apart := t.descs.all (fun l => l.all (fun d => d.outputs.all (fun e =>
    if e.type = 1 then ((g.map GwMap.outBytes).getD []).all (fun a => !(e.start ≤ a && a < e.start + e.len))
    else if e.type = 2 then e.ctrl < c.canCount &&
      ((g.map GwMap.mailboxes).getD []).all (fun x => !(x.1 == e.ctrl && e.start ≤ x.2 && x.2 < e.start + e.len))
    else true)))
  t.ok ctx && apart

/-- The task release table that the candidate names, checked (R130, R410), if it names another one. -/
def parseTaskAt (m c : Mod) (start : Bool) : Option TaskTable :=
  let b := c.base Reg.TASK_TABLE_BASE_OFFSET
  match parseTaskTable (c.trd b) (c.tby b) with
  | none => none
  | some t => if taskOk m c (tableProgram m start t) t then some t else none

def candTask (m c : Mod) (start : Bool) : Option (Option TaskTable) :=
  if rebased m c Reg.TASK_TABLE_BASE_OFFSET then some (parseTaskAt m c start) else none

/-- The task release table that will be in force. -/
def nextTask (m c : Mod) (start : Bool) : Option TaskTable :=
  match candTask m c start with
  | some x => x
  | none => m.task.pendingTable <|> m.task.table

def candMap (m c : Mod) (start : Bool) : Option (Option GwMap) :=
  if rebased m c Reg.GW_MAP_BASE_OFFSET then
    let b := c.base Reg.GW_MAP_BASE_OFFSET
    let tb := nextTask m c start
    let outs := (tb.map (fun t => t.descs.flatMap (fun l => l.flatMap (·.outputs)))).getD []
    some (parseGwMap (c.trd b) (c.tby b) {
      bcQ := c.bcQ, ctrls := c.canCount
      ds := fun n => c.iocNext.bind (fun t => t.ds n)
      window := fun w a n => c.flag Reg.LBB_WINw_CFG_VALID w && c.winStart w ≤ a && a + n ≤ c.winStart w + c.winLen w
      rd := fun w => c.flag Reg.LBB_WINw_CFG_RD w
      wr := fun w => c.flag Reg.LBB_WINw_CFG_WR w
      amo := fun w => c.flag Reg.LBB_WINw_CFG_AMO w
      taskByte := fun a => inExtents outs 1 a
      taskMailbox := fun n k => outs.any (fun e => e.type == 2 && e.ctrl == n && e.start ≤ k && k < e.start + e.len) })
  else none

def candSafe (m c : Mod) : Option (Option (List (Nat × Nat))) :=
  if rebased m c Reg.LBB_SAFE_BASE_OFFSET then
    let b := c.base Reg.LBB_SAFE_BASE_OFFSET
    some (parseSafe (c.trd b) (c.tby b) (fun a => ((c.window a 2).map (fun w => c.flag Reg.LBB_WINw_CFG_WR w)).getD false))
  else none

def candClass (m c : Mod) : Option (Option (List ClassEntry)) :=
  if rebased m c Reg.FC_CLASS_TABLE_OFFSET then
    some (parseClassTable (c.trd (c.base Reg.FC_CLASS_TABLE_OFFSET)) (c.tby (c.base Reg.FC_CLASS_TABLE_OFFSET)))
  else none

def candRate (m c : Mod) : Option (Option RateTable) :=
  if rebased m c Reg.DBK_RATE_TABLE_OFFSET then
    some (parseRateTable (c.trd (c.base Reg.DBK_RATE_TABLE_OFFSET)) (c.tby (c.base Reg.DBK_RATE_TABLE_OFFSET)))
  else none

/-! ### Block checks -/

/-- Bit timing of controller `n` (R365 to R367); rates in units of 80 MHz / (BRP × quanta). -/
def canTimingOk (c : Mod) (n : Nat) : Bool :=
  let nq := (c.get Reg.CAN_NBT_NBRP n + 1) * (c.get Reg.CAN_NBT_NTSEG1 n + c.get Reg.CAN_NBT_NTSEG2 n + 3)
  let dq := (c.get Reg.CAN_DBT_DBRP n + 1) * (c.get Reg.CAN_DBT_DTSEG1 n + c.get Reg.CAN_DBT_DTSEG2 n + 3)
  -- 80 MHz / nq from 10 kbit/s to 1 Mbit/s; 80 MHz / dq from the nominal rate to 8 Mbit/s
  80 ≤ nq && nq ≤ 8000 && 10 ≤ dq && dq ≤ nq && c.get Reg.CAN_NBT_NSJW n ≤ c.get Reg.CAN_NBT_NTSEG2 n &&
    c.get Reg.CAN_DBT_DSJW n ≤ c.get Reg.CAN_DBT_DTSEG2 n && (80 ≤ dq || c.flag Reg.CAN_DBT_TDC n) &&
    (!c.flag Reg.CAN_NBT_TRIPLE n || 640 ≤ nq)

/-- Longest interval between LOCAL outbound deliveries of a schedule table in 100 ns units, if it has any (R468). -/
def localGap (t : SchedTable) (out : Nat) : Option Nat :=
  let bc := t.bcQ * 2500
  let times := sortBy (· < ·) ((t.entries.filter (fun e => e.type == 3 && e.sets.contains out)).map (fun e => e.index * bc + e.start))
  match times with
  | [] => none
  | a :: _ => some ((times.zip (times.tail ++ [a + t.macroN * bc])).foldl (fun g p => max g (p.2 - p.1)) 0)

def wdtOk (c : Mod) (ds : List SchedDir) : Bool :=
  match (c.iocNext).bind (fun t => t.sets.find? (fun d => d.local_ && d.outbound)) with
  | none => true
  | some o => ds.all (fun d => d.cases.all (fun k => k.tables.all (fun t =>
      match t.bind (fun x => localGap x o.ds) with
      | none => true
      | some g => 2 * g ≤ c.get Reg.DIO_WDT_MS * 10000)))

/-- The DIO checks (R466, R468, R477, R481). -/
def dioCheck (m c : Mod) : Bool :=
  (List.range 32).all (fun k =>
    (!c.flag Reg.DIO_CHc_CFG_TIMED k || c.dioOut k) &&
    (!c.flag Reg.DIO_CHc_CFG_SAFETY k || c.get Reg.DIO_CHc_CFG_SAFE_STATE k != 2) &&
    (m.unit == stCONFIG || m.unit == stSAFE ||
      (m.get Reg.DIO_CHc_CFG_DIR k == c.get Reg.DIO_CHc_CFG_DIR k && m.get Reg.DIO_CHc_CFG_SAFETY k == c.get Reg.DIO_CHc_CFG_SAFETY k &&
        m.get Reg.DIO_CHc_CFG_SAFE_STATE k == c.get Reg.DIO_CHc_CFG_SAFE_STATE k))) &&
  ((m.get Reg.DIO_CTL_READBACK_EN ≤ c.get Reg.DIO_CTL_READBACK_EN && m.get Reg.DIO_CTL_GROUP_CUT_EN ≤ c.get Reg.DIO_CTL_GROUP_CUT_EN) ||
    (List.range 32).all (fun k => !c.flag Reg.DIO_CHc_CFG_SAFETY k)) &&
  wdtOk c ([m.cyc.dir, m.cyc.nextDir, (candDir m c).getD none].filterMap (fun x => x))

/-- Windows do not overlap, and PREFETCH needs MEMORY_LIKE (R425, R446). -/
def lbbCheck (c : Mod) : Bool :=
  allPairs (fun a b => !(c.flag Reg.LBB_WINw_CFG_VALID a && c.flag Reg.LBB_WINw_CFG_VALID b) ||
    !overlap (c.winStart a) (c.winLen a) (c.winStart b) (c.winLen b)) (List.range 16) &&
  (List.range 16).all (fun w => c.get Reg.LBB_WINw_CFG_PREFETCH w == 0 || c.flag Reg.LBB_WINw_CFG_MEMORY_LIKE w)

/-- A candidate table is absent or has passed its checks. -/
def tableOk {α : Type} : Option (Option α) → Bool
  | some none => false
  | _ => true

/-- The checks of block `k` for the writes `ws` of that block: none where they pass, else the faults that its chapter
names for the refusal. -/
def blockCheck (m c : Mod) (start : Bool) (k : Nat) (ws : List TxnWrite) : Option (List (Nat × Nat)) :=
  let ranges := ws.all (fun w => wordInRange c w.off)
  let verdict : Bool × List (Nat × Nat) :=
    match k with
    | 4 => (tableOk (candTask m c start), if tableOk (candTask m c start) then [] else [(0x50, 5)])
    | 6 =>
      let ok := tableOk (candDir m c) && (candNodes m c).isSome
      (ok && c.get Reg.CYC_BC_US_US % 250 == 0, if ok then [] else [(0x70, 1)])
    | 7 => ((List.range 2).all (fun s => c.get Reg.PRT_CTL_UNIT s == c.get Reg.SYS_PROFILE_TWIN_POS), [])
    | 9 =>
      let bad := (List.range c.canCount).filter (fun n => !tableOk (candMatrix m c n))
      (bad.isEmpty && (List.range c.canCount).all (canTimingOk c), bad.map (fun n => (0xE0 + n, 7)))
    | 10 => (tableOk (candMap m c start), if tableOk (candMap m c start) then [] else [(0xF0, 1)])
    | 11 => (lbbCheck c && tableOk (candSafe m c), [])
    | 12 => (dioCheck m c, if dioCheck m c && ranges then [] else [(0x100, 11)])
    | 13 => (tableOk (candClass m c), if tableOk (candClass m c) then [] else [(5, 1)])
    | 14 => (tableOk (candRate m c), if tableOk (candRate m c) then [] else [(0x120, 1)])
    | _ => (true, [])
  if ranges && verdict.1 then none else some verdict.2

/-! ### Installing tables and the effects of changed fields -/

/-- Gateway state (R408, R442): 0 STOPPED, 1 WAITING, 2 RUNNING, 3 NO_MAP. -/
def Mod.gwRefresh (m : Mod) : Mod :=
  let st := if m.gw.map.isNone then 3
    else if m.gw.run.isSome then 2
    else if m.gw.started && m.flag Reg.GW_CTL_ENABLE && m.unit == stACTIVE then 1
    else 0
  m.put Reg.GW_STATUS_STATE st

/-- A committed map comes into force (R412, R422): mailboxes that it does not assign become EMPTY, and the gateway's
last written bits are 0. -/
def Mod.gwSwap (m : Mod) : Mod :=
  match m.gw.next with
  | none => m
  | some g =>
    let old := (m.gw.map.map GwMap.mailboxes).getD []
    let m := (old.filter (fun x => !g.mailboxes.contains x)).foldl (fun a x => a.setMbState x.1 x.2 mbEMPTY) m
    let m := m.setGw (fun s => { s with map := some g, next := none, dest := [], seen := [] })
    ((m.put Reg.GW_STATUS_TABLE_PENDING 0).event 0x09F0 svNOTICE [g.id]).gwRefresh

/-- A rate table comes into force; a bucket whose entry changes is full (R505). -/
def Mod.putRates (m : Mod) (t : RateTable) : Mod :=
  let n : Mod := { m with dbk := { m.dbk with table := some t } }
  { n with dbk := { n.dbk with buckets := m.dbk.buckets.map (fun b =>
      if m.rateEntry b.code = n.rateEntry b.code then b
      else { b with tokens := ((n.rateEntry b.code).map (·.burst)).getD 0, next := 0 }) } }

/-- Tables of the blocks `p` that the candidate `c` of `m` names wait for their switch point, or come into force at once
where the chapter says so (R28, R437, R491, R504). -/
def Mod.installTables (a m c : Mod) (start : Bool) (p : Nat → Bool) : Mod :=
  let a := match candTask m c start, p 4 with
    | some (some t), true => (a.setTask (fun s => { s with pendingTable := some t })).put Reg.TASK_STATUS_TABLE_PENDING 1
    | _, _ => a
  let a := match candDir m c, p 6 with
    | some (some d), true => a.setCyc (fun s => { s with nextDir := some d })
    | _, _ => a
  let a := match candNodes m c, p 6 && rebased m c Reg.CYC_NODE_TABLE_BASE_OFFSET with
    | some ns, true => a.setCyc (fun s => { s with nodes := ns })
    | _, _ => a
  let a := if p 9 then (List.range c.canCount).foldl (fun b n =>
      match candMatrix m c n with
      | some (some x) => (b.setCan n (fun s => { s with next := some x })).put Reg.CAN_STATUS_TABLE_PENDING 1 n
      | _ => b) a else a
  let a := match candMap m c start, p 10 with
    | some (some g), true => (a.setGw (fun s => { s with next := some g })).put Reg.GW_STATUS_TABLE_PENDING 1
    | _, _ => a
  let a := match candSafe m c, p 11 with
    | some (some l), true => a.setLbb (fun s => { s with safe := l })
    | _, _ => a
  let a := match candClass m c, p 13 with
    | some (some l), true =>
      ({ a with fc := { a.fc with table := some l } } : Mod).event 0x00F0 svNOTICE [c.trd (c.base Reg.FC_CLASS_TABLE_OFFSET) 8 4]
    | _, _ => a
  match candRate m c, p 14 with
    | some (some t), true => a.putRates t
    | _, _ => a

/-- What follows from fields that have just changed from `old` (R52, R69, R191, R294, R321, R395, R403, R443, R477). -/
def Mod.fieldsApplied (m old : Mod) : Mod :=
  let m := (List.range 8).foldl (fun a n =>
    let on := a.flag Reg.CAN_CTL_ENABLE n
    let a := if on != old.flag Reg.CAN_CTL_ENABLE n then a.canEnable n on else a
    if a.flag Reg.CAN_MATRIX_CTL_RUN n then a else a.put Reg.CAN_STATUS_MATRIX_RUN 0 n) m
  let m := if m.flag Reg.LGR_CTL_MIRROR_EN then m
    else if m.unit = stSTANDBY then m else (m.put Reg.LGR_STATUS_MIRROR 0).put Reg.TWN_STATUS_SYNC_LOST 0
  let m := (List.range 2).foldl (fun a s =>
    a.setPrt s (fun t => { t with
      nvMode := a.get Reg.PRT_CTL_MODE s, nvUnit := a.get Reg.PRT_CTL_UNIT s, nvCascade := a.get Reg.PRT_CTL_CASCADE s
      nvExclude := a.get Reg.PRT_CTL_EXCLUDE_EN s, nvGuard := a.get Reg.PRT_GUARD_GUARD s
      nvWindowMs := a.get Reg.PRT_LATE_CFG_WINDOW_MS s, nvLimit := a.get Reg.PRT_LATE_CFG_LIMIT s })) m
  let m := (List.range 3).foldl (fun a p =>
    let on := a.flag Reg.LANE_CTL_INJ_ENABLE p
    let a := if old.flag Reg.LANE_CTL_INJ_ENABLE p && !on then a.event 0x0180 svNOTICE [p] else a
    (a.put Reg.LANE_STATUS_INJ_ENABLED (b2n on) p).put Reg.LANE_STATUS_MODE (b2n (a.split p)) p) m
  (m.dioDirs.dioRefresh.lbbRefresh).gwRefresh

/-- Blocks whose shadow applies at the next basic cycle start (R548). -/
def atCycleBlock (k : Nat) : Bool := k == 6 || k == 7 || k == 9 || k == 10 || k == 12
/-- Base registers whose value follows their table at a macrocycle start (R131, R251). -/
def atMacroWord (o : Nat) : Bool := o == 0x40004 || o == 0x60400

/-- CFG_TXN_STATUS.STATE after boundaries have passed (R548). -/
def Mod.applyingState (m : Mod) : Mod :=
  if m.get Reg.CFG_TXN_STATUS_STATE = 3 ∧ m.cfg.atCycle.isEmpty ∧ m.cfg.atMacro.isEmpty then
    (m.put Reg.CFG_TXN_STATUS_STATE 0).put Reg.CFG_TXN_BEGIN_BEGIN 0
  else m

/-- Refusal of a commit: nothing is applied (R548, R549). -/
def Mod.txnRefuse (m : Mod) (result block : Nat) : Mod :=
  ((m.put Reg.CFG_TXN_STATUS_BLOCK block).raise 0x130 2 0 [result, block]).txnClose result

/-- First write of each word in the order of the blocks; the last value of each word. -/
def lastWrites (ws : List TxnWrite) : List TxnWrite :=
  ((ws.map (·.off)).dedup).map (fun o => ⟨o, ((ws.filter (fun w => w.off == o)).getLast?.map (·.value)).getD 0⟩)

/-- Blocks in base order with the faults of those that refuse. A schedule is also held against the DIO watchdog (R468). -/
def refusals (m c : Mod) (start : Bool) (ws : List TxnWrite) : List (Nat × List (Nat × Nat)) :=
  (List.range 20).filterMap (fun k =>
    let l := ws.filter (fun w => blockOf w.off == k)
    let held := k == 12 && ws.any (fun w => blockOf w.off == 6)
    if l.isEmpty && !held then none else (blockCheck m c start k l).map (fun fs => (k, fs)))

def Mod.raiseAll (m : Mod) (fs : List (Nat × Nat)) : Mod := fs.foldl (fun a f => a.raise f.1 f.2) m

/-- Owner code of CFG_TXN_STATUS.OWNER (R563). -/
def ownerCode : Owner → Nat
  | .pair p => p + 1
  | .triad => 4
  | .mc => 5

/-- No basic cycle runs in BOOT and CONFIG: every block's boundary has come (notes/assumptions/10.md). -/
def Mod.noCycle (m : Mod) : Bool := m.unit == stBOOT || m.unit == stCONFIG

end Sys2Proof.Machine
end

