-- ==== Sys2Proof/Machine/Generation.lean ====
section
/-!
DEFINITION. Table swaps (R28, R131, R251), the commit of a transaction (R548, R549), the Tally key and its generations
(R530 to R535), and the start transaction (R536, R636).
-/

namespace Sys2Proof.Machine

/-! ### Swaps -/

/-- Release bookkeeping of tasks that the table describes and the sequencer does not know: release 0, ENABLED from
START_ENABLED (R220). -/
def Mod.newTasks (m : Mod) (t : TaskTable) : Mod :=
  (List.range 3).foldl (fun a o => (t.descs.getD o []).foldl (fun b d =>
    if b.task.dyn.any (fun y => y.pair == o && y.task == d.index) then b
    else (b.put Reg.TASK_Tn_STATUS_ENABLED (b2n d.startEnabled) o d.index).setTask (fun s =>
      { s with dyn := s.dyn ++ [⟨o, d.index, 0, none, none, false, none, []⟩] })) a) m

/-- The new task release table is in force (R131, R150, R502). -/
def Mod.putTable (m : Mod) (t : TaskTable) : Mod :=
  let m := m.setTask (fun s => { s with
    table := some t, dyn := s.dyn.map (fun y => if (t.descs.getD y.pair []).any (fun d => d.index == y.task) then y
      else { y with pendingTrig := none }) })
  (((m.newTasks t).checkOrphans m.gwByte)).event 0x03F0 svNOTICE [t.id]

/-- A committed task release table comes into force, its base register with it. -/
def Mod.taskSwap (m : Mod) : Mod :=
  match m.task.pendingTable with
  | none => m
  | some t =>
    let ws := m.cfg.atMacro.filter (fun w => w.off == 0x40004)
    let m := (m.applyWrites ws).setCfg (fun c => { c with atMacro := c.atMacro.filter (fun w => w.off != 0x40004) })
    (((m.setTask (fun s => { s with pendingTable := none })).put Reg.TASK_STATUS_TABLE_PENDING 0).putTable t).applyingState

/-- A committed schedule directory comes into force (R251); BASELINE shows that its case 0 does (R276). -/
def Mod.dirSwap (m : Mod) : Mod :=
  match m.cyc.nextDir with
  | none => m
  | some d =>
    let ws := m.cfg.atMacro.filter (fun w => w.off == 0x60400)
    let m := (m.applyWrites ws).setCfg (fun c => { c with atMacro := c.atMacro.filter (fun w => w.off != 0x60400) })
    let m := m.put Reg.CYC_COMPOSITION_BASELINE (b2n (m.get Reg.CYC_COMPOSITION_CASE == 0))
    ((m.setCyc (fun c => { c with dir := some d, nextDir := none })).event 0x05F0 svNOTICE [d.id]).applyingState

/-- The engine switches halves of the I/O copy area (R252, R279). -/
def Mod.iocSwap (m : Mod) : Mod :=
  match m.cyc.nextIoc with
  | none => m
  | some t =>
    let m := m.setCyc (fun c => { c with ioc := some t, nextIoc := none })
    ((m.put Reg.CYC_IOC_STATUS_PENDING 0).put Reg.CYC_IOC_STATUS_ACTIVE_HALF (1 - m.get Reg.CYC_IOC_STATUS_ACTIVE_HALF)).put
      Reg.CYC_IOC_STATUS_TABLE_ID_LO t.id

def Mod.canSwaps (m : Mod) : Mod := (List.range 8).foldl (fun a n => a.canSwap n) m

/-- The boundary of the blocks of R548 at a basic cycle start. -/
def Mod.cycleBoundary (m : Mod) : Mod :=
  let old := m
  let m := (m.applyWrites m.cfg.atCycle).setCfg (fun c => { c with atCycle := [] })
  let m := if old.cfg.atCycle.isEmpty then m else m.fieldsApplied old
  (m.iocSwap.canSwaps.gwSwap).applyingState

/-! ### The Tally key (R531, R532) -/

/-- `n` bytes of the flash from offset `o`; an erased byte reads 0xFF. -/
def keyBytes (k : TallyKey) (o n : Nat) : List Byte := (List.range n).map (fun i => (alGet k.flash (o + i)).getD 0xFF)
def keyRd (k : TallyKey) (o n : Nat) : Nat := leNat (keyBytes k o n)
def keyWrite (k : TallyKey) (o : Nat) (l : List Byte) : TallyKey :=
  { k with flash := (l.zipIdx).foldl (fun f b => if b.1 = 0xFF then alDel f (o + b.2) else alSet f (o + b.2) b.1) k.flash }

/-- A valid header copy: SEQ, CURRENT and FLAGS.TRIAL. -/
def keyHeader (k : TallyKey) (copy : Nat) : Option (Nat × Nat × Bool) :=
  let o := 0x100 * copy
  if keyRd k o 4 = 0x594C4154 ∧ crc32 (keyBytes k o 0xFC) = keyRd k (o + 0xFC) 4 then
    some (keyRd k (o + 8) 4, keyRd k (o + 0xC) 1 % 2, bitOf (keyRd k (o + 0xD) 1) 0)
  else none

/-- The header in force: its copy, SEQ, CURRENT and TRIAL. -/
def keyCurrent (k : TallyKey) : Option (Nat × Nat × Nat × Bool) :=
  match keyHeader k 0, keyHeader k 1 with
  | some a, some b => if a.1 < b.1 then some (1, b) else some (0, a)
  | some a, none => some (0, a)
  | none, some b => some (1, b)
  | none, none => none

/-- A header write: to the copy that is not in force, with SEQ one higher (R532). -/
def keySetHeader (k : TallyKey) (slot : Nat) (trial : Bool) : TallyKey :=
  let (copy, seq) := match keyCurrent k with
    | some (c, s, _, _) => (1 - c, s + 1)
    | none => (0, 1)
  let h : List Byte := leBytes 4 0x594C4154 ++ leBytes 2 1 ++ leBytes 2 0 ++ leBytes 4 seq ++ leBytes 1 slot ++
    leBytes 1 (b2n trial) ++ List.replicate 238 0
  keyWrite k (0x100 * copy) (h ++ leBytes 4 (crc32 h))

def slotBase (slot : Nat) : Nat := if slot = 0 then 0x10000 else 0x200000

/-! ### Generations (R533, R534) -/

/-- An item of the directory. -/
structure GenItem where
  type : Nat
  off : Nat
  len : Nat
  dest : Nat
  deriving DecidableEq, Repr

/-- Bits of a register word that lie in TX, RWL or LIVE fields. -/
def configMask (r : RegRow) : Nat :=
  (r.flds.map (fun f => if isShadowed f.acc || f.acc == .live then (2 ^ f.width - 1) * 2 ^ f.lo else 0)).sum

/-- Blocks that a REGISTERS entry may name (R534). -/
def genBlock (k : Nat) : Bool := (1 ≤ k && k ≤ 13) || k == 15

def regEntryOk (e : RegEntry) : Bool :=
  e.addr % 4 == 0 && genBlock (blockOf e.addr) &&
    match findReg e.addr with
    | none => false
    | some (r, _, _) => (e.mask &&& configMask r) == e.mask

/-- PROFILE passes R40 with TWIN_POS and the pair modes in range and reserved bits 0. -/
def profileOk (v : Nat) : Bool :=
  bitsOf v 10 22 == 0 && bitsOf v 8 2 ≤ 2 && !bitOf v 7 && bitsOf v 1 3 == 0 && (!bitOf v 0 || bitsOf v 4 3 == 0)

def genItems (rd : Nat → Nat → Nat) : List GenItem :=
  (List.range (rd 6 2)).map (fun i =>
    let o := 0x100 + 16 * i
    ⟨rd o 2, rd (o + 4) 4, rd (o + 8) 4, rd (o + 12) 4⟩)

def itemOk (len : Nat) (e : GenItem) : Bool :=
  e.off % 16 == 0 && e.off + e.len ≤ len &&
    match e.type with
    | 1 => e.len % 12 == 0 && e.dest == 0
    | 2 => 16 ≤ e.len && e.len ≤ 0x200000 && e.dest % 16 == 0 && e.dest + e.len ≤ 0x400000 && 0x40000 ≤ e.dest
    | 3 => e.len ≤ 4096 && e.dest == 0
    | 4 => e.len == 96 && e.dest == 0
    | _ => false

/-- The image as bytes with the checks of R534 but the signature. -/
def parseGeneration (rd : Nat → Nat → Nat) (by_ : Nat → Nat → List Byte) : Option Generation :=
  let n := rd 6 2
  let len := rd 0xC 4
  let items := genItems rd
  let regs := (items.filter (·.type == 1)).flatMap (fun e => (List.range (e.len / 12)).map (fun i =>
    (⟨rd (e.off + 12 * i) 4, rd (e.off + 12 * i + 4) 4, rd (e.off + 12 * i + 8) 4⟩ : RegEntry)))
  let tabs := items.filter (·.type == 2)
  let co := rd 0x2C 4
  let cl := rd 0x30 4
  if rd 0 4 = 0x4E454754 ∧ rd 4 2 = 1 ∧ 1 ≤ n ∧ n ≤ 512 ∧ len ≤ 2031616 ∧ 0x100 + 16 * n ≤ len ∧ rd 0x1C 1 ≤ 1 ∧
      (by_ 0x1D 3).all (· == 0) ∧ profileOk (rd 0x20 4) ∧ rd 0x24 4 ≠ 0 ∧ rd 0x2A 2 = 0 ∧ co % 4096 = 0 ∧ cl % 4096 = 0 ∧
      co + cl ≤ 0x400000 ∧ (by_ 0x34 92).all (· == 0) ∧ (by_ 0xF0 16).all (· == 0) ∧
      (List.range n).all (fun i => rd (0x100 + 16 * i + 2) 2 == 0) ∧ items.all (itemOk len) ∧
      allPairs (fun a b => !overlap a.dest a.len b.dest b.len) tabs ∧ tabs.all (fun t => cl == 0 || !overlap t.dest t.len co cl) ∧
      regs.all regEntryOk then
    some ⟨rd 8 4, rd 0x20 4, rd 0x24 4, rd 0x28 2, co, cl, regs, tabs.map (fun e => (e.dest, by_ e.off e.len))⟩
  else none

/-- The owner key (R554). -/
def Mod.ownerKey (m : Mod) : Option (List Byte) := m.sec.ownerCert.bind Config.certKey

/-- The signature of an image verifies under R554. -/
def Mod.genSigned (m : Mod) (rd : Nat → Nat → Nat) (by_ : Nat → Nat → List Byte) : Bool :=
  let len := rd 0xC 4
  let msg := by_ 0 0x90 ++ List.replicate 96 0 ++ by_ 0xF0 (len - 0xF0)
  let sig := by_ 0x90 96
  let item := fun t => (genItems rd).find? (fun e => e.type == t)
  match m.ownerKey with
  | none => false
  | some k =>
    if rd 0x1C 1 = 0 then Config.ecdsaVerify k msg sig
    else match item 3, item 4 with
      | some c, some b =>
        Config.ecdsaVerify k (by_ c.off c.len) (by_ b.off 96) &&
          (match Config.certKey (by_ c.off c.len) with
           | some dk => Config.ecdsaVerify dk msg sig
           | none => false)
      | _, _ => false

/-- The generation in `slot` of the key, if the module accepts it (R534). -/
def Mod.acceptGen (m : Mod) (k : TallyKey) (slot : Nat) : Option Generation :=
  let rd := fun o n => keyRd k (slotBase slot + o) n
  let by_ := fun o n => keyBytes k (slotBase slot + o) n
  match parseGeneration rd by_ with
  | some g => if m.genSigned rd by_ then some g else none
  | none => none

/-! ### Making a generation (R549) -/

/-- Every TX, RWL and LIVE field in force of the registers that a generation may name. -/
def Mod.configRegs (m : Mod) : List RegEntry :=
  Reg.all.flatMap (fun r =>
    let mask := configMask r
    if mask = 0 ∨ !genBlock (blockOf r.off) then []
    else (List.range r.n1).flatMap (fun i => (List.range r.n2).map (fun j =>
      let o := r.off + r.s1 * i + r.s2 * j
      ⟨o, m.wordAt o (fun a => isShadowed a || a == .live), mask⟩)))

def pad16 (l : List Byte) : List Byte := l ++ List.replicate ((16 - l.length % 16) % 16) 0

/-- Directory and bodies of items laid out from offset `o` on. -/
def layItems : Nat → List (Nat × Nat × List Byte) → List Byte × List Byte
  | _, [] => ([], [])
  | o, (t, dest, b) :: r =>
    let (d, bs) := layItems (o + (pad16 b).length) r
    (leBytes 2 t ++ leBytes 2 0 ++ leBytes 4 o ++ leBytes 4 b.length ++ leBytes 4 dest ++ d, pad16 b ++ bs)

/-- The new generation as bytes, signed by the secure element (R549). The order of its items is the model's
(notes/assumptions/11.md). -/
def Mod.makeGeneration (m : Mod) (g : Generation) : List Byte :=
  let regs := m.configRegs.flatMap (fun e => leBytes 4 e.addr ++ leBytes 4 e.value ++ leBytes 4 e.mask)
  let items := [(1, 0, regs)] ++ g.tables.map (fun t => (2, t.1, t.2)) ++ [(3, 0, m.sec.deviceCert), (4, 0, m.sec.binding)]
  let (dir, body) := layItems (0x100 + 16 * items.length) items
  let head := fun (sig : List Byte) =>
    leBytes 4 0x4E454754 ++ leBytes 2 1 ++ leBytes 2 items.length ++ leBytes 4 (g.number + 1) ++
      leBytes 4 (0x100 + dir.length + body.length) ++ leBytes 8 m.secs ++ leBytes 4 m.nanos ++ [1, 0, 0, 0] ++
      leBytes 4 g.profile ++ leBytes 4 g.consistId ++ leBytes 2 g.consistType ++ [0, 0] ++ leBytes 4 g.changeOff ++
      leBytes 4 g.changeLen ++ List.replicate 92 0 ++ sliceB sig 0 96 ++ List.replicate 16 0
  let unsigned := head [] ++ dir ++ body
  head (Config.deviceSign (m.sec.deviceKey.getD 0) unsigned) ++ dir ++ body

/-! ### The commit of a transaction (R548, R549) -/

/-- The writes of a commit apply: at once, or at the boundary of their block. -/
def Mod.txnApply (m : Mod) (owner : Owner) (ws : List TxnWrite) (persist : Bool) : Mod :=
  let c := m.applyWrites ws
  let last := lastWrites ws
  let later := fun (w : TxnWrite) => !m.noCycle && (atCycleBlock (blockOf w.off) || atMacroWord w.off)
  let now_ := last.filter (fun w => !later w)
  let cyc := last.filter (fun w => later w && !atMacroWord w.off)
  let mac := last.filter (fun w => later w && atMacroWord w.off)
  let old := m
  let n := m.get Reg.CFG_TXN_STATUS_WRITES
  let a := ((m.applyWrites now_).fieldsApplied old).installTables old c false (fun _ => true)
  let a := if m.noCycle then ((a.taskSwap.dirSwap).iocSwap.canSwaps).gwSwap else a
  let a := (a.txnClose 1).setCfg (fun s => { s with atCycle := s.atCycle ++ cyc, atMacro := s.atMacro ++ mac })
  let a := if cyc.isEmpty && mac.isEmpty then a else (a.put Reg.CFG_TXN_STATUS_STATE 3).put Reg.CFG_TXN_BEGIN_BEGIN 1
  let newGen := if persist then ((m.cfg.gen.map (·.number)).getD 0) + 1 else 0
  let a := a.event 0x0D80 svNOTICE [ownerCode owner, n, newGen]
  match persist, m.cfg.gen with
  | true, some g =>
    (a.setCfg (fun s => { s with writing := some (1 - m.get Reg.CFG_KEY_STATUS_SLOT, c.makeGeneration g) })).put
      Reg.CFG_KEY_STATUS_WRITING 1
  | _, _ => a

/-- A commit of `owner` with its list of writes (R548, R549). -/
def Mod.txnCommit (m : Mod) (owner : Owner) (ws : List TxnWrite) (persist overflow : Bool) : Mod :=
  let blk := m.get Reg.CFG_TXN_STATUS_BLOCK
  if persist && (!m.flag Reg.CFG_KEY_STATUS_PRESENT || !m.flag Reg.CFG_KEY_STATUS_SAME_KEY) then m.txnRefuse 5 blk
  else if persist && (m.flag Reg.SYS_STATE_TRIAL || m.flag Reg.CFG_KEY_STATUS_WRITING || !m.flag Reg.SEC_STATUS_DEVICE_KEY) then
    m.txnRefuse 6 blk
  else if overflow then m.txnRefuse 2 15
  else
    match refusals m (m.applyWrites ws) false ws with
    | [] => m.txnApply owner ws persist
    | (k, fs) :: r => ((((k, fs) :: r).foldl (fun a x => a.raiseAll x.2) m)).txnRefuse 2 k

/-! ### The start transaction (R536 step 3, R636) -/

def Mod.placeTables (m : Mod) (g : Generation) : Mod := g.tables.foldl (fun a t => a.wrBytes (tableBase + t.1) t.2) m

/-- REGISTERS entries in their order as whole-word writes over the values in force. -/
def Mod.regWrites (m : Mod) : List RegEntry → List TxnWrite
  | [] => []
  | e :: es =>
    let cur := m.wordAt e.addr (fun a => isShadowed a || a == .live)
    let w : TxnWrite := ⟨e.addr, (cur - (cur &&& e.mask)) + (e.value &&& e.mask)⟩
    w :: (m.putWord w.off w.value (fun a => isShadowed a || a == .live)).regWrites es

/-- The generation's I/O copy table goes into the inactive half (R252; notes/assumptions/12.md): none where it has none,
`some none` where it is refused. -/
def Generation.ioc (g : Generation) : Option (Option IocTable × List Byte) :=
  (g.tables.find? (fun t => listLE t.2 0 4 == 0x434F4946)).map (fun t =>
    (match parseIoc (fun o n => listLE t.2 o n) (fun o n => sliceB t.2 o n) with
     | some x => if localOk x then some x else none
     | none => none, t.2))

/-- SYS_PROFILE from the generation (R562). -/
def Mod.putProfile (m : Mod) (v : Nat) : Mod := m.putWord 0x10 v isShadowed

/-- Generation `g` in `slot` is applied as the start transaction: block by block, refused blocks keep their reset values
(R636). The state becomes STARTING and CYC LISTENING (R536). -/
def Mod.startApply (m : Mod) (g : Generation) (slot : Nat) : Mod :=
  let m := (m.placeTables g).putProfile g.profile
  let (m, iocBad) := match g.ioc with
    | none => (m, false)
    | some (some t, b) =>
      let m := m.wrBytes (iocBase + 0x300000 * (1 - m.get Reg.CYC_IOC_STATUS_ACTIVE_HALF)) b
      ((m.setCyc (fun c => { c with nextIoc := some t })).iocSwap, false)
    | some (none, _) => (m.raise 0x70 2, true)
  let ws := m.regWrites g.registers
  let c := ws.foldl (fun a w => a.putWord w.off w.value (fun x => isShadowed x || x == .live)) m
  let bad := refusals m c true ws
  let ok := fun (k : Nat) => !bad.any (fun b => b.1 == k)
  let old := m
  let a := (ws.filter (fun w => ok (blockOf w.off))).foldl (fun a w => a.putWord w.off w.value (fun x => isShadowed x || x == .live)) m
  let a := (a.fieldsApplied old).installTables old c true ok
  let a := ((a.taskSwap.dirSwap).canSwaps).gwSwap
  let a := bad.foldl (fun x b => x.raiseAll b.2) a
  let refused := !bad.isEmpty || iocBad
  let first := if iocBad && (bad.head?.map (·.1)).getD 20 > 6 then 6 else (bad.head?.map (·.1)).getD 0
  let a := if refused then (a.put Reg.CFG_TXN_STATUS_RESULT 2).put Reg.CFG_TXN_STATUS_BLOCK first
    else a.put Reg.CFG_TXN_STATUS_RESULT 1
  let a := a.setCfg (fun s => { s with
    gen := some g, locked := true, startGen := g.number, safeAtStart := s.safeAtStart || refused })
  let a := ((a.put Reg.CFG_GENERATION_GENERATION g.number).put Reg.CFG_KEY_STATUS_SLOT slot).put Reg.CYC_STATUS_ROLE 1
  (a.event 0x0D83 svINFO [g.number, slot, g.profile]).setState stSTARTING

end Sys2Proof.Machine
end

