-- ==== Sys2Proof/Machine/Package.lean ====
section
/-!
DEFINITION. Update packages: header and part entries (R567, R568), verification by the secure element (R570) and the
compatibility check (R575).
-/

namespace Sys2Proof.Machine

/-! ### The package as bytes -/

/-- A version of three bytes major, minor, patch as [23:16], [15:8], [7:0]. -/
def verBytes (rd : Nat → Nat → Nat) (o : Nat) : Nat := rd o 1 * 65536 + rd (o + 1) 1 * 256 + rd (o + 2) 1

def parsePart (rd : Nat → Nat → Nat) (by_ : Nat → Nat → List Byte) (o : Nat) : PkgPart where
  part := rd o 1
  enc := bitOf (rd (o + 1) 1) 0
  keyId := rd (o + 2) 1
  version := rd (o + 4) 4
  off := rd (o + 8) 4
  len := rd (o + 12) 4
  nonce := by_ (o + 16) 12
  digest := by_ (o + 0x20) 48
  reqs := (List.range 6).map (fun i => ⟨rd (o + 0x50 + 8 * i) 1, verBytes rd (o + 0x51 + 8 * i), verBytes rd (o + 0x55 + 8 * i)⟩)

/-- Ranges and reserved fields of a part entry; a part is encrypted where R569 says so. -/
def partFieldsOk (rd : Nat → Nat → Nat) (by_ : Nat → Nat → List Byte) (o total : Nat) : Bool :=
  let p := parsePart rd by_ o
  1 ≤ p.part && p.part ≤ 7 && bitsOf (rd (o + 1) 1) 1 7 == 0 && rd (o + 3) 1 == 0 && p.version < 2 ^ 24 &&
    p.off % 16 == 0 && p.off + p.len ≤ total && rd (o + 0x1C) 4 == 0 && (p.enc == (p.part ≤ 5)) &&
    (p.enc || (p.keyId == 0 && p.nonce.all (· == 0))) && (!p.enc || 16 ≤ p.len) &&
    (List.range 6).all (fun i => rd (o + 0x50 + 8 * i) 1 ≤ 9 && rd (o + 0x54 + 8 * i) 1 == 0)

/-- The package, unless R572 code 7 refuses its header or entries. -/
def parsePackage (rd : Nat → Nat → Nat) (by_ : Nat → Nat → List Byte) (len : Nat) : Option Package :=
  let n := rd 6 1
  let total := rd 12 4
  let os := (List.range n).map (fun i => 64 + 128 * i)
  let nums := os.map (fun o => rd o 1)
  if rd 0 4 = 0x474B5055 ∧ rd 4 2 = 1 ∧ 1 ≤ n ∧ n ≤ 7 ∧ rd 7 1 < 2 ∧ total ≤ 268435456 ∧ total ≤ len ∧
      64 + 128 * n + 192 ≤ total ∧ rd 0x10 1 < 4 ∧ rd 0x13 1 = 0 ∧ (by_ 0x1C 36).all (· == 0) ∧
      os.all (fun o => partFieldsOk rd by_ o total && 64 + 128 * n + 192 ≤ rd (o + 8) 4) ∧ nums.Nodup then
    some ⟨rd 8 4, bitOf (rd 7 1) 0, total, rd 0x10 1, rd 0x11 1, rd 0x12 1, os.map (parsePart rd by_)⟩
  else none

/-- The plaintext of a part's payload (R570 step 3). The part entry is the additional authenticated data. -/
def partPlain (by_ : Nat → Nat → List Byte) (i : Nat) (p : PkgPart) : Option (List Byte) :=
  let payload := by_ p.off p.len
  if p.enc then Config.gcmOpen p.keyId p.nonce (by_ (64 + 128 * i) 128) payload else some payload

/-- SIG_OWNER and, with a part from 1 to 5, SIG_VENDOR (R570 steps 1 and 2). -/
def Mod.pkgSigned (m : Mod) (by_ : Nat → Nat → List Byte) (g : Package) : Bool :=
  let n := g.parts.length
  let msg := by_ 0 (64 + 128 * n)
  let o := 64 + 128 * n
  (match m.ownerKey with
   | none => false
   | some k => Config.ecdsaVerify k msg (by_ (o + 96) 96)) &&
  (!g.parts.any (fun p => p.part ≤ 5) || (g.vendor && Config.ecdsaVerify Config.releaseKey msg (by_ o 96)))

/-- A CFG payload passes R534. -/
def Mod.cfgPayloadOk (m : Mod) (l : List Byte) : Bool :=
  (parseGeneration (listLE l) (sliceB l)).isSome && m.genSigned (listLE l) (sliceB l)

/-- The plaintexts of a verified package, or the part that fails R570 (0: a signature of the whole). -/
def Mod.verifyPackage (m : Mod) (by_ : Nat → Nat → List Byte) (g : Package) : Except Nat (List (Nat × List Byte)) :=
  if !m.pkgSigned by_ g then .error 0
  else
    (g.parts.zipIdx).foldl (fun acc x =>
      match acc with
      | .error e => .error e
      | .ok l =>
        match partPlain by_ x.2 x.1 with
        | none => .error x.1.part
        | some t =>
          if Config.sha384 t = x.1.digest ∧ (x.1.part ≠ 6 ∨ m.cfgPayloadOk t) then .ok (l ++ [(x.1.part, t)]) else .error x.1.part)
      (.ok [])

/-! ### Compatibility (R575) -/

def FwPart.version (f : FwPart) (slot : Nat) : Nat := f.versions.getD slot 0
def FwPart.req (f : FwPart) (slot : Nat) : List UpdReq := f.reqs.getD slot []

/-- Highest valid, unheld map record: what R186 selects. -/
def Mod.selectedMap (m : Mod) : Option (Nat × MapRec) :=
  (m.lgr.maps.filter (fun x => !x.2.held)).foldl (fun b x =>
    match b with
    | none => some x
    | some y => if y.2.commit < x.2.commit then some x else some y) none

/-- A candidate set of firmware parts: number, version and requirements. -/
abbrev Candidate := List (Nat × Nat × List UpdReq)

/-- The running parts, with those of `ps` in their place. -/
def Mod.candidate (m : Mod) (ps : List PkgPart) : Candidate :=
  (m.upd.slots.filter (fun f => !ps.any (fun p => p.part == f.part))).map (fun f => (f.part, f.version f.cur, f.req f.cur)) ++
    ps.map (fun p => (p.part, p.version, p.reqs))

/-- One requirement against the candidate set and the FORMATs (1 each, R182, R533). -/
def reqOk (c : Candidate) (r : UpdReq) : Bool :=
  if r.rpart = 0 then true
  else if r.rpart = 8 ∨ r.rpart = 9 then r.min ≤ 1 && 1 ≤ r.max
  else match c.find? (fun x => x.1 == r.rpart) with
    | some x => r.min ≤ x.2.1 && x.2.1 ≤ r.max
    | none => false

/-- The first part of the candidate set whose requirements fail, as `some part`; 0 for the header's checks (R575). -/
def Mod.compatFails (m : Mod) (g : Package) (c : Candidate) : Option Nat :=
  let rev := m.get Reg.SYS_HWREV_REV
  if !bitOf g.variant (if m.is3110 then 0 else 1) || rev < g.hwMin || g.hwMax < rev then some 0
  else (c.find? (fun x => !x.2.2.all (reqOk c))).map (·.1)

end Sys2Proof.Machine
end

