-- ==== Sys2Proof/Machine/PorterOps.lean ====
section
/-!
DEFINITION. What other parts use of the Porters: channels as CYC sees them, fault sources (R320), states (R322), status
messages (R339) and the reset of a Porter (R305, R325).
-/

namespace Sys2Proof.Machine

def Mod.chan (m : Mod) (ch : Nat) : ChanState := m.cyc.channels.getD ch ⟨false, false⟩
def Mod.setChan (m : Mod) (ch : Nat) (f : ChanState → ChanState) : Mod :=
  m.setCyc (fun c => { c with channels := updAt c.channels ch f })
/-- Source of port `p` of Porter `s`, and of its control (R320). -/
def portSource (s p : Nat) : Nat := 0x90 + 0x20 * s + p
def prtControl (s : Nat) : Nat := 0xAF + 0x20 * s

/-- PORT_NODE of a port in the directory in force. -/
def Mod.portNode (m : Mod) (s p : Nat) : Nat := (((m.prtSt s).current.map (·.portNode)).getD []).getD p 0

/-- A fault of a port, with its PORT_NODE (R320). -/
def Mod.portFault (m : Mod) (s p kind : Nat) : Mod := m.raise (portSource s p) kind 0 [m.portNode s p]

/-- Porter states (R322). -/
def psRESET : Nat := 0
def psLOADING : Nat := 1
def psUNCONFIGURED : Nat := 2
def psLISTEN : Nat := 3
def psCOLDHOLD : Nat := 4
def psSYNC : Nat := 5
def psFREERUN : Nat := 6
def psRELAY : Nat := 7

def Mod.prtState (m : Mod) (s : Nat) : Nat := m.get Reg.PRT_STATUS_STATE s
/-- Lane on which Porter `s` reports, with its status message (R339). At most four faults fit one message. -/
def Mod.statusMessage (m : Mod) (s : Nat) : Mod :=
  if !m.hasTwin then m
  else
    let st := (m.wordAt (0x70004 + 0x8000 * s) (fun _ => true))
    let ex := bitSet ((List.range 24).filter (fun p => m.flag Reg.PRT_Pp_STATUS_EXCLUDED s p))
    let mine := (m.twn.porterFaults.filter (fun x => x.1 == s)).take 4
    let id := if m.flag Reg.PRT_STATUS_DIR_STAGED s then ((m.prtSt s).staged.map (·.id)).getD 0 else 0
    let rest := (m.twn.porterFaults.filter (fun x => x.1 == s)).drop 4
    (m.emit (.porterStatus s ⟨st, ex, id, mine.map (fun x => BitVec.ofNat 64 x.2)⟩)).setTwn (fun w => { w with
      porterFaults := w.porterFaults.filter (fun x => x.1 != s) ++ rest })

/-- A fault of a Porter: to this module's collector and, in a twin, with the next status message (R320, R339). -/
def Mod.prtRaise (m : Mod) (s source kind : Nat) (snaps : List Nat) : Mod :=
  let m := m.raise source kind 0 snaps
  if m.hasTwin then m.setTwn (fun w => { w with porterFaults := w.porterFaults ++ [(s, faultMsg source kind 0 false false false 0)] })
  else m

def Mod.prtPortFault (m : Mod) (s p kind : Nat) : Mod := m.prtRaise s (portSource s p) kind [m.portNode s p]
def Mod.prtControlFault (m : Mod) (s kind : Nat) : Mod := m.prtRaise s (prtControl s) kind []

/-- PRT_STATUS.STATE and FORWARDING (R305), and the channel as CYC_STATUS shows it. -/
def Mod.setPrtState (m : Mod) (s v : Nat) : Mod :=
  let f := b2n (3 ≤ v)
  let m := (m.put Reg.PRT_STATUS_STATE v s).put Reg.PRT_STATUS_FORWARDING f s
  if (m.chan s).lost then m else m.put (if s = 0 then Reg.CYC_STATUS_CH_A_OK else Reg.CYC_STATUS_CH_B_OK) f

/-- The master port changes: a status message follows within 5 µs (R339). -/
def Mod.setMasterPort (m : Mod) (s p : Nat) : Mod :=
  if m.get Reg.PRT_STATUS_MASTER_PORT s = p then m else (m.put Reg.PRT_STATUS_MASTER_PORT p s).statusMessage s

/-- A Porter resets (R305, R325): exclusions, LATE_IN_WINDOW and DISC_SEEN clear, its counters stay. -/
def Mod.porterReset (m : Mod) (s : Nat) : Mod :=
  if m.prtState s = psRESET then m
  else
    let m := (List.range 27).foldl (fun a p =>
      ((((a.put Reg.PRT_Pp_STATUS_EXCLUDED 0 s p).put Reg.PRT_Pp_STATUS_LATE_IN_WINDOW 0 s p).put Reg.PRT_Pp_STATUS_DISC_SEEN 0 s p).put
        Reg.PRT_Pp_STATUS_LINK 0 s p).put Reg.PRT_Pp_STATUS_TEST 0 s p) m
    let m := m.setPrt s (fun t => { t with
      used := [], busy := [], lateSince := [], pollCycle := none, surrenderCycle := none, claimCycle := none, next := none })
    let m := (m.put Reg.PRT_STATUS_MASTER_PORT 0x1F s).put Reg.PRT_STATUS_CASCADE_OK 0 s
    let m := (m.put Reg.PRT_STATUS_FREE_RUN_CYCLES 0 s).setPrtState s psRESET
    m.prtControlFault s 8

end Sys2Proof.Machine
end

