-- ==== Sys2Proof/Machine/ResetOps.lean ====
section
/-!
DEFINITION. What a reset of the SoC leaves (R67, R513, R543): the non-volatile memories, the secure element, the Porters
and the DIO island, which run on (R18, R453, R614), and after a reset that is no power cycle the TIM block and what the
manual counts since power-up.
-/

namespace Sys2Proof.Machine

/-- Fields that count since power-up, with their instances: a reset that is no power cycle keeps them
(notes/assumptions/19.md). -/
def powerUpCounters : List (Fld × Nat × Nat) :=
  [(Reg.CYC_MISSES_TOTAL, 1, 1), (Reg.CYC_ERRORS_DCHK, 1, 1), (Reg.CYC_ERRORS_DISCARDS, 1, 1), (Reg.TWN_TAKEOVER_COUNT, 1, 1),
   (Reg.DBK_STATUS_PEAK, 1, 1), (Reg.DBK_DROPPED_TOTAL, 1, 1), (Reg.CFG_KEY_STATUS_REMOVALS, 1, 1),
   (Reg.LANE_RESTARTS_TOTAL, 3, 1), (Reg.LANE_CMP_TEST_PASS_COUNT, 3, 1), (Reg.SCL_LAG_COUNTn_TOTAL, 3, 1),
   (Reg.SCL_DISAGREE_COUNTn_TOTAL, 3, 1), (Reg.TASK_Tn_SKIPS_TOTAL, 3, 48), (Reg.CAN_ERRCNT_BUSOFFS, 8, 1),
   (Reg.SYS_STATE_LOCKSTEP_BROKEN, 1, 1), (Reg.SYS_HOLDUP_INTERRUPTIONS, 1, 1), (Reg.SYS_TEMP_PEAK_C, 1, 1)]

def keptCounter (k : Nat) : Bool :=
  powerUpCounters.any (fun x => (List.range x.2.1).any (fun i => (List.range x.2.2).any (fun j => x.1.key i j == k)))

/-- Register fields that every reset of the SoC keeps, by their place: identity, measured values, Porters, DIO island,
update state, secure element and DBG_STATUS. -/
def keptField (k : Nat) : Bool :=
  let o := k / 32
  let b := o / 0x10000
  o < 0x10 || o == 0x20 || (o == 0x24 && k != Reg.SYS_HOLDUP_INTERRUPTIONS.key 0 0) ||
    (o == 0x414 && k != Reg.SYS_TEMP_PEAK_C.key 0 0) || b == 7 || b == 12 || o == 0x100004 || o == 0x100008 ||
    o == 0x110000 || o == 0x110008 || o == 0x120000

/-- Fields that a reset keeps that is no power cycle: the TIM block but its triggers (R513), counters and DBG_CTL. -/
def keptWarm (k : Nat) : Bool :=
  let o := k / 32
  (o / 0x10000 == 1 && !(0x10100 ≤ o && o < 0x10200)) || keptCounter k || o == 0x120004

/-- A commit that the reset cuts short leaves no valid record in its slot (R185; notes/assumptions/20.md). -/
def Mod.cutCommit (m : Mod) : List (Nat × MapRec) :=
  if m.lgr.commit.isSome then m.lgr.maps.filter (fun x => x.1 != m.nextSlot (m.get Reg.LGR_SLOT_SLOT)) else m.lgr.maps

/-- A register word with all of its fields. -/
def Mod.word (m : Mod) (o : Nat) : Nat := m.wordAt o (fun _ => true)

/-- A power fault with SYS_SUPPLY_MV, SYS_HOLDUP and SYS_TEMP (R618). -/
def Mod.powerFault (m : Mod) (source kind : Nat) : Mod := m.raise source kind 0 [m.word 0x20, m.word 0x24, m.word 0x414]

/-- The bank's capacitance is measured at each start (R602); between power-ups the model keeps what SUPPLY_ON has measured. -/
def Mod.bankMeasured (m : Mod) : Mod := if m.flag Reg.SYS_HOLDUP_DEGRADED then m.powerFault 0x171 4 else m

/-- The SoC restarts and enters BOOT (R543). `power`: a power cycle of R67, with module time from the Daybook (R513);
`cause`: the bit of SYS_RESET_CAUSE. -/
def Mod.restart (m : Mod) (power : Option Nat) (cause : Fld) : Mod :=
  let cold := power.isSome
  let old := m.unit
  let z : Mod := { Mod.reset with
    regs := m.regs.filter (fun e => keptField e.1 || (!cold && keptWarm e.1))
    mem := m.mem.filter (fun c => mramBase ≤ c.1 && c.1 < mramBase + 0x4000000)
    now := if cold then 0 else m.now
    modTime := power.getD m.modTime
    free := m.free, out := m.out, resp := m.resp
    tim := if cold then .reset else { m.tim with armed := [] }
    cfg := { CfgState.reset with key := m.cfg.key }
    sec := { m.sec with
      sessions := [], nonces := if cold then m.sec.nonces.map (fun x => (x.1, x.2 - m.now)) else m.sec.nonces
      armedUntil := if cold then m.sec.armedUntil.map (· - m.now) else m.sec.armedUntil }
    lgr := { LgrState.reset with
      maps := m.cutCommit, commits := m.lgr.commits, bad := m.lgr.bad, lastState := m.lgr.lastState
      safeLatch := m.lgr.safeLatch, updEntry := m.lgr.updEntry }
    chg := { ChgState.reset with
      current := m.chg.current, pendingSet := m.chg.pendingSet, previous := m.chg.previous, session := m.chg.session }
    prt := m.prt
    dio := m.dio
    upd := { m.upd with
      quiescing := false, quiesceCycles := 0, plain := [], runSince := none, unreadable := false, fallbackDue := none, sagAt := none
      restSince := none, cycleClean := true }
    env := { m.env with low := false } }
  let z := (((z.put Reg.TIM_CTL_STEP 0).put Reg.SYS_RESET_CAUSE_POWER_ON 0).put cause 1).put Reg.SYS_STATE_TRIAL
    (b2n (m.get Reg.UPD_STATE_STATE == 2))
  let z := if z.get Reg.UPD_STATE_PHASE = 1 then (z.put Reg.UPD_STATE_PHASE 0).put Reg.UPD_STATE_STATE 0 else z
  let z := if m.get Reg.UPD_STATE_STATE = 2 then
      (z.put Reg.UPD_CLEAN_COUNT m.upd.boot.clean).put Reg.UPD_CONFIRM_REMAIN_SECONDS m.upd.boot.remain
    else z.put Reg.UPD_CLEAN_COUNT (m.get Reg.UPD_CLEAN_COUNT)
  let z := if old = stBOOT then z else z.event 0x0085 svINFO [old, stBOOT]
  let z := z.dioRefresh.lbbRefresh
  if cause = Reg.SYS_RESET_CAUSE_POWER_ON ∨ cause = Reg.SYS_RESET_CAUSE_THERMAL then z else z.bankMeasured

end Sys2Proof.Machine
end

