-- ==== Sys2Proof/Machine/TestOps.lean ====
section
/-!
DEFINITION. The link pattern tests of the TEST block (R318, R615, R616).
-/

namespace Sys2Proof.Machine

/-- Porter and port of a T1 link (R615). -/
def linkPort (l : Nat) : Option (Nat × Nat) :=
  if l < 24 then some (0, l) else if l < 48 then some (1, l - 24)
  else if l < 50 then some (0, l - 24) else if l < 52 then some (1, l - 26) else none

/-- Link `l` of the variant (R286, R364, R615). -/
def Mod.linkPresent (m : Mod) (l : Nat) : Bool :=
  match linkPort l with
  | some (_, p) => if m.is3110 then p < 12 || p == 24 else true
  | none => if l < 60 then l - 52 < m.canCount else if l < 63 then true else l == 63 && !m.is3110

/-- The refusal of R616 that follows from the state of the unit and of the link: codes 1 and 2. -/
def Mod.testBarred (m : Mod) (l : Nat) : Option Nat :=
  let rest := m.unit == stCONFIG || m.unit == stSAFE
  match linkPort l with
  | some (s, p) =>
    if m.get Reg.PRT_STATUS_MASTER_PORT s = p then some 1
    else if (p = 24 ∧ m.get Reg.PRT_CTL_CASCADE s = 1 ∨ p = 25 ∧ m.get Reg.PRT_CTL_CASCADE s = 2) ∧ !rest then some 2
    else none
  | none =>
    if l < 60 then (if m.unit = stACTIVE then some 2 else none)
    else if l < 62 then (if rest then none else some 2)
    else none

/-- The refusal of R616, in code order; `svc`: the service port of the session that issued the command. -/
def Mod.testRefusal (m : Mod) (l loop : Nat) (svc : Option Nat) : Option Nat :=
  match m.testBarred l with
  | some c => some c
  | none =>
    if svc.map (· + 62) = some l then some 3
    else if loop ≠ 0 ∧ ((linkPort l).isSome ∨ 62 ≤ l) then some 5
    else none

/-- The test of link `l` ends, with a refusal code or 0. -/
def Mod.testEnd (m : Mod) (l code : Nat) : Mod :=
  let m := ((m.put Reg.TEST_Ll_STATUS_RUNNING 0 l).put Reg.TEST_Ll_STATUS_LOCK 0 l).put Reg.TEST_Ll_STATUS_REFUSE code l
  match linkPort l with
  | some (s, p) => m.put Reg.PRT_Pp_STATUS_TEST 0 s p
  | none => m

/-- A test of link `l` is ordered (R616). An absent link has no registers (R2). -/
def Mod.testStart (m : Mod) (l loop : Nat) (svc : Option Nat) : Mod :=
  if !m.linkPresent l then m
  else match m.testRefusal l loop svc with
  | some c => m.put Reg.TEST_Ll_STATUS_REFUSE c l
  | none =>
    let m := ((m.put Reg.TEST_Ll_ERRORS_BIT_ERRORS 0 l).put Reg.TEST_Ll_STATUS_FRAMES 0 l).put Reg.TEST_Ll_STATUS_REFUSE 0 l
    let m := (m.put Reg.TEST_Ll_STATUS_LOCK 0 l).put Reg.TEST_Ll_STATUS_RUNNING 1 l
    let m := match linkPort l with
      | some (s, p) => m.put Reg.PRT_Pp_STATUS_TEST 1 s p
      | none => m
    if l = 60 ∨ l = 61 then m.emit (.testFrame (l - 60) false) else m

/-- STOP of link `l`. -/
def Mod.testStop (m : Mod) (l : Nat) : Mod :=
  if m.flag Reg.TEST_Ll_STATUS_RUNNING l && l < 64 then m.testEnd l 0 else m

/-- Running tests that a condition of R616 ends. -/
def Mod.endTests (m : Mod) : Mod :=
  ((List.range 64).filter (fun l => m.flag Reg.TEST_Ll_STATUS_RUNNING l)).foldl (fun a l =>
    match a.testBarred l with
    | some c => a.testEnd l c
    | none => a) m

/-- A pattern frame of link `l` is checked: payload bit errors and frames. -/
def Mod.testFrame (m : Mod) (l errors : Nat) : Mod :=
  if m.flag Reg.TEST_Ll_STATUS_RUNNING l then
    ((m.count Reg.TEST_Ll_ERRORS_BIT_ERRORS errors l).count Reg.TEST_Ll_STATUS_FRAMES 1 l).put Reg.TEST_Ll_STATUS_LOCK 1 l
  else m

/-- TEST_FRAME_RECEIVED on a twin lane: an echo is checked, a frame of the peer's is returned (R616). -/
def Mod.testFrameReceived (m : Mod) (lane : Nat) (isEcho : Bool) (errors : Nat) : Mod :=
  if isEcho then
    let m := m.testFrame (60 + lane) errors
    if m.flag Reg.TEST_Ll_STATUS_RUNNING (60 + lane) then m.emit (.testFrame lane false) else m
  else m.emit (.testFrame lane true)

def execTestFrameReceived (lane : Fin 2) (isEcho : Bool) (bitErrors : Nat) (s : State) : Outcome :=
  run s (fun m => m.testFrameReceived lane.val isEcho bitErrors)

/-- POLY and LOOP of a TEST_CTL word (R620): POLY 3 and LOOP above 1 are reserved. -/
def testWordOk (v : Nat) : Bool := bitsOf v 8 2 != 3 && bitsOf v 4 2 ≤ 1 && bitsOf v 16 7 < 64

end Sys2Proof.Machine
end

