-- ==== Sys2Proof/Machine/UpdOps.lean ====
section
/-!
DEFINITION. The update system and the role swap as far as other parts call them: refusals (R572), swap requests (R355),
confirmation (R584) and fallback (R585, R586).
-/

namespace Sys2Proof.Machine

def Mod.setUpd (m : Mod) (f : UpdState → UpdState) : Mod := { m with upd := f m.upd }

/-- UPD_STATE.STATE and PHASE codes (R592). -/
def upIDLE : Nat := 0
def upSTAGED : Nat := 1
def upTRIAL : Nat := 2
def upCONFIRMED : Nat := 3
def upFALLEN : Nat := 4
def Mod.updState (m : Mod) : Nat := m.get Reg.UPD_STATE_STATE

def Mod.pkgId (m : Mod) : Nat := (m.upd.pkg.map (·.id)).getD 0
/-- Part `p` is in the staged or last package. -/
def Mod.pkgHas (m : Mod) (p : Nat) : Bool := (m.upd.pkg.map (fun g => g.parts.any (fun x => x.part == p))).getD false

/-- UPD_STATE.STATE with SYS_STATE.TRIAL (R582). -/
def Mod.setUpdState (m : Mod) (v : Nat) : Mod :=
  let m := (m.put Reg.UPD_STATE_STATE v).put Reg.SYS_STATE_TRIAL (b2n (v == upTRIAL))
  let m := m.setLgr (fun l => { l with updEntry := v })
  if v = upTRIAL then m else m.put Reg.UPD_CONFIRM_REMAIN_SECONDS 0

/-- A refusal: UPD_REFUSE and UPD_REFUSED (R572, R589). -/
def Mod.updRefuse (m : Mod) (part code : Nat) : Mod :=
  ((m.put Reg.UPD_REFUSE_PART part).put Reg.UPD_REFUSE_CODE code).raise 0x140 1 0 [code, part, m.pkgId]

def Mod.fwPart (m : Mod) (p : Nat) : FwPart := (m.upd.slots.find? (fun f => f.part == p)).getD (.built p)
def Mod.setFw (m : Mod) (p : Nat) (f : FwPart → FwPart) : Mod :=
  m.setUpd (fun u => { u with slots := u.slots.map (fun x => if x.part == p then f x else x) })
/-- The other slot of part `p` comes into use. -/
def Mod.fwFlip (m : Mod) (p : Nat) : Mod := m.setFw p (fun f => { f with cur := 1 - f.cur })

/-! ### The key header of a trial (R578, R584, R586) -/

/-- The header of the key in the slot, changed; nothing without a key. -/
def Mod.keyHeaderTo (m : Mod) (slot : Nat → Nat) (trial : Bool) : Mod :=
  match m.cfg.key with
  | none => m
  | some k => m.setCfg (fun c => { c with key := some (keySetHeader k (slot ((keyCurrent k).elim 0 (fun h => h.2.2.1))) trial) })

/-- The header of the key carries TRIAL. -/
def Mod.keyTrial (m : Mod) : Bool := (m.cfg.key.bind keyCurrent).any (fun h => h.2.2.2)

/-- Step 2 of R586: the key names the old slot again; without the key the write waits. -/
def Mod.fallbackKey (m : Mod) : Mod :=
  if m.upd.boot.fallingBack && m.pkgHas 6 && m.keyTrial then m.keyHeaderTo (fun s => 1 - s) false else m

/-! ### The role swap is requested (R355) -/

def Mod.swapCode (m : Mod) : Option Nat :=
  if m.unit ≠ stACTIVE ∨ m.role ≠ rlACTIVE then some 1
  else if !m.flag Reg.TWN_STATUS_PEER_PRESENT || m.get Reg.TWN_STATUS_PEER_STATE != stSTANDBY then some 2
  else if m.get Reg.LGR_STATUS_MIRROR ≠ 2 then some 3
  else if m.twn.swap.isSome then some 4
  else if m.get Reg.TASK_CHG_STATUS_STATE ≠ 0 then some 5
  else none

def Mod.swapRefused (m : Mod) (code : Nat) : Mod := (m.put Reg.TWN_STATUS_SWAP_REFUSE code).raise 0xD0 8

/-- TWN_CTL.SWAP is written with 1. -/
def Mod.swapWrite (m : Mod) : Mod :=
  match m.swapCode with
  | some c => m.swapRefused c
  | none => (m.setTwn (fun w => { w with swap := some (0, false), swapSent := false })).put Reg.TWN_CTL_SWAP 1

/-! ### Confirmation (R584) -/

/-- The hold of R189 ends. -/
def Mod.holdEnds (m : Mod) : Mod :=
  (m.setLgr (fun l => { l with maps := l.maps.map (fun x => (x.1, { x.2 with held := false })) })).put Reg.LGR_STATUS_HELD 0

/-- The trial confirms; with a CFG part it waits for its key. -/
def Mod.updConfirm (m : Mod) : Mod :=
  if m.pkgHas 6 && !(m.flag Reg.CFG_KEY_STATUS_PRESENT && m.flag Reg.CFG_KEY_STATUS_SAME_KEY) then
    m.setUpd (fun u => { u with confirmDue := true })
  else
    let m := if m.pkgHas 6 then m.keyHeaderTo (fun s => s) false else m
    let m := (m.holdEnds.setUpd (fun u => { u with boot := .reset, confirmDue := false })).setUpdState upCONFIRMED
    ((m.put Reg.UPD_STATE_TRIAL_STARTS 0).put Reg.UPD_STATE_PHASE 0).event 0x0E82 svNOTICE [m.pkgId, m.get Reg.UPD_CLEAN_COUNT]

/-- Enough clean cycles. -/
def Mod.cleanEnough (m : Mod) : Bool := m.get Reg.UPD_CLEAN_MIN_CLEAN_MIN ≤ m.get Reg.UPD_CLEAN_COUNT

/-! ### Fallback (R585, R586) -/

/-- Outputs go to their safe state as the module restarts (R578 step 4, R586 step 1). -/
def Mod.outputsSafe (m : Mod) : Mod := m.lbbSafeWrites.canSafe (fun _ _ => true)

/-- The application set before the trial is in use again. -/
def Mod.appBack (m : Mod) : Mod :=
  if m.pkgHas 7 then { m with chg := { m.chg with current := m.chg.previous, previous := none } } else m

/-- A Porter restarts from the other slot of its firmware (R580). -/
def Mod.porterRestart (m : Mod) (s : Nat) : Mod :=
  ((m.fwFlip (3 + s)).porterReset s).put Reg.UPD_STATE_PHASE (4 + s)

/-- The end of a fallback (R586 step 5). -/
def Mod.fallenBack (m : Mod) : Mod :=
  let cause := m.upd.boot.cause
  let m := (m.setUpd (fun u => { u with boot := .reset, confirmDue := false, fallbackDue := none })).setUpdState upFALLEN
  let m := ((m.put Reg.UPD_STATE_PHASE 0).put Reg.UPD_STATE_FALLBACK_CAUSE cause).put Reg.UPD_STATE_TRIAL_STARTS 0
  (m.raise 0x140 4 0 [cause, m.pkgId]).event 0x0E83 svINFO [m.pkgId, cause]

/-- Steps 1 to 3 of R586. -/
def Mod.fallbackGo (m : Mod) (cause : Nat) : Mod :=
  let porters := m.upd.boot.porters
  let m := (m.outputsSafe.setUpd (fun u => { u with
    boot := { u.boot with trial := false, fallingBack := true, cause := cause }, fallbackDue := none })).put Reg.UPD_STATE_PHASE 3
  if porters then
    let m := m.setUpd (fun u => { u with porterQueue := u.porterDone, porterDone := [] })
    match m.upd.porterQueue with
    | [] => m.fallenBack
    | s :: r => (m.setUpd (fun u => { u with porterQueue := r, porterDone := [s] })).porterRestart s
  else
    let old := ([1, 2, 3, 4, 5].filter m.pkgHas).foldl Mod.fwFlip m
    let old := if m.pkgHas 5 then old.dioStart else old
    (old.appBack.fallbackKey).restart none Reg.SYS_RESET_CAUSE_UPDATE

/-- A cause of R585 has come: an active unit of a twin first requests a swap, and surrenders where it is refused. -/
def Mod.updFallback (m : Mod) (cause : Nat) : Mod :=
  if m.updState ≠ upTRIAL ∨ m.upd.boot.fallingBack ∨ m.upd.fallbackDue.isSome then m
  else if m.hasTwin ∧ m.role = rlACTIVE then
    match m.swapCode with
    | none => m.swapWrite.setUpd (fun u => { u with fallbackDue := some cause })
    | some c => ((m.swapRefused c).surrender 0).fallbackGo cause
  else m.fallbackGo cause

/-- A trial whose unit is SURRENDERED falls back (R585 cause 4). -/
def Mod.trialWatch (m : Mod) : Mod := if m.unit = stSURRENDERED then m.updFallback 4 else m

/-! ### The open fault record closes (R493, R496, R498) -/

/-- Every action that the record has executed is complete. -/
def Mod.fcComplete (m : Mod) (r : FaultRecord) : Bool :=
  r.restarts.all (fun p => m.lstate p == lnRUN || m.lstate p == lnFAILED) &&
    (!bitOf (m.get Reg.FC_OPEN_REACT) 4 || m.unit == stSURRENDERED)

/-- A fault message with another class. -/
def withClass (msg cls : Nat) : Nat := msg - bitsOf msg 40 2 * 2 ^ 40 + cls * 2 ^ 40

/-- The record closes: FAULT_CLOSED is written, and final class FATAL ends a trial (R585). -/
def Mod.fcClose (m : Mod) (r : FaultRecord) : Mod :=
  let cls := m.get Reg.FC_OPEN_CLASS
  let m := m.offer ⟨0x0083, cls + 2, false, false, false, withClass r.first cls, 0,
    [m.get Reg.FC_OPEN_REACT, m.get Reg.FC_MERGE_COUNT_COUNT, m.get Reg.FC_MERGE_MAP_MAP, (m.now - r.openedAt) / 1000 % 2 ^ 32],
    m.now, m.secs, m.nanos, !m.flag Reg.TIM_CTL_VALID, m.cycle⟩
  let m := { m.put Reg.FC_OPEN_OPEN 0 with fc := { m.fc with record := none } }
  if cls = clFATAL then m.updFallback 4 else m

/-- The record closes once its actions are complete and software has acknowledged it. -/
def Mod.fcTryClose (m : Mod) : Mod :=
  match m.fc.record with
  | some r => if r.acked && m.fcComplete r then m.fcClose r else m
  | none => m

end Sys2Proof.Machine
end

