-- ==== Sys2Proof/Machine/McOps.lean ====
section
/-!
DEFINITION. What the management core does for an MC_REQUEST (R144).
-/

namespace Sys2Proof.Machine

/-- UPD_CTL.CONFIRM as an operation: code 8 outside TRIAL or with too few clean cycles. -/
def Mod.mcConfirm (m : Mod) : Mod :=
  if m.updState = upTRIAL ∧ !m.upd.boot.fallingBack ∧ m.cleanEnough then m.updConfirm else m.updRefuse 0 8

/-- DBK_ARCHIVE (R144, R509). -/
def Mod.archiveEnable (m : Mod) (on : Bool) : Mod := m.put Reg.DBK_CTL_ARCHIVE_EN (b2n on)

/-- The link, POLY and LOOP of a test in TEST_CTL (R620). -/
def Mod.testCtl (m : Mod) (link poly loop : Nat) : Mod :=
  ((m.put Reg.TEST_CTL_LINK link).put Reg.TEST_CTL_POLY poly).put Reg.TEST_CTL_LOOP loop

/-- Operation `op` with its arguments; arguments outside the table of R144 do nothing. -/
def Mod.mcRequest (m : Mod) (op a1 a2 : Nat) : Mod :=
  match op with
  | 1 => m.mcConfirm
  | 2 => m.updFallback 2
  | 3 => if a1 < 2 then m.archiveEnable (a1 == 1) else m
  | 4 =>
    let poly := bitsOf a2 0 2
    let loop := bitsOf a2 4 1
    if a1 < 64 ∧ poly < 3 ∧ poly + 16 * loop = a2 then (m.testCtl a1 poly loop).testStart a1 loop none else m
  | 5 => if a1 < 64 then m.testStop a1 else m
  | _ => m

end Sys2Proof.Machine
end

