-- ==== Sys2Proof/Machine/CommitOps.lean ====
section
/-!
DEFINITION. The Ledger and publication below their commands: map slots and copies (R178, R179, R182), the start of a
commit (R175), its commit point, publication (R124, R169, R372), mailboxes (R145), deferred requests (R143) and the bound
configuration transaction (R547).
-/

namespace Sys2Proof.Machine

/-! ### Maps and copies -/

/-- The copy after the current one, skipping the copy that the held record names (R178). -/
def Mod.nextCopy (m : Mod) (g : Nat) : Nat :=
  let cur := ((m.lgr.current.bind (fun r => alGet r.copies g)).getD 7)
  let n := (cur + 1) % 8
  match m.heldMap.bind (fun h => alGet h.2.copies g) with
  | some h => if n = h then (n + 1) % 8 else n
  | none => n

/-- Initial byte `o` of the state region of pair `p`'s program (R137, R183). -/
def AppSet.initByte (s : Option AppSet) (p o : Nat) : Byte :=
  match s.bind (fun a => a.programs.find? (fun g => g.1 == p)) with
  | some g => g.2.init.getD o 0
  | none => 0

/-- Initial value of granule `g` (R183). -/
def Mod.initGranule (m : Mod) (g : Nat) : List Byte :=
  if g < 6144 then (List.range 256).map (fun i => AppSet.initByte m.chg.current (g / 2048) (256 * (g % 2048) + i))
  else List.replicate 256 0

/-- Contents of granule `g` under map record `r` (R183). -/
def Mod.copyContent (m : Mod) (r : Option MapRec) (g : Nat) : List Byte :=
  match r.bind (fun x => alGet x.copies g) with
  | some c => m.rdBytes (copyAddr c g) 256
  | none => m.initGranule g

/-- The current copy of granule `g` under record `r` cannot be read (R186, R187). -/
def Mod.copyBad (m : Mod) (r : Option MapRec) (g : Nat) : Option Nat :=
  match r.bind (fun x => alGet x.copies g) with
  | some c => if m.lgr.bad.contains (copyAddr c g - mramBase) then some (copyAddr c g) else none
  | none => none

/-- Granule of granule `g` of pair `p`'s space; in TRIAD the common space (R170). -/
def Mod.spaceGranule (m : Mod) (p g : Nat) : Nat := if m.triad then g else 2048 * p + g

/-- The pair whose TCM gives granule `g`: in TRIAD the release source. -/
def Mod.granulesNow (m : Mod) (src g : Nat) : List Byte := m.granuleBytes src g

/-! ### Commit start (R175 steps 1 and 2) -/

/-- Base of a release's outputs: staging area in NATIVE, release staging area in TRIAD. -/
def Mod.outputsBase (m : Mod) (o : Nat) : Nat := if m.triad then stagingBase else shadowBase o

/-- Output granules that a release's extents touch. -/
def outGranules (outs : List Extent) : List Nat :=
  ((outs.filter (fun e => e.type == 1)).flatMap (fun e => (extentBytes e).map (fun a => 6144 + a / 256))).dedup

/-- Step 1 for one release: its outputs into the output record, unforced, and its runtime record entry. -/
def Mod.commitRelease (m : Mod) (o t : Nat) : Mod :=
  match m.rel o t with
  | none => m
  | some r =>
    let m := (m.extentValues (m.outputsBase o) r.desc.outputs).foldl (fun a b => a.wr8 (outRecord + b.1) b.2) m
    let m := m.setDyn { m.dyn o t with committed := some r.number }
    m.updRel o t (fun x => { x with stage := .committing })

/-- Dirty granules of a release: in TRIAD those of its source (R172, R176). -/
def Mod.relDirty (m : Mod) (o t : Nat) : List Nat :=
  let p := if m.triad then ((m.rel o t).map (·.source)).getD 0 else o
  (m.lgr.dirty.filter (fun d => d.1 == p && d.2.1 == t)).map (fun d => m.spaceGranule p d.2.2)

/-- Granules of OUT, FRC and RT among `gs` whose bytes differ from their current copy. -/
def Mod.changedOf (m : Mod) (gs : List Nat) : List Nat :=
  gs.filter (fun g => m.granuleBytes 0 g != m.copyContent m.lgr.current g)

/-- A commit starts with the releases `rels` and the state granules `state` (with the pair whose TCM gives each). -/
def Mod.startCommit (m : Mod) (rels : List (Nat × Nat)) (state : List (Nat × Nat)) (switch : Bool) : Mod :=
  let m := rels.foldl (fun a x => a.commitRelease x.1 x.2) m
  let touched := (rels.flatMap (fun x => match m.rel x.1 x.2 with
    | some r => outGranules r.desc.outputs ++ [rtGranule x.1 x.2]
    | none => [])) ++ m.lgr.loose
  let fixed := m.changedOf touched.dedup
  let all := state ++ fixed.map (fun g => (g, 0))
  let copies := all.map (fun x => (x.1, m.nextCopy x.1))
  let a := all.foldl (fun b x => b.wrBytes (copyAddr (m.nextCopy x.1) x.1) (m.granulesNow x.2 x.1)) m
  let a := a.setLgr (fun l => { l with
    commit := some ⟨rels, all.map (·.1), copies, m.now, m.secs, m.nanos, switch⟩
    requests := l.requests.filter (fun x => !rels.contains x)
    bad := l.bad.filter (fun b => !all.any (fun x => copyAddr (m.nextCopy x.1) x.1 - mramBase == b))
    loose := [], looseDue := false, lastStart := some m.now })
  a.put Reg.LGR_STATUS_STATE 1

/-- State granules of the waiting requests. -/
def Mod.requestedState (m : Mod) : List (Nat × Nat) :=
  (m.lgr.requests.flatMap (fun x =>
    let p := if m.triad then ((m.rel x.1 x.2).map (·.source)).getD 0 else x.1
    (m.relDirty x.1 x.2).map (fun g => (g, p)))).dedup

/-! ### Publication (R124, R145, R372) -/

/-- Mailbox `k` of controller `n` in the area at `base` (R79). -/
def Mod.areaMailbox (m : Mod) (base n k : Nat) : List Byte := m.rdBytes (base + 0x10000 + 72 * (64 * n + k)) 72

/-- One event mailbox forwarded if it is VALID and its SEQ is new (R145). -/
def Mod.forwardMailbox (m : Mod) (o base i : Nat) : Mod :=
  let a := base + 0x19000 + 32 * i
  let seq := m.rdLE a 4
  let code := (m.rd8 (a + 4)).toNat
  let flags := (m.rd8 (a + 7)).toNat
  if !bitOf flags 0 || alGet m.task.mailSeq (64 * o + i) == some seq then m
  else
    let m' := m.setTask (fun s => { s with mailSeq := alSet s.mailSeq (64 * o + i) seq })
    let m' := if bitOf flags 1 then
        m'.event (0xF000 + code) (min 5 (m.rd8 (a + 6)).toNat) ((List.range 6).map (fun j => m.rdLE (a + 8 + 4 * j) 4))
      else m'
    if bitOf flags 2 then m'.emit (.notifyMc code) else m'

/-- CAN entries and mailboxes of a release (R124). -/
def Mod.publishRest (m : Mod) (o base : Nat) (outs : List Extent) : Mod :=
  outs.foldl (fun a e =>
    if e.type = 2 then (List.range e.len).foldl (fun b j => b.canPublish e.ctrl (e.start + j) (b.areaMailbox base e.ctrl (e.start + j))) a
    else if e.type = 3 then (List.range e.len).foldl (fun b j => b.forwardMailbox o base (e.start + j)) a
    else a) m

/-- Publication of a committed release; its CAN mailboxes follow the safe rule where its outputs are held (R383). -/
def Mod.publish (m : Mod) (o : Nat) (r : Release) : Mod :=
  let base := m.outputsBase o
  let a := m.publishBytes (m.withForces (m.extentValues base r.desc.outputs))
  let a := a.publishRest o base r.desc.outputs
  if a.heldPair o then
    (r.desc.outputs.filter (fun e => e.type == 2)).foldl (fun b e =>
      (List.range e.len).foldl (fun c j => c.mbSafe e.ctrl (e.start + j)) b) a
  else a

/-! ### Deferred requests (R143) -/

def Mod.doRequest (m : Mod) (o : Nat) (r : Request) : Mod :=
  match r with
  | .trigger t => m.triggerTask o t ⟨5, 0, 0, 0, m.now⟩
  | .enable t on => (m.setDyn { m.dyn o t with enableReq := some on }).loose [rtGranule (m.own o) t]
  | .appFault n kind cls =>
    { m with fc := { m.fc with reports := m.fc.reports ++ [m.stamp (0x200 + n) kind cls false 0 []] } }
  | .canAck n k => if n < m.canCount then m.canAck n k else m
  | .mc op a1 a2 => m.setTask (fun t => { t with mcQueue := t.mcQueue ++ [(op, a1, a2)] })

/-- The management core performs what the releases of a commit asked of it (R144). -/
def Mod.mcOperations (m : Mod) : Mod :=
  m.task.mcQueue.foldl (fun a x => a.mcRequest x.1 x.2.1 x.2.2) (m.setTask (fun t => { t with mcQueue := [] }))

/-- The requests of a release: in TRIAD only if the two agreeing pairs issued the same list. -/
def Mod.doRequests (m : Mod) (o : Nat) (r : Release) : Mod :=
  let list := fun p => ((r.parts.find? (fun q => q.pair == p)).map (·.requests)).getD []
  if m.triad then
    if (r.other.map list).getD [] == list r.source then (list r.source).foldl (fun a x => a.doRequest 0 x) m
    else m.raise 0x50 7 0 [r.desc.index]
  else (list o).foldl (fun a x => a.doRequest o x) m

/-- The configuration transaction bound to the release is carried out (R547, R548). -/
def Mod.relTxn (m : Mod) (o : Nat) (r : Release) : Mod :=
  match m.cfg.txn with
  | none => m
  | some x =>
    if x.task != r.desc.index then m
    else match x.owner with
      | .mc => m
      | .pair p => if p = o ∧ m.get Reg.CFG_TXN_STATUS_STATE = 2 then m.txnCommit x.owner x.writes x.persist x.overflow else m
      | .triad =>
        let list := fun p => (x.lists.find? (fun l => l.1 == p)).map (·.2)
        match list r.source, r.other.bind list with
        | some a, some b =>
          if a == b then
            if a.2.1 then m.txnCommit .triad a.1 a.2.2 x.overflow else m.txnClose 4
          else (m.raise 0x130 4).txnClose 7
        | none, none => m.txnClose 4
        | _, _ => (m.raise 0x130 4).txnClose 7

/-! ### Commit point (R175 steps 3 and 4, R177) -/

/-- Bound of a commit in ns (R177). -/
def commitBoundNs (granules : Nat) : Nat := 10000 + 834 * (granules * 256) / 1000

/-- The map record that a commit writes. -/
def Mod.newMap (m : Mod) (c : Commit) : MapRec where
  profile := b2n m.triad
  held := false
  layouts := (List.range 3).map m.layoutId
  programs := (List.range 3).map m.programId
  sec := c.sec
  ns := c.ns
  releases := c.rels.length
  copies := c.copies.foldl (fun l x => alSet l x.1 x.2) ((m.lgr.current.map (·.copies)).getD [])
  commit := m.lgr.commits + 1

/-- What the standby gets of a commit (R190). -/
def Mod.mirrorOf (m : Mod) (c : Commit) (r : MapRec) (gs : List Nat) (full : Bool) : MirrorCommit :=
  ⟨r.commit, m.triad, r.layouts, r.programs, c.sec, c.ns, c.rels.length, gs.map (fun g => (g, m.copyContent (some r) g)), full⟩

/-- Mirror states (R191, R195). -/
def miNOPEER : Nat := 0
def miFULL : Nat := 1
def miSYNC : Nat := 2
def miRECEIVING : Nat := 3

/-- The mirror at a commit point (R190, R191): sent in IN_SYNC, recorded in FULL_COPY; lag 3 loses sync. -/
def Mod.mirrorSend (m : Mod) (c : Commit) (r : MapRec) : Mod :=
  let st := m.get Reg.LGR_STATUS_MIRROR
  if m.unit = stSTANDBY ∨ st = miNOPEER ∨ st = miRECEIVING then m
  else
    let lag := m.lgr.commits - m.lgr.acked
    let m := (m.put Reg.LGR_MIRROR_LAG_LAG (min 0xFF lag)).peak Reg.LGR_MIRROR_LAG_PEAK lag
    if st = miFULL then m.setLgr (fun l => { l with recorded := (l.recorded ++ c.granules).dedup })
    else if 3 ≤ lag then
      let all := r.copies.map (·.1)
      let m := (m.raise 0x61 7).put Reg.LGR_STATUS_MIRROR miFULL
      let m := (m.setLgr (fun l => { l with recorded := [], fullApplied := false })).put Reg.TWN_STATUS_SYNC_LOST 1
      m.emit (.mirror (m.mirrorOf c r all true))
    else m.emit (.mirror (m.mirrorOf c r c.granules false))

/-- One release after its commit point: publication, its deferred requests, its transaction; then it leaves the
sequencer. -/
def Mod.finishRelease (m : Mod) (o t : Nat) : Mod :=
  match m.rel o t with
  | none => m
  | some r =>
    let m := m.publish o r
    let m := if m.triad then m.updRel o t (fun x => { x with stage := .done }) else m.delRel o t
    let m := (m.doRequests o r).relTxn o r
    m.latchPending o t

/-- Online change ends at the switch commit point (R224, R226). -/
def Mod.changeSwitched (m : Mod) : Mod :=
  let cyc := m.chg.boundaryCycle
  let us := m.get Reg.LGR_MIGRATE_TIME_LAST_US
  let m := { m with chg := { m.chg with previous := m.chg.current, current := m.chg.pendingSet, pendingSet := none } }
  let m := ((m.wrLE (m.chgDesc + 0x18) 4 cyc).wrLE (m.chgDesc + 0x1C) 2 (min 0xFFFF us)).chgResult 2 0
  let m := (m.put Reg.TASK_CHG_CYCLE_CYCLE cyc).event 0x0384 svINFO [m.chg.session, cyc, us]
  m.chgIdle

/-- The commit point: the map record is complete (R175, R177, R179, R197, R199, R200). -/
def Mod.commitPoint (m : Mod) (c : Commit) : Mod :=
  let rec_ := m.newMap c
  let slot := m.nextSlot (m.get Reg.LGR_SLOT_SLOT)
  let us := (m.now - c.started) / 1000
  let n := c.granules.length
  let dirty := fun (d : Nat × Nat × Nat) => c.rels.any (fun x =>
    d.2.1 == x.2 && (if m.triad then ((m.rel x.1 x.2).map (·.source)).getD 3 == d.1 else d.1 == x.1))
  let m := m.setLgr (fun l => { l with
    maps := alSet l.maps slot rec_, commits := rec_.commit, current := some rec_, commit := none
    dirty := l.dirty.filter (fun d => !dirty d) })
  let m := (m.put Reg.LGR_SLOT_SLOT slot).put Reg.LGR_STATUS_STATE (if m.get Reg.LGR_STATUS_STATE = 4 then 4 else if m.lgr.inhibited then 3 else 0)
  let m := (m.put Reg.LGR_COMMIT_TIME_LAST_US (min 0xFFFF us)).peak Reg.LGR_COMMIT_TIME_PEAK_US us
  let m := (m.put Reg.LGR_COMMIT_SIZE_LAST_GRANULES n).peak Reg.LGR_COMMIT_SIZE_PEAK_GRANULES n
  let m := c.rels.foldl (fun a x => a.finishRelease x.1 x.2) m
  let m := m.mirrorSend c rec_
  let m := if c.switch then m.changeSwitched else m
  m.gcRels.startBodies.mcOperations

end Sys2Proof.Machine
end

