-- ==== Sys2Proof/Machine/Migration.lean ====
section
/-!
DEFINITION. The migration of a pair's state region (R210 to R213): type conversion, the entries in table order, and the
new state that a migration makes.
-/

namespace Sys2Proof.Machine

/-! ### Type conversion (R212) -/

/-- A value of a type: an integer, or a floating value `±m * 2^e`. -/
inductive Num where
  | int (z : Int)
  | fin (neg : Bool) (m : Nat) (e : Int)
  | inf (neg : Bool)
  | nan (bits : Nat)
  deriving DecidableEq, Repr

/-- Exponent and mantissa widths of F32 (9) and F64 (10). -/
def floatShape (t : Nat) : Nat × Nat := if t = 9 then (8, 23) else (11, 52)

/-- An IEEE 754 binary value. -/
def floatValue (ew mw n : Nat) : Num :=
  let neg := bitOf n (ew + mw)
  let e := bitsOf n mw ew
  let f := bitsOf n 0 mw
  let bias : Int := 2 ^ (ew - 1) - 1
  if e = 2 ^ ew - 1 then (if f = 0 then .inf neg else .nan n)
  else if e = 0 then .fin neg f (1 - bias - mw)
  else .fin neg (2 ^ mw + f) ((e : Int) - bias - mw)

/-- `m * 2^e` rounded to the nearest integer, ties to even. -/
def roundEven (m : Nat) (e : Int) : Nat :=
  if 0 ≤ e then m * 2 ^ e.toNat
  else
    let d := 2 ^ (-e).toNat
    let q := m / d
    let r := m % d
    if d < 2 * r ∨ (2 * r = d ∧ q % 2 = 1) then q + 1 else q

/-- The IEEE 754 bits of `±m * 2^e`, rounded to nearest, ties to even; beyond the range the largest finite value. -/
def floatBits (ew mw : Nat) (neg : Bool) (m : Nat) (e : Int) : Nat :=
  let s := b2n neg * 2 ^ (ew + mw)
  if m = 0 then s
  else
    let bias : Int := 2 ^ (ew - 1) - 1
    let least : Int := 1 - bias - mw
    let u := max ((Nat.log2 m : Int) + e - mw) least
    let q := roundEven m (e - u)
    s + min ((2 ^ ew - 1) * 2 ^ mw - 1) ((u - least).toNat * 2 ^ mw + q)

/-- The largest finite value of a sign. -/
def floatMax (ew mw : Nat) (neg : Bool) : Nat := b2n neg * 2 ^ (ew + mw) + (2 ^ ew - 1) * 2 ^ mw - 1

def isSignedType (t : Nat) : Bool := t == 2 || t == 4 || t == 6 || t == 8

/-- The value of an element of type `t` (R212). -/
def typeValue (t n : Nat) : Num :=
  if t = 9 ∨ t = 10 then floatValue (floatShape t).1 (floatShape t).2 n
  else if isSignedType t then .int (sext (8 * typeSize t) n)
  else .int n

/-- An integer saturated to type `t`, as its bits. -/
def saturate (t : Nat) (z : Int) : Nat :=
  let w := 8 * typeSize t
  if isSignedType t then ofSigned w (max (-(2 ^ (w - 1))) (min (2 ^ (w - 1) - 1) z))
  else ofSigned w (max 0 (min (2 ^ w - 1) z))

/-- CONVERT to type `t` (R212). An infinity counts as beyond every range (notes/assumptions/13.md). -/
def convertTo (t : Nat) (v : Num) : Nat :=
  if t = 0 then
    match v with
    | .int z => b2n (z != 0)
    | .fin _ m _ => b2n (m != 0)
    | _ => 1
  else if t = 9 ∨ t = 10 then
    let (ew, mw) := floatShape t
    match v with
    | .int z => floatBits ew mw (z < 0) z.natAbs 0
    | .fin neg m e => floatBits ew mw neg m e
    | .inf neg => if t = 9 then floatMax ew mw neg else b2n neg * 2 ^ (ew + mw) + (2 ^ ew - 1) * 2 ^ mw
    | .nan b => Config.nanConvert t b % 2 ^ (ew + mw + 1)
  else
    match v with
    | .int z => saturate t z
    | .fin neg m e => saturate t (if neg then -(roundEven m e : Int) else roundEven m e)
    | .inf neg => saturate t (if neg then -(2 ^ 64) else 2 ^ 64)
    | .nan _ => 0

/-- One element converted; an element of its own type is carried over. -/
def convert (src dst n : Nat) : Nat := if src = dst ∧ src ≠ 0 then n else convertTo dst (typeValue src n)

/-! ### Entries (R211, R213) -/

/-- `new` with the bytes `l` from offset `o`. -/
def splice (new : List Byte) (o : Nat) (l : List Byte) : List Byte := new.take o ++ l ++ new.drop (o + l.length)

/-- Bit `k` of a byte set to `v`. -/
def byteBit (b : Byte) (k : Nat) (v : Bool) : Byte :=
  let n := b.toNat
  BitVec.ofNat 8 (if bitOf n k == v then n else if v then n + 2 ^ k else n - 2 ^ k)

/-- One entry carried out on the new state; `old` reads the old checkpoint. EDGE_INIT entries are carried out at the first
latch of their task (R222). -/
def MigEntry.run (old : Nat → Byte) (e : MigEntry) (new : List Byte) : List Byte :=
  let bytes := fun o n => (List.range n).map (fun i => old (o + i))
  let s := e.types % 16
  let d := e.types / 16
  match e.op with
  | 1 => splice new e.dst (bytes e.src e.count)
  | 2 => splice new e.dst ((List.range e.count).flatMap (fun i =>
      leBytes (typeSize d) (convert s d (leNat (bytes (e.src + i * typeSize s) (typeSize s))))))
  | 3 => splice new e.dst ((List.range e.count).flatMap (fun _ => leBytes (typeSize d) e.param))
  | 4 =>
    let v := bitOf (old e.src).toNat (bitsOf e.param 0 3)
    splice new e.dst [byteBit (new.getD e.dst 0) e.dstBit v]
  | _ => new

/-- EDGE_INIT entries of the table: task and SRC, DST, PARAM (R213 step 3). -/
def MigTable.edges (g : MigTable) : List (Nat × Nat × Nat × Nat) :=
  (g.entries.filter (fun e => e.op == 5)).map (fun e => (bitsOf e.param 24 6, e.src, e.dst, e.param))

/-- The new state of a pair (R213): the init image, zeros up to NEW_USED, then the entries. -/
def MigTable.migrate (g : MigTable) (init : List Byte) (old : Nat → Byte) : List Byte :=
  g.entries.foldl (fun l e => e.run old l) (sliceB init 0 g.newUsed)

/-- State byte `o` of pair `p` in the checkpoint (R187, R213). -/
def Mod.checkpointByte (m : Mod) (p o : Nat) : Byte :=
  (m.copyContent m.lgr.current (m.spaceGranule p (o / 256))).getD (o % 256) 0

/-- The migration of pair `p` (in TRIAD: of all pairs): new state, or with MIG_OFF 0 the old one, carried over. -/
def Mod.newState (m : Mod) (p : Nat) : List Byte :=
  match m.chg.migs.find? (fun g => g.1 == p), m.chg.programs.find? (fun g => g.1 == p) with
  | some (_, g), some (_, pr) => g.migrate pr.init (fun o => m.checkpointByte p o)
  | _, _ =>
    let used := match m.chg.programs.find? (fun g => g.1 == p) with
      | some (_, pr) => (pr.info.map (·.stateUsed)).getD 0
      | none => 0
    (List.range used).map (fun o => m.checkpointByte p o)

/-- NEW_USED of pair `p`: that of its migration table, or STATE_USED of the new program; within the state region. -/
def Mod.newUsed (m : Mod) (p : Nat) : Nat :=
  match m.chg.migs.find? (fun g => g.1 == p), m.chg.programs.find? (fun g => g.1 == p) with
  | some (_, g), _ => min 0x80000 g.newUsed
  | none, some (_, pr) => min 0x80000 ((pr.info.map (·.stateUsed)).getD 0)
  | none, none => 0

/-- The bound B_M of the change in ns (R215), for several pairs in NATIVE the sum (R209). -/
def Mod.migBoundNs (m : Mod) : Nat :=
  let one := fun p => 10000 + (m.newUsed p + 3) / 4 +
    (match m.chg.migs.find? (fun g => g.1 == p) with | some (_, g) => g.entries.length | none => 0)
  (if m.triad then [0] else m.chg.pairs).foldl (fun a p => a + one p) 0

/-- State granules of the switch commit, with the pair whose TCM gives each (R219). -/
def Mod.switchState (m : Mod) : List (Nat × Nat) :=
  let gs := fun p => List.range ((m.newUsed p + 255) / 256)
  if m.triad then
    let src := ((List.range 3).find? (fun p => !m.chg.restarted.contains p && m.lstate p != lnFAILED)).getD 0
    (gs 0).map (fun g => (g, src))
  else m.chg.pairs.flatMap (fun p => (gs p).map (fun g => (2048 * p + g, p)))

/-- The switch commit starts, unless a commit still runs or the Ledger cannot commit; then it is due (R219). -/
def Mod.switchCommit (m : Mod) : Mod :=
  if m.lgr.commit.isSome || m.lgr.inhibited || m.get Reg.LGR_STATUS_STATE == 4 then
    { m with chg := { m.chg with switchDue := true } }
  else { m.startCommit [] m.switchState true with chg := { m.chg with switchDue := false } }

/-- Key under which the change keeps the program and migration of pair `p`. -/
def Mod.chgKey (m : Mod) (p : Nat) : Nat := if m.triad then 0 else p

/-- The dirty bitmaps of pair `p` are cleared (R187, R221). -/
def Mod.clearDirty (m : Mod) (p : Nat) : Mod := m.setLgr (fun l => { l with dirty := l.dirty.filter (fun d => d.1 != p) })

/-- The migration of a pair runs again: the state that the migration made (R221). -/
def Mod.rerunMigration (m : Mod) (p : Nat) : Mod :=
  match m.chg.newStates.find? (fun x => x.1 == m.chgKey p) with
  | some (_, l) => (m.wrBytes (stateBase p) l).clearDirty p
  | none => m.clearDirty p

/-- The Ledger's write-back of a restore: every dirty granule of the pair from its current copy (R54 step 4, R187). -/
def Mod.writeBack (m : Mod) (p : Nat) : Mod :=
  let gs := ((m.lgr.dirty.filter (fun d => d.1 == p)).map (fun d => d.2.2)).dedup
  (gs.foldl (fun a g => a.wrBytes (stateBase p + 256 * g) (m.copyContent m.lgr.current (m.spaceGranule p g))) m).clearDirty p

/-- A current copy that the write-back needs cannot be read (R187). -/
def Mod.writeBackBad (m : Mod) (p : Nat) : Bool :=
  (m.lgr.dirty.filter (fun d => d.1 == p)).any (fun d => (m.copyBad m.lgr.current (m.spaceGranule p d.2.2)).isSome)

end Sys2Proof.Machine
end

