-- ==== Sys2Proof/Machine/Lane.lean ====
section
/-!
DEFINITION. The processing pairs (R34 to R75): self-test, mismatch and restart from checkpoint, injection test, ECC faults,
split cores, debug, and the mfcache CSR.
-/

namespace Sys2Proof.Machine

/-- Source of unit `u` of pair `p` (R63). -/
def laneSource (p u : Nat) : Nat := 0x10 + 16 * p + u

/-- A core of a SPLIT pair is reset alone (R64). -/
def Mod.coreReset (m : Mod) (p core : Nat) : Mod :=
  (m.count Reg.LANE_RESTARTS_TOTAL 1 p).raise (laneSource p (1 + core)) 13

/-- The pair is in a state in which a LANE fault can mark it FAILED (R65). -/
def Mod.canFail (m : Mod) (p : Nat) : Bool :=
  let s := m.lstate p
  s == lnSELFTEST || s == lnIDLE || s == lnRUN || s == lnRESTORE

/-- A LANE fault: at class FATAL a LOCKSTEP pair is FAILED (R60), else the kinds of R632 restart it. -/
def Mod.laneFault (m : Mod) (p unit kind addr : Nat) (restarts : Bool) : Mod :=
  let fatal := m.classNow (laneSource p unit) kind == clFATAL
  let m := m.raise (laneSource p unit) kind addr
  if m.split p then m
  else if fatal then (if m.canFail p then m.failPair p 7 else m)
  else if restarts then m.startRestart p false
  else m

/-! ### Start and self-test (R45, R53, R65) -/

/-- A SPLIT pair starts its cores if its firewall table is valid; otherwise it stays in RESET (R45). -/
def Mod.splitStart (m : Mod) (p : Nat) : Mod :=
  if (m.firewall p).isNone then (m.setLstate p lnRESET).raise (laneSource p 5) 14 else m.setLstate p lnRUN

/-- PAIR_RELEASE_FROM_RESET (R65): a pair leaves RESET into SELFTEST. The profile read later decides whether it is SPLIT. -/
def Mod.pairRelease (m : Mod) (p : Nat) : Mod :=
  if m.lstate p != lnRESET || m.unit == stBOOT then m
  else if m.split p && m.cfg.locked && (m.firewall p).isNone then m.raise (laneSource p 5) 14
  else m.setLstate p lnSELFTEST

def execPairReleaseFromReset (p : Pair) (s : State) : Outcome := run s (fun m => m.pairRelease p.val)

/-- A pair enters the restore of a takeover. -/
def Mod.pairToRestore (m : Mod) (p : Nat) : Mod :=
  if m.lstate p = lnIDLE ∧ m.split p = false then
    (m.setLane p (fun l => { l with restart := some ⟨.restoring, true, false, false, true, m.now⟩ })).setLstate p lnRESTORE
  else m

/-- SELFTEST_COMPLETE (R53): IDLE, or FAILED with cause SELFTEST; during a takeover IDLE leads on to RESTORE (R354). -/
def Mod.selftestEnd (m : Mod) (p : Nat) (pass : Bool) : Mod :=
  if m.lstate p != lnSELFTEST then m
  else if !pass then (m.raise (laneSource p 0) 9).failPair p 5
  else
    let m := m.setLane p (fun l => { l with prestart := false })
    if m.split p then m.splitStart p
    else if m.twn.takingOver then (m.setLstate p lnIDLE).pairToRestore p
    else m.setLstate p lnIDLE

def execSelftestComplete (p : Pair) (pass : Bool) (s : State) : Outcome := run s (fun m => m.selftestEnd p.val pass)

/-! ### Caches (R36) -/

/-- Dirty bytes of the pair's caches written to DRAM. -/
def Mod.cacheClean (m : Mod) (p : Nat) : Mod :=
  let c := (m.lane p).cache
  let m := (c.filter (fun e => e.2.dirty)).foldl (fun a e => a.wr8 e.1 e.2.value) m
  m.setLane p (fun l => { l with cache := l.cache.map (fun e => (e.1, { e.2 with dirty := false })) })

def Mod.cacheDrop (m : Mod) (p : Nat) : Mod := m.setLane p (fun l => { l with cache := [] })

/-- MFCACHE (R36): 1 cleans, 2 invalidates, 3 does both; R36 gives other values no effect. -/
def Mod.mfcache (m : Mod) (p v : Nat) : Mod :=
  if v = 1 then m.cacheClean p else if v = 2 then m.cacheDrop p else if v = 3 then (m.cacheClean p).cacheDrop p else m

def execMfcache (p : Pair) (value : BitVec 64) (s : State) : Outcome := run s (fun m => m.mfcache p.val value.toNat)

/-! ### Mismatch (R46 to R48, R54, R60, R75) -/

/-- LANE_MISMATCH_INFO keeps the first mismatch since it was cleared (R75). -/
def Mod.mismatchInfo (m : Mod) (p group : Nat) : Mod :=
  if m.flag Reg.LANE_MISMATCH_INFO_VALID p then m
  else (m.put Reg.LANE_MISMATCH_INFO_VALID 1 p).put Reg.LANE_MISMATCH_INFO_GROUP group p

/-- The comparator reports 0b10 on a pair in RUN or IDLE (R54, R60, R633): a restart, or FAILED at escalation or class FATAL.
ADDRESS is that of an address or of write data (R63). -/
def Mod.mismatch (m : Mod) (p group addr : Nat) : Mod :=
  if m.split p || !(m.lstate p == lnIDLE || m.lstate p == lnRUN) then m
  else
    let m := (m.put Reg.LANE_STATUS_CMP_CODE 2 p).mismatchInfo p group
    let a := if group < 3 then addr else 0
    if m.escalatesNow (laneSource p 0) 1 then (m.raise (laneSource p 0) 1 a).failPair p 1
    else m.laneFault p 0 1 a true

/-- COMPARATOR_MISMATCH (R54). -/
def execComparatorMismatch (p : Pair) (group : Fin 5) (addr : Addr) (s : State) : Outcome :=
  run s (fun m => m.mismatch p.val group.val addr.toNat)

/-- DELAY_PARITY_ERROR (R48): a mismatch with GROUP 5. -/
def execDelayParityError (p : Pair) (s : State) : Outcome := run s (fun m => m.mismatch p.val 5 0)

/-- COMPARATOR_INVALID (R47, R60): code 0b00 or 0b11. -/
def Mod.comparatorInvalid (m : Mod) (p : Nat) (code : Bool) : Mod :=
  if m.split p || !m.canFail p then m
  else ((m.put Reg.LANE_STATUS_CMP_CODE (if code then 3 else 0) p).raise (laneSource p 0) 2).failPair p 2

def execComparatorInvalid (p : Pair) (code : Bool) (s : State) : Outcome := run s (fun m => m.comparatorInvalid p.val code)

/-- LANE_CTL.FORCE_MISMATCH is accepted (R70). -/
def Mod.forceMismatchOk (m : Mod) (p : Nat) : Bool :=
  (m.unit == stCONFIG || m.unit == stSAFE) && (m.lstate p == lnIDLE || m.lstate p == lnRUN)

/-- INJECTION_TEST (R49 to R51): `latency` core clocks from the injection to 0b10, 0 if it was not detected. -/
def Mod.injectionTest (m : Mod) (p latency : Nat) : Mod :=
  if m.split p || !m.flag Reg.LANE_CTL_INJ_ENABLE p then m
  else if !(m.lstate p == lnIDLE || m.lstate p == lnRUN) then m.put Reg.LANE_CMP_TEST_DEFERRED 1 p
  else
    let m := (m.put Reg.LANE_CMP_TEST_DEFERRED 0 p).put Reg.LANE_CMP_TEST_LAST_LATENCY latency p
    if latency = 0 then ((m.put Reg.LANE_CMP_TEST_LAST_RESULT 0 p).raise (laneSource p 0) 3).failPair p 3
    else (m.put Reg.LANE_CMP_TEST_LAST_RESULT 1 p).put Reg.LANE_CMP_TEST_PASS_COUNT (m.get Reg.LANE_CMP_TEST_PASS_COUNT p + 1) p

def execInjectionTest (p : Pair) (latency : Fin 3) (s : State) : Outcome := run s (fun m => m.injectionTest p.val latency.val)

/-! ### Restart from checkpoint (R54 to R57, R187, R188, R221) -/

def Mod.setPhase (m : Mod) (p : Nat) (ph : RestartPhase) : Mod :=
  m.setLane p (fun l => { l with restart := l.restart.map (fun r => { r with phase := ph }) })

/-- PAIR_RESET_COMPLETE: step 2 of R54 has ended. -/
def Mod.pairReset (m : Mod) (p : Nat) : Mod :=
  match (m.lane p).restart with
  | some r => if r.phase = .resetting then m.setPhase p .waiting else m
  | none => m

def execPairResetComplete (p : Pair) (s : State) : Outcome := run s (fun m => m.pairReset p.val)

/-- The restore of pair `p` must wait: a running commit includes a release of the pair (R54 step 3, R188); in TRIAD also a
release that Scales has taken from this pair and that waits for its commit (notes/assumptions/14.md); and a migration
that runs (R221). -/
def Mod.restoreWaits (m : Mod) (p : Nat) (r : Restart) : Bool :=
  (match m.lgr.commit with
   | none => false
   | some c => !c.switch && (if m.triad then !c.rels.isEmpty else c.rels.any (fun x => x.1 == p))) ||
  (m.triad && (m.lgr.requests.any (fun x => ((m.rel x.1 x.2).map (·.source)) == some p) || m.scl.copies.any (fun c => c.2 == p))) ||
  (r.migration && m.get Reg.TASK_CHG_STATUS_STATE == 4)

/-- RESTORE_BEGIN: step 4 of R54 starts. -/
def Mod.restoreBegin (m : Mod) (p : Nat) : Mod :=
  match (m.lane p).restart with
  | some r =>
    if r.phase = .waiting ∧ m.restoreWaits p r = false then
      m.setLane p (fun l => { l with restart := some { r with phase := .restoring, began := m.now } })
    else m
  | none => m

def execRestoreBegin (p : Pair) (s : State) : Outcome := run s (fun m => m.restoreBegin p.val)

/-- The part of pair `p` starts again from its beginning (R56). -/
def Part.again (q : Part) : Part :=
  { q with
    started := false, returned := false, dropped := false, trapped := false, reexec := true, budgetRaised := false
    digested := false, requests := [] }

/-- Releases of pair `p` that R55 covers, most urgent first. -/
def Mod.affected (m : Mod) (p : Nat) : List Release :=
  let l := m.task.releases.filter (fun r => r.pair == m.own p && (r.stage == .running || r.stage == .requested) &&
    r.parts.any (fun q => q.pair == p && !q.dropped))
  sortBy (fun a b => a.desc.priority < b.desc.priority) l

/-- One affected release: re-executed if the restore has ended by its deadline minus its budget, else skipped (R55 to R57). -/
def Mod.reexecOrSkip (m : Mod) (p : Nat) (r : Release) : Mod :=
  let t := r.desc.index
  if m.now + r.desc.budget * 100 ≤ r.deadline then
    if m.triad then m.updRelNum r.pair t r.number (fun x => x.updPart p Part.again)
    else
      (m.updRelNum r.pair t r.number (fun x => { x.updPart p Part.again with stage := .running })).setLgr
        (fun l => { l with requests := l.requests.filter (· != (p, t)) })
  else if m.triad then m.updRelNum r.pair t r.number (fun x => x.updPart p (fun q => { q with dropped := true }))
  else (((m.skip p t r.number skRESTART).txnDrop p t).delRel p t).latchPending p t

/-- State that a pair takes when its restore succeeds (R54 step 6, R65). -/
def Mod.restoredState (m : Mod) (p : Nat) (r : Restart) : Nat :=
  if (m.lane p).debug then lnDEBUG else if r.fromIdle && !m.running then lnIDLE else lnRUN

/-- RESTORE_COMPLETE: the end of step 4 of R54, then steps 5 and 6. A release that has reached or reaches its commit point
without the pair is not executed again. -/
def Mod.restoreComplete (m : Mod) (p : Nat) (crcOk checkpointOk : Bool) : Mod :=
  match (m.lane p).restart with
  | none => m
  | some r =>
    if r.phase ≠ .restoring then m
    else if !crcOk then (m.raise (laneSource p 3) 4).failPair p 4
    else if !checkpointOk || (!r.migration && m.writeBackBad p) then (m.raise (laneSource p 0) 11).failPair p 6
    else if r.takeover then m
    else
      let us := (m.now - r.began) / 1000
      let m := if r.migration then
          ((m.rerunMigration p).put Reg.LGR_MIGRATE_TIME_LAST_US (min 0xFFFF us)).peak Reg.LGR_MIGRATE_TIME_PEAK_US us
        else m.writeBack p
      let rels := m.affected p
      let m := m.updParts p (fun r q => if rels.any (fun x => x.desc.index == r.desc.index && x.number == r.number) then q
        else { q with dropped := true })
      let m := (m.setLstate p (m.restoredState p r)).put Reg.LANE_STATUS_CMP_CODE 1 p
      let m := m.setLane p (fun l => { l with restart := none })
      (rels.foldl (fun a x => a.reexecOrSkip p x) m).gcRels.startBodies

def execRestoreComplete (p : Pair) (crcOk checkpointOk : Bool) (s : State) : Outcome :=
  run s (fun m => (m.restoreComplete p.val crcOk checkpointOk).fcTryClose)

/-! ### ECC (R60, R63, R632) -/

/-- STATE_ECC_UNCORRECTABLE: in the runtime region the pair restarts; in the active program half it is FAILED with
PROGRAM_CORRUPT (R60). -/
def Mod.tcmUncorrectable (m : Mod) (p a : Nat) : Mod :=
  let active := halfBase p (m.half p)
  if active ≤ a ∧ a < active + 0x1C0000 then
    let m := m.raise (laneSource p 3) 4 a
    if m.split p || !m.canFail p then m else m.failPair p 4
  else if stateBase p ≤ a ∧ a < tcmBase p + 0x400000 then m.laneFault p 3 5 a true
  else m

def execStateEccUncorrectable (p : Pair) (addr : Addr) (s : State) : Outcome :=
  run s (fun m => m.tcmUncorrectable p.val addr.toNat)

/-- TCM_ECC_CORRECTED (R63). -/
def execTcmEccCorrected (p : Pair) (addr : Addr) (s : State) : Outcome :=
  run s (fun m => m.laneFault p.val 3 6 addr.toNat false)

/-- L2_ECC_CORRECTED (R63). -/
def execL2EccCorrected (p : Pair) (addr : Addr) (s : State) : Outcome :=
  run s (fun m => m.laneFault p.val 4 7 addr.toNat false)

/-- L2_ECC_UNCORRECTABLE (R632): the pair restarts. -/
def execL2EccUncorrectable (p : Pair) (addr : Addr) (s : State) : Outcome :=
  run s (fun m => m.laneFault p.val 4 8 addr.toNat true)

/-- SPLIT_CORE_FAULT (R64): the core is reset alone and restarts from its boot entry. -/
def execSplitCoreFault (p : Pair) (core : Fin 2) (s : State) : Outcome :=
  run s (fun m => if m.split p.val && m.lstate p.val == lnRUN then m.coreReset p.val core.val else m)

/-! ### Debug (R66 to R68, R566) -/

/-- The unit enters DEBUG (R66, R543): its releases go on if it was RUN_ACTIVE; an online change that has not started its
migration is abandoned. -/
def Mod.enterDebug (m : Mod) : Mod :=
  let st := m.unit
  if st = stCONFIG ∨ st = stSTARTING ∨ st = stACTIVE ∨ st = stSTANDBY ∨ st = stSAFE then
    let m := m.setTask (fun t => { t with debugRuns := st == stACTIVE })
    let c := m.get Reg.TASK_CHG_STATUS_STATE
    let m := if c = 1 ∨ c = 2 ∨ c = 3 then m.chgAbandon 1 else m
    m.surrenderDebug.setState stDEBUG
  else m

/-- Debug is enabled on a LOCKSTEP pair (R66). -/
def Mod.debugPair (m : Mod) (p : Nat) : Mod :=
  let m := m.setLane p (fun l => { l with debug := true })
  if m.split p then m
  else
    let s := m.lstate p
    let m := if s = lnSELFTEST ∨ s = lnIDLE ∨ s = lnRUN then m.setLstate p lnDEBUG else m
    ((m.put Reg.SYS_STATE_LOCKSTEP_BROKEN 1).raise (laneSource p 0) 12).enterDebug

/-- DEBUG_ENABLE: the debugger writes DBG_CTL through the live connector (R557, R566); bits outside SCOPE stay 0 and a pair
bit cannot be cleared. -/
def Mod.debugEnable (m : Mod) (v : Nat) : Mod :=
  if !m.flag Reg.DBG_STATUS_PORT_LIVE then (m.raise 0x160 1).answer .busError
  else
    let old := m.get Reg.DBG_CTL_PAIR_EN
    let new := old ||| (v &&& m.get Reg.DBG_STATUS_SCOPE) % 8
    let m := (m.put Reg.DBG_CTL_PAIR_EN new).put Reg.DBG_CTL_MC_EN (bitsOf (v &&& m.get Reg.DBG_STATUS_SCOPE) 3 1)
    let word := m.get Reg.DBG_CTL_PAIR_EN + 8 * m.get Reg.DBG_CTL_MC_EN
    let m := (m.put Reg.DBG_STATUS_ENABLED (b2n (word != 0))).answer .ok
    let m := if word = 0 then m else m.event 0x1081 svINFO [word]
    ((List.range 3).filter (fun p => bitOf new p && !bitOf old p)).foldl Mod.debugPair m

def execDebugEnable (value : Word32) (s : State) : Outcome := run s (fun m => m.debugEnable value.toNat)

end Sys2Proof.Machine
end

