-- ==== Sys2Proof/Machine/Scales.lean ====
section
/-!
DEFINITION. Scales (R76 to R108): digests, the release rule, the skew window and the release copy. Its restarts, demotions
and record closes are in Sched.
-/

namespace Sys2Proof.Machine

/-- Skew window of a task in ns (R86). -/
def Mod.skewWindow (m : Mod) (d : TaskDesc) : Nat :=
  if d.cyclic then min (m.get Reg.SCL_SKEW_PERCENT * d.periodQ * 250000 / 100) (m.get Reg.SCL_SKEW_MAX_US * 1000)
  else m.get Reg.SCL_SKEW_EVENT_EVENT_US * 1000

/-- The TRIAD release with the vote record's number. -/
def Mod.voteRel (m : Mod) (v : VoteRec) : Option Release :=
  m.task.releases.find? (fun r => r.pair == 0 && r.desc.index == v.task && r.number == v.number)

/-- The first two equal voter digests, in order of arrival; between digests of one clock the lower pair first (R87). -/
def agreement : List DigestRec → Option (DigestRec × DigestRec)
  | [] => none
  | a :: r =>
    match r.find? (fun b => b.value == a.value) with
    | some b => if a.time = b.time ∧ b.pair < a.pair then some (b, a) else some (a, b)
    | none => agreement r

/-- The release trails its window opening by this many µs; the peak counts judged releases (R107). -/
def Mod.skewPeak (m : Mod) (v : VoteRec) (p : Nat) : Mod :=
  match v.window with
  | some w => if v.exempt.contains p then m else m.peak Reg.SCL_SKEW_PEAKn_PEAK_US ((m.now - w) / 1000) p
  | none => m

/-- A judged digest equal to the released one (R91 to R93): good if the window has not ended. -/
def Mod.judge (m : Mod) (v : VoteRec) (p : Nat) : Mod :=
  if v.exempt.contains p then m
  else if v.windowEnded then m
  else m.judgeGood p

/-- Scales releases the record (R87): the vote set is copied from the release source; digests already stored are judged. -/
def Mod.voteRelease (m : Mod) (v : VoteRec) (r : Release) (a b : DigestRec) : Mod :=
  let t := v.task
  let m := m.updVote t (fun x => { x with released := some (a.pair, a.value) })
  let m := m.updRelNum 0 t v.number (fun x => { x with source := a.pair, other := some b.pair })
  let m := m.setScl (fun s => { s with copies := s.copies ++ [(t, a.pair)] })
  v.voterDigests.foldl (fun x d =>
    if d.value = a.value then x.judge v d.pair else x.disagree t d.pair a.pair r.desc.outputs) m

/-- VOTE_SKIPPED (R88). -/
def Mod.voteSkipped (m : Mod) (t : Nat) : Mod :=
  ((m.raise 0x40 7).updVote t (fun x => { x with skipped := true })).notReleased t

/-- An EXCLUDED pair delivers a digest (R58, R93). -/
def Mod.readmitState (m : Mod) (p : Nat) : Mod :=
  if m.vstate p = vsEXCLUDED then
    (m.setVstate p (if m.scl.backToProbation.contains p then vsPROBATION else vsVOTING)).setScl
      (fun s => { s with backToProbation := s.backToProbation.filter (· != p) })
  else m

/-- A pair excluded after the latch is a voter of the record again (R85). -/
def Mod.readmit (m : Mod) (t p : Nat) : Mod :=
  if m.votes p then
    m.updVote t (fun v => if v.voters.contains p || !v.exempt.contains p then v else { v with voters := sortBy (· < ·) (v.voters ++ [p]) })
  else m

/-- The record's handling of digest `d` (R85 to R92, R634). -/
def Mod.takeDigest (m : Mod) (t : Nat) (d : DigestRec) (r : Release) : Mod :=
  let m := m.readmit t d.pair
  match m.voteOf t with
  | none => m
  | some v0 =>
    if !v0.voters.contains d.pair then m
    else
      let v := { v0 with digests := v0.digests.filter (fun x => x.pair != d.pair) ++ [d] }
      let m := m.updVote t (fun _ => v)
      match v.released with
      | some (src, val) =>
        let m := m.skewPeak v d.pair
        if d.value = val then m.judge v d.pair else m.disagree t d.pair src r.desc.outputs
      | none =>
        if v.final then m
        else
          let open_ := v.window.isNone && decide (v.voters.length - 1 ≤ v.voterDigests.length)
          let v := if open_ then { v with window := some m.now } else v
          let m := (m.updVote t (fun _ => v)).skewPeak v d.pair
          match agreement v.voterDigests with
          | some (a, b) => m.voteRelease v r a b
          | none => if 2 ≤ v.voters.length ∧ v.voterDigests.length = v.voters.length then m.noMajority t else m

/-- DIGEST_ARRIVAL: the digest of the oldest release of task `t` whose body pair `p` has returned (R83, R84). -/
def Mod.digestArrival (m : Mod) (p t : Nat) (agree : Bool) : Mod :=
  if !m.triad then m
  else
    match m.task.releases.find? (fun r => r.pair == 0 && r.desc.index == t &&
        r.parts.any (fun q => q.pair == p && q.returned && !q.digested && !q.dropped)) with
    | none => m
    | some r =>
      let m := m.updRelNum 0 t r.number (fun x => x.updPart p (fun q => { q with digested := true }))
      let m :=
        if !agree then m.raise 0x40 6
        else
          let m := m.readmitState p
          match m.voteOf t with
          | some v => if v.number = r.number then m.takeDigest t ⟨p, m.digestOf p r, m.now⟩ r else m
          | none => m
      ((m.latchPending 0 t).gcRels).startBodies

def execDigestArrival (p : Pair) (t : Task) (enginesAgree : Bool) (s : State) : Outcome :=
  run s (fun m => m.digestArrival p.val t.val enginesAgree)

/-- RELEASE_COPY_COMPLETE (R84, R87): the vote set is in the release staging area, and the release requests its commit. A copy
whose digest differs raises SCALES_INTERNAL and is not released (notes/assumptions/15.md). A late release overruns (R132). -/
def Mod.copyComplete (m : Mod) (t : Nat) (ok : Bool) : Mod :=
  match m.scl.copies.find? (fun c => c.1 == t), m.rel 0 t with
  | some (_, src), some r =>
    let m := m.setScl (fun s => { s with copies := s.copies.filter (fun c => c.1 != t) })
    if !ok then ((m.raise 0x40 6).notReleased t).latchPending 0 t
    else
      let m := (voteSet r.desc.outputs).foldl (fun a o => a.wr8 (stagingBase + o) (m.rd8 (shadowBase src + o))) m
      let m := if r.late then m.overrun 0 t else m
      m.requestCommit 0 t
  | _, _ => m.setScl (fun s => { s with copies := s.copies.filter (fun c => c.1 != t) })

def execReleaseCopyComplete (t : Task) (copyOk : Bool) (s : State) : Outcome := run s (fun m => m.copyComplete t.val copyOk)

/-- SKEW_WINDOW_END (R88, R92). -/
def Mod.skewEnd (m : Mod) (t : Nat) : Mod :=
  match m.voteOf t with
  | none => m
  | some v =>
    if v.window.isNone || v.windowEnded then m
    else
      let m := m.updVote t (fun x => { x with windowEnded := true })
      let m := v.missing.foldl (fun a p => a.lag t p) m
      let ds := v.voterDigests
      let differ := ds.any (fun a => ds.any (fun b => a.value != b.value))
      let m := if v.released.isSome || v.noMajority then m else if differ then m.noMajority t else m.voteSkipped t
      ((m.latchPending 0 t).gcRels).startBodies

def execSkewWindowEnd (t : Task) (s : State) : Outcome := run s (fun m => m.skewEnd t.val)

/-- SCL_SKEW_PEAKn.CLR (R107). -/
def Mod.skewPeakClear (m : Mod) (p : Nat) : Mod := m.put Reg.SCL_SKEW_PEAKn_PEAK_US 0 p

end Sys2Proof.Machine
end

