-- ==== Sys2Proof/Machine/Task.lean ====
section
/-!
DEFINITION. The TASK sequencer's commands (R109 to R145): latches and triggers, the end of a body, deadlines, budgets, traps
and the runtime services.
-/

namespace Sys2Proof.Machine

/-! ### Latches and triggers -/

/-- The basic cycle in force is one in which the cyclic task latches (R112). -/
def Mod.latchCycle (m : Mod) (d : TaskDesc) : Bool :=
  let b := m.bcQ
  if b = 0 ∨ d.periodQ ≤ b then true else m.cycle % (d.periodQ / b) == d.phase

/-- CYCLIC_LATCH (R112, R132, R133, R218). In TRIAD the one task set is named by pair 0. A latch that falls due during a
switch is held until the migration ends. -/
def Mod.cyclicLatch (m : Mod) (p t : Nat) : Mod :=
  match m.desc p t with
  | none => m
  | some d =>
    if !m.running || !d.cyclic || m.own p != p || m.latchBlocked || !m.latchCycle d then m
    else if m.latchHeld p then
      { m with chg := { m.chg with heldLatches := m.chg.heldLatches ++ [(p, t, m.cyc.cycleStart)] } }
    else m.cyclicDue p d m.cyc.cycleStart

def execCyclicLatch (p : Pair) (t : Task) (s : State) : Outcome := run s (fun m => m.cyclicLatch p.val t.val)

/-- EVENT_TRIGGER (R114, R115): a trigger of a source that the task names. -/
def Mod.eventTrigger (m : Mod) (p t : Nat) (g : TrigData) : Mod :=
  match m.desc p t with
  | none => m
  | some d => if m.own p = p ∧ d.triggers.any (fun e => e.src == g.src) then m.triggerTask p t g else m

def execEventTrigger (p : Pair) (t : Task) (d : TrigData) (s : State) : Outcome :=
  run s (fun m => m.eventTrigger p.val t.val d)

/-! ### Bodies -/

/-- The release of task `t` whose body pair `p` executes now, if it executes one. -/
def Mod.executing (m : Mod) (p t : Nat) : Option Release :=
  if !m.pairRuns p then none
  else match m.current p with
    | some r => if r.desc.index = t ∧ r.parts.any (fun q => q.pair == p && q.started) then some r else none
    | none => none

/-- A transaction that its release leaves open when it returns is abandoned (R547). -/
def Mod.txnReturn (m : Mod) (p t : Nat) : Mod :=
  match m.cfg.txn with
  | none => m
  | some x => if x.owner = .pair p ∧ x.task = t ∧ m.get Reg.CFG_TXN_STATUS_STATE = 1 then m.txnClose 4 else m

/-- BODY_RETURN (R111, R135, R149, R174): the forced variables are written again; in NATIVE the release requests its commit,
in TRIAD the pair requests its digest. -/
def Mod.bodyReturn (m : Mod) (p t us : Nat) : Mod :=
  match m.executing p t with
  | none => m
  | some r =>
    let m := m.peak Reg.TASK_Tn_EXEC_PEAK_PEAK_US us (m.own p) t
    let m := m.varForces p t
    let m := m.updRelNum r.pair t r.number (fun x => x.updPart p (fun q => { q with returned := true }))
    let m := if m.triad then m else (m.txnReturn p t).requestCommit p t
    m.startBodies

def execBodyReturn (p : Pair) (t : Task) (execUs : Nat) (s : State) : Outcome :=
  run s (fun m => m.bodyReturn p.val t.val execUs)

/-- DEADLINE_EXPIRY (R132): in TRIAD a release that Scales has not released is not counted yet. -/
def Mod.deadlineExpiry (m : Mod) (p t : Nat) : Mod :=
  match m.rel p t with
  | none => m
  | some r =>
    let waits := m.triad && r.stage == .running && !(m.scl.copies.any (fun c => c.1 == t))
    if waits then m.updRelNum r.pair t r.number (fun x => { x with late := true }) else m.overrun (m.own p) t

def execDeadlineExpiry (p : Pair) (t : Task) (s : State) : Outcome := run s (fun m => m.deadlineExpiry p.val t.val)

/-- BUDGET_EXCEEDED (R135, R152): raised once per release; the body goes on. -/
def Mod.budgetExceeded (m : Mod) (p t : Nat) : Mod :=
  match m.executing p t with
  | none => m
  | some r =>
    if !m.flag Reg.TASK_CTL_BUDGET_CHECK || r.parts.any (fun q => q.budgetRaised && (m.triad || q.pair == p)) then m
    else
      (m.updRelNum r.pair t r.number (fun x => x.updPart p (fun q => { q with budgetRaised := true }))).raise
        (0x51 + m.own p) 2 0 [t]

def execBudgetExceeded (p : Pair) (t : Task) (s : State) : Outcome := run s (fun m => m.budgetExceeded p.val t.val)

/-- TASK_TRAP (R136): the release is abandoned on the pair. -/
def Mod.taskTrap (m : Mod) (p t addr : Nat) : Mod :=
  match m.executing p t with
  | none => m
  | some r =>
    let m := m.raise (0x51 + p) 4 addr [t]
    if m.triad then
      (m.updRelNum r.pair t r.number (fun x => x.updPart p (fun q => { q with trapped := true, dropped := true }))).gcRels.startBodies
    else ((m.skip p t r.number skTRAP).txnDrop p t).endRelease p t

def execTaskTrap (p : Pair) (t : Task) (addr : Addr) (s : State) : Outcome :=
  run s (fun m => m.taskTrap p.val t.val addr.toNat)

/-! ### Runtime services (R142 to R144) -/

/-- The release whose body calls a service on pair `p`. -/
def Mod.caller (m : Mod) (p : Nat) : Option Release := (m.current p).bind (fun r => m.executing p r.desc.index)

/-- A service with its caller; −2 where no body runs. -/
def Mod.service (m : Mod) (p : Nat) (f : Release → Mod → Mod) : Mod :=
  match m.caller p with
  | none => m.answer (.service (-2) 0 0)
  | some r => f r m

/-- A deferred request is queued for the release: −1 if it is not valid, −3 if 32 are queued (R143). -/
def Mod.defer (m : Mod) (p : Nat) (valid : Bool) (q : Request) : Mod :=
  m.service p (fun r m =>
    if !valid then m.answer (.service (-1) 0 0)
    else if 32 ≤ ((r.parts.find? (fun x => x.pair == p)).map (·.requests.length)).getD 0 then m.answer (.service (-3) 0 0)
    else
      (m.updRelNum r.pair r.desc.index r.number (fun x => x.updPart p (fun y => { y with requests := y.requests ++ [q] }))).answer
        (.service 0 0 0))

/-- REL_INFO. -/
def execRelInfo (p : Pair) (s : State) : Outcome :=
  run s (fun m => m.service p.val (fun r m => m.answer (.service 0 r.number (r.cycle + r.desc.index * 2 ^ 32))))

/-- TIME_AT_LATCH. -/
def execTimeAtLatch (p : Pair) (s : State) : Outcome :=
  run s (fun m => m.service p.val (fun r m => m.answer (.service 0 r.sec r.ns)))

/-- MONO_AT_LATCH. -/
def execMonoAtLatch (p : Pair) (s : State) : Outcome :=
  run s (fun m => m.service p.val (fun r m => m.answer (.service 0 r.mono 0)))

/-- FORCE_INFO. -/
def execForceInfo (p : Pair) (s : State) : Outcome :=
  run s (fun m => m.service p.val (fun r m => m.answer (.service 0 r.forces (b2n r.orphan))))

/-- TRIGGER: an event task of the caller's task set with an SRC 5 trigger. -/
def execTrigger (p : Pair) (a0 : BitVec 64) (s : State) : Outcome :=
  run s (fun m => m.defer p.val
    ((m.desc p.val a0.toNat).any (fun d => 16 ≤ a0.toNat && d.triggers.any (fun e => e.src == 5))) (.trigger a0.toNat))

/-- TASK_ENABLE: a task index 0 to 47, and 0 or 1. -/
def execTaskEnable (p : Pair) (a0 a1 : BitVec 64) (s : State) : Outcome :=
  run s (fun m => m.defer p.val (a0.toNat < 48 && a1.toNat < 2) (.enable a0.toNat (a1.toNat == 1)))

/-- APP_FAULT: n from 0 to 511, KIND 0 to 255, class 0 to 3. -/
def execAppFault (p : Pair) (a0 a1 a2 : BitVec 64) (s : State) : Outcome :=
  run s (fun m => m.defer p.val (a0.toNat < 512 && a1.toNat < 256 && a2.toNat < 4) (.appFault a0.toNat a1.toNat a2.toNat))

/-- CAN_RX_ACK: a controller of the variant and a queue entry. -/
def execCanRxAck (p : Pair) (a0 a1 : BitVec 64) (s : State) : Outcome :=
  run s (fun m => m.defer p.val (a0.toNat < m.canCount && a1.toNat < 128) (.canAck a0.toNat a1.toNat))

/-- MC_REQUEST: operations 1 to 5. -/
def execMcRequest (p : Pair) (a0 a1 a2 : BitVec 64) (s : State) : Outcome :=
  run s (fun m => m.defer p.val (1 ≤ a0.toNat && a0.toNat ≤ 5) (.mc a0.toNat a1.toNat a2.toNat))

/-- TASK_Tn_EXEC_PEAK.CLR (R160). -/
def Mod.execPeakClear (m : Mod) (p t : Nat) : Mod := m.put Reg.TASK_Tn_EXEC_PEAK_PEAK_US 0 (m.own p) t

end Sys2Proof.Machine
end

