-- ==== Sys2Proof/Machine/Change.lean ====
section
/-!
DEFINITION. Online change (R201 to R226): the request, loading and its checks, the switch at a macrocycle boundary, the
migration and the switch commit.
-/

namespace Sys2Proof.Machine

def Mod.setChg (m : Mod) (f : ChgState → ChgState) : Mod := { m with chg := f m.chg }
def Mod.chgState (m : Mod) : Nat := m.get Reg.TASK_CHG_STATUS_STATE

/-- States of a change (R229). -/
def chIDLE : Nat := 0
def chLOADING : Nat := 1
def chARMED : Nat := 2
def chHOLD : Nat := 3
def chMIGRATING : Nat := 4
def chSWITCH : Nat := 5

/-! ### The request (R203, R204, R207) -/

/-- A refusal: RESULT 3 and the code, and CHANGE_REFUSED with the session (R207, R227). -/
def Mod.chgRefuse (m : Mod) (session code : Nat) : Mod := (m.chgResult 3 code).raise 0x50 8 0 [session, code]

/-- The codes of R208, 1 to 6, that hold now, ascending. -/
def Mod.chgCodes (m : Mod) : List Nat :=
  let ps := m.chg.pairs
  (if m.unit != stACTIVE then [1] else []) ++
  (if ps.any (fun p => m.lstate p == lnRESTORE) then [2] else []) ++
  (if (if m.triad then (List.range 3).any (fun p => m.vstate p != vsVOTING) else ps.any (fun p => m.lstate p == lnFAILED)) then [3]
   else []) ++
  (if m.lgr.requests.isEmpty then [] else [4]) ++
  (if m.flag Reg.SYS_STATE_TRIAL then [5] else []) ++
  (if m.get Reg.UPD_STATE_STATE == 1 then [6] else [])

/-- A standby is to load the change set too (R225). -/
def Mod.mirrors (m : Mod) : Bool := m.flag Reg.LGR_CTL_MIRROR_EN && m.get Reg.LGR_STATUS_MIRROR != miNOPEER

/-- The package at the start of the update staging area (R202, R571), and its bytes. -/
def Mod.stagedBytes (m : Mod) (o n : Nat) : List Byte := m.rdBytes (stagingDram + o) n
def Mod.stagedPkg (m : Mod) : Option Package :=
  parsePackage (fun o n => leNat (m.stagedBytes o n)) m.stagedBytes 268435456

/-- LOAD_AND_ARM: the descriptor holds a request that the sequencer has not seen (R204, R207, R226). -/
def Mod.loadAndArm (m : Mod) : Mod :=
  let a := m.chgDesc
  let seq := m.rdLE a 4
  if seq = m.chg.seqSeen ∨ (m.rd8 (a + 4)).toNat ≠ 1 then m
  else
    let session := m.rdLE (a + 0x14) 4
    let m := m.setChg (fun c => { c with seqSeen := seq })
    if m.chgState ≠ chIDLE then m.chgRefuse session 14
    else
      let off := m.rdLE (a + 0xC) 4
      let payload := m.stagedBytes off (min 0x800000 (m.rdLE (a + 0x10) 4))
      let pairs := ((parseChange payload m.triad).map (·.pairs)).getD []
      let sw := m.rdLE (a + 8) 4
      let m := m.setChg (fun c => { c with
        session := session, switchCycle := sw, postponeLimit := (m.rd8 (a + 7)).toNat, pairs := pairs, payload := payload
        programs := [], table := none, tableBytes := [], migs := [], acked := false, checked := false, heldLatches := [], restarted := [] })
      let m := (m.put Reg.TASK_CHG_STATUS_PAIRS (bitSet pairs)).put Reg.TASK_CHG_STATUS_POSTPONED 0
      let bad := m.chgCodes ++ (if sw != 0xFFFFFFFF && sw % m.macroN != 0 then [15] else [])
      match bad with
      | k :: _ => (m.chgRefuse session k).chgIdle
      | [] =>
        let m := (m.chgResult 0 0).put Reg.TASK_CHG_STATUS_STATE chLOADING
        if m.mirrors then m.emit (.changeSet (m.stagedBytes 0 ((m.stagedPkg.map (·.total)).getD 0))) else m

def execLoadAndArm (s : State) : Outcome := run s Mod.loadAndArm

/-- CANCEL: carried out in LOADING and ARMED, refused with CHANGE_BUSY later (R204, R226). -/
def Mod.cancel (m : Mod) : Mod :=
  let a := m.chgDesc
  let seq := m.rdLE a 4
  if seq = m.chg.seqSeen ∨ (m.rd8 (a + 4)).toNat ≠ 2 then m
  else
    let session := m.rdLE (a + 0x14) 4
    let m := m.setChg (fun c => { c with seqSeen := seq })
    let st := m.chgState
    if st = chLOADING ∨ st = chARMED then (m.chgResult 5 0).chgIdle
    else if st = chIDLE then m
    else m.chgRefuse session 14

def execCancel (s : State) : Outcome := run s Mod.cancel

/-! ### Loading and verification (R205 to R209) -/

/-- The items that a change set names: programs by key, the table's bytes, and the migration tables (R202). -/
structure ChangeSet where
  dir : ChangeDir
  programs : List (Nat × Option Program)
  tableBytes : List Byte
  table : Option TaskTable
  migs : List (Nat × Option MigTable)

/-- The keys of the affected programs: the pairs, or 0 for all in TRIAD. -/
def ChangeDir.keys (d : ChangeDir) (triad : Bool) : List Nat := if triad then [0] else d.pairs

def parseSet (l : List Byte) (triad : Bool) : Option ChangeSet :=
  (parseChange l triad).map (fun d =>
    let at_ := fun o => l.drop o
    let tb := at_ d.trt
    let tl := listLE tb 0x48 4
    { dir := d
      programs := (d.keys triad).map (fun p => (p, loadElf (at_ (d.elf.getD p 0))))
      tableBytes := sliceB tb 0 (min 0x100000 tl)
      table := parseTaskTable (fun o n => listLE tb o n) (fun o n => sliceB tb o n)
      migs := ((d.keys triad).filter (fun p => d.mig.getD p 0 != 0)).map (fun p =>
        let mb := at_ (d.mig.getD p 0)
        (p, parseMig (fun o n => listLE mb o n) (fun o n => sliceB mb o n))) })

/-- The package signature over a change set payload (R202, R206, R570): the staged package holds it as its only part. -/
def Mod.setSigned (m : Mod) (by_ : Nat → Nat → List Byte) (g : Option Package) (payload : List Byte) : Bool :=
  match g with
  | none => false
  | some g =>
    match g.parts with
    | [p] => p.part == 7 && m.pkgSigned by_ g && Config.sha384 (by_ p.off p.len) == p.digest && sliceB (by_ p.off p.len) 0 payload.length == payload
    | _ => false

/-- The checks of codes 8 to 11 (R206, R207, R214), in code order. -/
def Mod.setCode (m : Mod) (payload : List Byte) (x : ChangeSet) : Option Nat :=
  let d := x.dir
  let key := fun p => if m.triad then 0 else p
  let new := fun p => (x.programs.find? (fun g => g.1 == key p)).bind (·.2)
  let info := fun p => (new p).bind Program.info
  let mig := fun p => x.migs.find? (fun g => g.1 == key p)
  let rec_ := m.lgr.current
  let crcOk := changeCrcOk payload d && x.programs.all (fun g => (g.2.map Program.codeOk).getD false)
  let layoutOk_ := d.pairs.all (fun p => match mig p with
    | some (_, some g) => rec_.map (fun r => (r.layouts.getD p 0, r.programs.getD p 0)) == some (g.oldLayout, g.oldProgram)
    | _ => true)
  let program := fun p => if d.pairs.contains p then info p else m.prog p
  let others := (List.range 3).filter (fun p => !d.pairs.contains p)
  let tableOk_ := match x.table with
    | none => false
    | some t => taskOk m m program t && others.all (fun p => t.descs.getD p [] == ((m.task.table.map (·.descs)).getD []).getD p [])
  let ds := fun p => ((x.table.map (·.descs)).getD []).getD (key p) []
  let migOk := d.pairs.all (fun p => match mig p with
    | some (_, some g) => g.ok (ds p)
    | some (_, none) => false
    | none => (info p).map (·.layoutId) == some (m.layoutId p))
  if !crcOk then some 8 else if !layoutOk_ then some 9 else if !tableOk_ then some 10 else if !migOk then some 11 else none

/-- Loading writes the program of each affected pair into its inactive half (R205). -/
def Mod.loadHalves (m : Mod) (x : ChangeSet) : Mod :=
  x.dir.pairs.foldl (fun a p =>
    match (x.programs.find? (fun g => g.1 == (if m.triad then 0 else p))).bind (·.2) with
    | some pr => a.loadHalf p (1 - a.half p) pr
    | none => a) m

/-- The items of a change set that passed its checks. -/
def Mod.keepSet (m : Mod) (x : ChangeSet) : Mod :=
  m.setChg (fun c => { c with
    programs := x.programs.filterMap (fun g => g.2.map (fun p => (g.1, p)))
    table := x.table, tableBytes := x.tableBytes
    migs := x.migs.filterMap (fun g => g.2.map (fun t => (g.1, t))) })

/-- The application set with the new programs in the place of the old (R224). -/
def Mod.mergedSet (m : Mod) : AppSet :=
  let old := (m.chg.current.map (·.programs)).getD []
  ⟨m.chg.programs ++ old.filter (fun g => !m.chg.programs.any (fun x => x.1 == g.1)), m.chg.tableBytes⟩

/-- No cyclic task of an affected pair latches within the switch gap after the start of cycle `c` (R209). -/
def Mod.gapOk (m : Mod) (c : Nat) : Bool :=
  let gap := 10000 + m.migBoundNs
  let b := m.bcQ
  let keys := if m.triad then [0] else m.chg.pairs
  keys.all (fun p => (((m.chg.table.map (·.descs)).getD []).getD p []).all (fun d =>
    !d.cyclic || gap ≤ d.offset * 100 || (b < d.periodQ && c % (d.periodQ / b) != d.phase)))

/-- The switch boundary that the request names, or the first macrocycle start that fits R209. -/
def Mod.plannedSwitch (m : Mod) : Option Nat :=
  let n := m.macroN
  if m.chg.switchCycle ≠ 0xFFFFFFFF then
    (if m.gapOk m.chg.switchCycle then some m.chg.switchCycle else none)
  else
    let first := (m.cycle / n + 1) * n
    ((List.range 4096).map (fun k => (first + k * n) % m.cycleWrap)).find? m.gapOk

/-- The named boundary lies at least 10 ms ahead (R207 code 15). -/
def Mod.boundaryAhead (m : Mod) : Bool :=
  m.chg.switchCycle == 0xFFFFFFFF ||
    (let d := (m.chg.switchCycle + m.cycleWrap - m.cycle) % m.cycleWrap
     2 * d < m.cycleWrap && (m.now - m.cyc.cycleStart) + 10000000 ≤ d * m.bcQ * 250000)

/-- The change is ARMED: the pending application set is in eMMC first (R224, R226). -/
def Mod.arm (m : Mod) (cycle : Nat) : Mod :=
  let m := m.setChg (fun c => { c with pendingSet := some m.mergedSet, switchCycle := cycle })
  (m.chgResult 1 0).put Reg.TASK_CHG_STATUS_STATE chARMED

/-- A check of LOADING fails (R226). -/
def Mod.chgFail (m : Mod) (code : Nat) : Mod := (m.chgRefuse m.chg.session code).chgIdle

/-- Code 13 once loading and every other check have ended (R225). -/
def Mod.armOrWait (m : Mod) (cycle : Nat) : Mod :=
  if m.mirrors && !m.chg.acked then m.setChg (fun c => { c with checked := true, switchCycle := cycle }) else m.arm cycle

/-- CHANGE_LOADING_COMPLETE: loading has ended, and the checks of R206 and R209 decide. -/
def Mod.loadingComplete (m : Mod) : Mod :=
  if m.chgState ≠ chLOADING ∨ m.chg.checked then m
  else
    let p := m.chg.payload
    match parseSet p m.triad with
    | none => m.chgFail (if m.setSigned m.stagedBytes m.stagedPkg p then 8 else 7)
    | some x =>
      let m := m.loadHalves x
      if !m.setSigned m.stagedBytes m.stagedPkg p then m.chgFail 7
      else match m.setCode p x with
        | some k => m.chgFail k
        | none =>
          let m := m.keepSet x
          match m.plannedSwitch with
          | none => m.chgFail 12
          | some c => if m.boundaryAhead then m.armOrWait c else m.chgFail 15

def execChangeLoadingComplete (s : State) : Outcome := run s Mod.loadingComplete

/-- CHANGE_SET_ACK (R225). -/
def Mod.changeSetAck (m : Mod) : Mod :=
  if m.chgState ≠ chLOADING then m
  else
    let m := m.setChg (fun c => { c with acked := true })
    if m.chg.checked then m.arm m.chg.switchCycle else m

def execChangeSetAck (s : State) : Outcome := run s Mod.changeSetAck

/-- CHANGE_ACK_TIMEOUT: no acknowledgement within 1 s (R225). -/
def Mod.changeAckTimeout (m : Mod) : Mod :=
  if m.chgState = chLOADING ∧ m.chg.checked ∧ m.chg.acked = false then m.chgFail 13 else m

def execChangeAckTimeout (s : State) : Outcome := run s Mod.changeAckTimeout

/-- CHANGE_SET_RECEIVED: the standby verifies the set that arrives as its package, loads it and acknowledges it (R225). -/
def Mod.changeSetReceived (m : Mod) (set : List Byte) : Mod :=
  if m.unit ≠ stSTANDBY then m
  else
    let by_ := sliceB set
    match parsePackage (listLE set) by_ set.length with
    | none => m
    | some g =>
      match g.parts with
      | [p] =>
        let payload := by_ p.off p.len
        match parseSet payload m.triad with
        | none => m
        | some x =>
          if !m.setSigned by_ (some g) payload || (m.setCode payload x).isSome then m
          else
            let m := ((m.loadHalves x).keepSet x).setChg (fun c => { c with standby := some payload })
            (m.setChg (fun c => { c with pendingSet := some m.mergedSet })).emit .changeAck
      | _ => m

def execChangeSetReceived (set : List Byte) (s : State) : Outcome := run s (fun m => m.changeSetReceived set)

/-! ### The switch (R216 to R223) -/

/-- Latches and triggers held since the boundary take place (R218). -/
def Mod.releaseHeld (m : Mod) : Mod :=
  let held := m.chg.heldLatches
  let keys := if m.triad then [0] else m.chg.pairs
  let m := m.setChg (fun c => { c with heldLatches := [] })
  let m := held.foldl (fun a h => match a.desc h.1 h.2.1 with | some d => a.cyclicDue h.1 d h.2.2 | none => a) m
  (keys.foldl (fun a o => (a.descs o).foldl (fun b d => b.latchPending o d.index) a) m).startBodies

/-- The switch moves to the next macrocycle start, or the change is abandoned at POSTPONE_LIMIT (R216, R226). -/
def Mod.postpone (m : Mod) : Mod :=
  let n := m.get Reg.TASK_CHG_STATUS_POSTPONED + 1
  let m := m.put Reg.TASK_CHG_STATUS_POSTPONED (min 255 n)
  if m.chg.postponeLimit ≤ n then (m.chgAbandon 16).releaseHeld
  else
    ((m.put Reg.TASK_CHG_STATUS_STATE chARMED).setChg (fun c => { c with
      switchCycle := m.cycleAfter c.switchCycle m.macroN })).releaseHeld

/-- SWITCH_BOUNDARY (R208, R216 step 1): at the planned macrocycle start, if it fits R209. -/
def Mod.switchBoundary (m : Mod) : Mod :=
  if m.chgState ≠ chARMED ∨ m.chg.switchCycle ≠ m.cycle then m
  else if !m.gapOk m.cycle then m.setChg (fun c => { c with switchCycle := m.cycleAfter m.cycle m.macroN })
  else
    let m := m.put Reg.TASK_CHG_STATUS_STATE chHOLD
    let m := m.setChg (fun c => { c with boundaryMono := m.now, boundaryCycle := m.cycle, restarted := [] })
    let codes := m.chgCodes
    match codes.find? (fun k => k != 2 && k != 4) with
    | some k => (m.chgAbandon k).releaseHeld
    | none => if codes.isEmpty then m else m.postpone

/-- Every affected pair is quiescent (R217). -/
def Mod.quiescent (m : Mod) : Bool :=
  let ps := m.chg.pairs
  let mine := fun (r : Release) => m.triad || ps.contains r.pair
  !m.task.releases.any (fun r => mine r && (r.stage != .done ||
    r.parts.any (fun q => m.votes q.pair && !q.digested && !q.dropped))) &&
  !(m.lgr.commit.any (fun c => c.rels.any (fun x => m.triad || ps.contains x.1))) &&
  ps.all (fun p => m.lstate p == lnRUN)

/-- QUIESCENCE_REACHED: the migration starts (R216 step 3). -/
def Mod.quiescence (m : Mod) : Mod :=
  if m.chgState ≠ chHOLD ∨ m.quiescent = false then m
  else
    let keys := if m.triad then [0] else m.chg.pairs
    (m.setChg (fun c => { c with
      migStarted := m.now, restarted := [], newStates := keys.map (fun p => (p, m.newState p)) })).put
      Reg.TASK_CHG_STATUS_STATE chMIGRATING

def execQuiescenceReached (s : State) : Outcome := run s Mod.quiescence

/-- QUIESCE_TIMEOUT: 10 µs have passed (R216 step 2). -/
def Mod.quiesceTimeout (m : Mod) : Mod := if m.chgState = chHOLD then m.postpone else m

def execQuiesceTimeout (s : State) : Outcome := run s Mod.quiesceTimeout

/-- Internal-variable forces of an affected pair whose variable is gone are dropped (R223). -/
def Mod.forceRules (m : Mod) : Mod :=
  let keeps := fun (f : Force) =>
    let p := if m.triad then 0 else f.pair
    f.kind != 3 || !(m.triad || m.chg.pairs.contains f.pair) ||
      (((m.prog p).map (·.vars)).getD []).any (fun v => v.id == f.addr && v.width == f.width)
  let gone := m.task.forces.filter (fun e => !keeps e.2)
  let m := m.setTask (fun t => { t with forces := t.forces.filter (fun e => keeps e.2) })
  let m := gone.foldl (fun a _ => a.raise 0x50 11 0 [m.chg.session, 0]) m
  if gone.isEmpty then m else m.loose (gone.map (fun e => 6400 + e.1 / 16))

/-- Runtime records of the affected pairs (R220): a removed task's entry is 0; a pending trigger of a removed task is
discarded and recorded as TRIGGER_LOST (R218). -/
def Mod.dropTasks (m : Mod) (t : TaskTable) : Mod :=
  let gone := m.task.dyn.filter (fun y => (m.triad || m.chg.pairs.contains y.pair) &&
    !(t.descs.getD y.pair []).any (fun d => d.index == y.task))
  let m := gone.foldl (fun a y =>
    let a := if y.pendingTrig.isSome then a.raise (0x51 + y.pair) 3 0 [y.task] else a
    a.put Reg.TASK_Tn_STATUS_ENABLED 0 y.pair y.task) m
  m.setTask (fun s => { s with dyn := s.dyn.filter (fun y => !gone.contains y) })

/-- EDGE_INIT entries wait for the first latch of their task (R222). -/
def Mod.keepEdges (m : Mod) : Mod :=
  m.chg.migs.foldl (fun a g => g.2.edges.foldl (fun b e =>
    let y := b.dyn g.1 e.1
    b.setDyn { y with edges := y.edges ++ [e.2] }) a) m

/-- MIGRATION_END: step 4 of R216 in one step, then the switch commit (step 5) and the held latches (R218). -/
def Mod.migrationEnd (m : Mod) : Mod :=
  if m.chgState ≠ chMIGRATING then m
  else
    let us := (m.now - m.chg.migStarted) / 1000
    let m := (m.put Reg.LGR_MIGRATE_TIME_LAST_US (min 0xFFFF us)).peak Reg.LGR_MIGRATE_TIME_PEAK_US us
    let ps := m.chg.pairs
    let migrated := fun p => m.chg.migs.any (fun g => g.1 == m.chgKey p)
    let m := ps.foldl (fun a p =>
      let a := if migrated p then a.rerunMigration p else a
      a.put Reg.LANE_STATUS_ACTIVE_HALF (1 - a.half p) p) m
    let m := match m.chg.table with
      | some t => (((m.dropTasks t).putTable t).keepEdges)
      | none => m
    let m := m.forceRules
    let rts := (if m.triad then [0] else ps).flatMap (fun o => (List.range 12).map (fun i => rtGranule o (4 * i)))
    let m := (m.loose rts).put Reg.TASK_CHG_STATUS_STATE chSWITCH
    m.switchCommit.releaseHeld

def execMigrationEnd (s : State) : Outcome := run s Mod.migrationEnd

/-- MIGRATE_LATE: the migration exceeds its bound by more than 50 µs and runs to its end (R215). -/
def Mod.migrateLate (m : Mod) : Mod := if m.chgState = chMIGRATING then m.raise 0x60 11 else m

def execMigrateLate (s : State) : Outcome := run s Mod.migrateLate

/-- LGR_MIGRATE_TIME.CLR (R231). -/
def Mod.migrateTimeClear (m : Mod) : Mod := m.put Reg.LGR_MIGRATE_TIME_PEAK_US 0

end Sys2Proof.Machine
end

