-- ==== Sys2Proof/Machine/Forces.lean ====
section
/-!
DEFINITION. Force requests (R146 to R151): the ring in the management core's DRAM, and the rules of SET, CLEAR and CLEAR_ALL.
-/

namespace Sys2Proof.Machine

/-- Address of entry `i` of the force request ring (R147, R161). -/
def Mod.ringEntry (m : Mod) (i : Nat) : Nat := mcDram + m.get Reg.TASK_FORCE_Q_OFFSET * 32 + 32 * i

/-- A request in the ring that waits: its result reads 0. -/
def Mod.ringPending (m : Mod) (i : Nat) : Bool :=
  let op := (m.rd8 (m.ringEntry i + 4)).toNat
  1 ≤ op && op ≤ 3 && (m.rd8 (m.ringEntry i + 5)).toNat == 0

/-- Request numbers in order across their wrap. -/
def seqBefore (a b : Nat) : Bool := let d := (b + 2 ^ 32 - a) % 2 ^ 32; 0 < d && d < 2 ^ 31

/-- The waiting request with the lowest SEQ. -/
def Mod.nextRequest (m : Mod) : Option Nat :=
  ((List.range 16).filter m.ringPending).foldl (fun b i =>
    match b with
    | none => some i
    | some j => if seqBefore (m.rdLE (m.ringEntry i) 4) (m.rdLE (m.ringEntry j) 4) then some i else some j) none

/-- The force that a request's ENTRY describes (R146, R147). -/
def Mod.ringForce (m : Mod) (i : Nat) : Force :=
  let a := m.ringEntry i + 8
  let b := fun o => (m.rd8 (a + o)).toNat
  ⟨b 0, b 1, b 2, false, bitsOf (b 3) 1 2, m.rdLE (a + 4) 4, m.rdLE (a + 8) 4, 0⟩

/-- Two forces agree in KIND, ADDR, WIDTH, BIT and pair. -/
def Force.same (a b : Force) : Bool :=
  a.kind == b.kind && a.addr == b.addr && a.width == b.width && a.bit == b.bit && a.pair == b.pair

/-- Ranges of KIND, WIDTH, BIT, pair and ADDR (R146). -/
def Mod.forceAddrOk (m : Mod) (f : Force) : Bool :=
  1 ≤ f.kind && f.kind ≤ 3 && f.width ≤ 3 && f.bit ≤ (if f.width = 0 then 7 else 0) &&
    match f.kind with
    | 1 => f.addr + f.len ≤ 0xF000
    | 2 => f.addr + f.len ≤ 0x10000
    | _ => m.triad || f.pair < 3

/-- Bits of `len` bytes at `a`, or one bit. -/
def bitCells (width a bit len : Nat) : List Nat :=
  if width = 0 then [8 * a + bit] else (List.range (8 * len)).map (fun k => 8 * a + k)

/-- Bits that a force occupies in its image or state region (R148). -/
def Mod.forceCells (m : Mod) (f : Force) : List Nat :=
  if f.kind = 3 then
    match m.var (if m.triad then 0 else f.pair) f.addr with
    | none => []
    | some v => bitCells v.width v.off v.bit (if v.width = 2 then 2 else if v.width = 3 then 4 else 1)
  else bitCells f.width f.addr f.bit f.len

def Mod.forcesOverlap (m : Mod) (a b : Force) : Bool :=
  a.kind == b.kind && (a.kind != 3 || m.triad || a.pair == b.pair) &&
    (m.forceCells a).any (fun c => (m.forceCells b).contains c)

/-- Lowest free entry of the force table. -/
def Mod.freeEntry (m : Mod) : Option Nat := (List.range 1024).find? (fun i => (alGet m.task.forces i).isNone)

/-- Words of a FORCE_SET or FORCE_CLEARED record (R502). -/
def Force.words (f : Force) (session : Nat) : List Nat :=
  [f.kind + 256 * f.width + 65536 * f.bit + 16777216 * (b2n f.orphan + 2 * f.pair), f.addr, f.value, session]

/-- One entry of the force table changed, with its granule (R170). -/
def Mod.putForce (m : Mod) (i : Nat) (f : Option Force) : Mod :=
  let m := m.setTask (fun t => { t with
    forces := match f with | some x => alSet t.forces i x | none => alDel t.forces i
    setSeqs := t.setSeqs.filter (fun x => x.1 != i) })
  m.loose [6400 + i / 16]

/-- What a SET comes to: an entry and the force to put there, or a refusal code (R147, R148). -/
def Mod.setResult (m : Mod) (f : Force) : Except Nat (Nat × Force) :=
  if !m.forceAddrOk f then .error 4
  else if f.kind == 3 && (m.var (if m.triad then 0 else f.pair) f.addr).isNone then .error 5
  else
    match m.task.forces.find? (fun e => e.2.same f) with
    | some e => .ok (e.1, { e.2 with value := f.value, setSeq := 0 })
    | none =>
      if m.task.forces.any (fun e => m.forcesOverlap e.2 f) then .error 3
      else match m.freeEntry with
        | some i => .ok (i, f)
        | none => .error 2

/-- The end of a request: RESULT, its SEQ in TASK_FORCE_LAST (R162), and FORCE_REFUSED on a refusal (R148). -/
def Mod.ringResult (m : Mod) (i code : Nat) : Mod :=
  let m := (m.wr8 (m.ringEntry i + 5) (BitVec.ofNat 8 code)).put Reg.TASK_FORCE_LAST_SEQ (m.rdLE (m.ringEntry i) 4)
  let m := m.setTask (fun t => { t with forceBudget := t.forceBudget - 1 })
  (if code = 1 then m else m.raise 0x50 6).forceIndications

/-- A SET request. -/
def Mod.ringSet (m : Mod) (i : Nat) : Mod :=
  match m.setResult (m.ringForce i) with
  | .error k => m.ringResult i k
  | .ok (e, f) =>
    let f := { f with orphan := m.isOrphan m.gwByte f }
    ((m.putForce e (some f)).event 0x0381 svNOTICE (f.words (m.rdLE (m.ringEntry i + 0x18) 4))).ringResult i 1

/-- Forces that leave the table, with a record each. -/
def Mod.ringRemove (m : Mod) (i : Nat) (l : List (Nat × Force)) : Mod :=
  (l.foldl (fun a e => (a.putForce e.1 none).event 0x0382 svNOTICE (e.2.words (m.rdLE (m.ringEntry i + 0x18) 4))) m).ringResult i 1

/-- A CLEAR request. -/
def Mod.ringClear (m : Mod) (i : Nat) : Mod :=
  match m.task.forces.find? (fun e => e.2.same (m.ringForce i)) with
  | none => m.ringResult i 6
  | some e => m.ringRemove i [e]

/-- A request with operation `op` is next, and this basic cycle start may still process one (R148). -/
def Mod.ringRun (m : Mod) (op : Nat) (f : Nat → Mod → Mod) : Mod :=
  match m.nextRequest with
  | none => m
  | some i => if m.task.forceBudget = 0 ∨ (m.rd8 (m.ringEntry i + 4)).toNat ≠ op then m else f i m

/-- FORCE_SET. -/
def execForceSet (s : State) : Outcome := run s (fun m => m.ringRun 1 (fun i a => a.ringSet i))
/-- FORCE_CLEAR. -/
def execForceClear (s : State) : Outcome := run s (fun m => m.ringRun 2 (fun i a => a.ringClear i))
/-- FORCE_CLEAR_ALL. -/
def execForceClearAll (s : State) : Outcome := run s (fun m => m.ringRun 3 (fun i a => a.ringRemove i a.task.forces))

end Sys2Proof.Machine
end

