-- ==== Sys2Proof/Machine/Time.lean ====
section
/-!
DEFINITION. Module time (R511 to R518): steps, the rate, and the triggers.
-/

namespace Sys2Proof.Machine

def Mod.setTim (m : Mod) (f : TimState → TimState) : Mod := { m with tim := f m.tim }

/-- Present instant in ns on the scale of trigger `n` (R517). -/
def Mod.trigNow (m : Mod) (n : Nat) : Nat := if m.flag Reg.TIM_TRIGn_CTL_BASE n then m.now else m.modTime / 10 ^ 9

/-- The next fire time of a trigger that has fired, if it is periodic: after a late firing, the first one after the present. -/
def nextFire (fire period now : Nat) (late : Bool) : Nat :=
  let next := fire + period
  if late && next ≤ now then fire + ((now - fire) / period + 1) * period else next

/-- Trigger `n` fires (R517): FIRED, the event tasks that name it, and its advance. -/
def Mod.trigFire (m : Mod) (n fire : Nat) (late : Bool) : Mod :=
  let m := m.put Reg.TIM_TRIGn_CTL_FIRED 1 n
  let m := if late then (m.put Reg.TIM_TRIGn_CTL_LATE 1 n).raise 4 1 else m
  let period := m.get Reg.TIM_TRIGn_PERIOD_PERIOD_US n * 1000
  let m := if period = 0 then
      (m.put Reg.TIM_TRIGn_CTL_ENABLE 0 n).setTim (fun t => { t with armed := alDel t.armed n })
    else m.setTim (fun t => { t with armed := alSet t.armed n (nextFire fire period (m.trigNow n) late) })
  m.triggerSource ⟨1, 0, n, 0, m.now⟩ (fun e => e.id == n)

/-- A trigger whose fire time is already past fires at once, late. -/
def Mod.trigLate (m : Mod) (n : Nat) : Mod :=
  match alGet m.tim.armed n with
  | some f => if f < m.trigNow n then m.trigFire n f true else m
  | none => m

/-- TIM_TRIGn_CTL has been written (R517): with ENABLE 1 the trigger is armed with the fire time written before. -/
def Mod.trigArm (m : Mod) (n : Nat) : Mod :=
  if m.flag Reg.TIM_TRIGn_CTL_ENABLE n then
    let fire := (m.get Reg.TIM_TRIGn_CTL_SEC_HI n * 2 ^ 32 + m.get Reg.TIM_TRIGn_SEC_LO_SEC_LO n) * 10 ^ 9 + m.get Reg.TIM_TRIGn_NS_NS n
    (m.setTim (fun t => { t with armed := alSet t.armed n fire })).trigLate n
  else m.setTim (fun t => { t with armed := alDel t.armed n })

/-- TRIGGER_FIRE (R517): the fire time of an armed trigger has come, within its ±1 µs. -/
def Mod.triggerFire (m : Mod) (n : Nat) : Mod :=
  match alGet m.tim.armed n with
  | some f => if f ≤ m.trigNow n + 1000 then (m.trigFire n f false).trigLate n else m
  | none => m

def execTriggerFire (n : Fin 8) (s : State) : Outcome := run s (fun m => m.triggerFire n.val)

/-- Module time becomes `ns` (nanoseconds since the epoch), with TIME_STEP and the rule for triggers of R518. `cause`: 0
software, 1 network. -/
def Mod.stepTo (m : Mod) (ns cause : Nat) : Mod :=
  let words := fun (x : Mod) => [x.secs / 2 ^ 32 % 2 ^ 16, x.secs % 2 ^ 32, x.nanos]
  let old := words m
  let m := { m with modTime := ns * 10 ^ 9 }
  let m := (m.put Reg.TIM_CTL_VALID 1).event 0x0080 svNOTICE (old ++ words m ++ [cause])
  (List.range 8).foldl (fun a n => if a.flag Reg.TIM_TRIGn_CTL_BASE n then a else a.trigLate n) m

/-- The pending step of software takes effect (R515). -/
def Mod.timeStep (m : Mod) : Mod :=
  if m.flag Reg.TIM_CTL_STEP then
    let s := m.get Reg.TIM_STEP_SEC_HI_SEC_HI * 2 ^ 32 + m.get Reg.TIM_STEP_SEC_LO_SEC_LO
    (m.put Reg.TIM_CTL_STEP 0).stepTo (s * 10 ^ 9 + m.get Reg.TIM_STEP_NS_NS) 0
  else m

/-- TIME_STEP. -/
def execTimeStep (s : State) : Outcome := run s Mod.timeStep

/-- RATE_SET (R516): software has written TIM_RATE_PPB; `old` is the value before. -/
def Mod.rateSet (m : Mod) (old : Nat) : Mod := m.event 0x0081 svNOTICE [old, m.get Reg.TIM_RATE_PPB_PPB]

end Sys2Proof.Machine
end

