-- ==== Sys2Proof/Machine/CycleOps.lean ====
section
/-!
DEFINITION. The CYC engine below its commands: tables in force (R248 to R251, R259 to R262), data sets (R252 to R254), nodes
(R255, R264, R312), polls (R239, R240) and announced changes (R259).
-/

namespace Sys2Proof.Machine

/-! ### Roles and tables in force -/

/-- CYC_STATUS.ROLE codes (R271). -/
def cyLISTENING : Nat := 1
def cyMASTER : Nat := 2
def cySTANDBY : Nat := 3
def cySILENT : Nat := 4
def Mod.cycRole (m : Mod) : Nat := m.get Reg.CYC_STATUS_ROLE
/-- CYC sends master frames (R234, R345). -/
def Mod.mastering (m : Mod) : Bool := m.cycRole == cyMASTER && !m.cyc.silent
/-- CYC copies inbound data sets (R234). -/
def Mod.copies (m : Mod) : Bool := m.mastering || m.cycRole == cySTANDBY

/-- Node ID of this module: that of its unit; a module without a twin is unit 1 (notes/assumptions/16.md). -/
def Mod.ownNode (m : Mod) : Nat := max 1 (m.get Reg.SYS_PROFILE_TWIN_POS)

/-- Case and kind in force. -/
def Mod.caseNow (m : Mod) : Nat := m.get Reg.CYC_COMPOSITION_CASE
def Mod.kindNow (m : Mod) : Nat := m.get Reg.CYC_STATUS_FALLBACK

def Mod.caseTable (m : Mod) (case_ i : Nat) : Option SchedTable :=
  m.cyc.dir.bind (fun d => d.cases[case_]?.bind (fun c => (c.tables.getD i none)))

/-- Table that channel `ch` runs under case `c` and kind `k` (R260): the fallback table on the surviving channel, or its
normal table where the case has none; nothing on the lost channel. -/
def Mod.tableOf (m : Mod) (c k ch : Nat) : Option SchedTable :=
  match k with
  | 0 => m.caseTable c ch
  | 1 => if ch = 0 then m.caseTable c 2 <|> m.caseTable c 0 else none
  | _ => if ch = 1 then m.caseTable c 3 <|> m.caseTable c 1 else none

/-- The case has the fallback table of kind `k`. -/
def Mod.hasFallback (m : Mod) (c k : Nat) : Bool := (m.caseTable c (k + 1)).isSome

def Mod.tableNow (m : Mod) (ch : Nat) : Option SchedTable := m.tableOf m.caseNow m.kindNow ch

/-- The table whose due times pass on channel `ch`: a lost channel without a fallback table still misses (R260). -/
def Mod.dueTable (m : Mod) (ch : Nat) : Option SchedTable :=
  if m.kindNow ≠ 0 ∧ m.hasFallback m.caseNow m.kindNow = false then m.caseTable m.caseNow ch else m.tableNow ch

/-- Index of the basic cycle in its macrocycle (R243). -/
def Mod.cycleIndex (m : Mod) : Nat := m.cycle % max 1 m.macroN

/-- Entry `e` of a table, if it belongs to this basic cycle. -/
def Mod.entryNow (m : Mod) (t : Option SchedTable) (e : Nat) : Option SchedEntry :=
  (t.bind (fun x => x.entries[e]?)).filter (fun x => x.index == m.cycleIndex)

/-- CYC sends on channel `ch`: nothing goes to a lost channel (R260). -/
def Mod.sends (m : Mod) (ch : Nat) : Bool := m.mastering && (m.tableNow ch).isSome && !(m.chan ch).lost

/-! ### Data sets (R252 to R254) -/

def stVALID : Nat := 1
def stFRESH : Nat := 2
def stSUBST : Nat := 4
def stSTALE : Nat := 16

/-- What a row of R254 does with the data. -/
inductive DsData where
  | payload (l : List Byte)
  | subst
  | keep

/-- Data set `d` with its status byte into the bank that is not current, and its bank bit flipped (R168, R254). -/
def Mod.dsWrite (m : Mod) (d : DsDesc) (status : Nat) (x : DsData) : Mod :=
  let to_ := inBank (1 - m.dsBank d.ds)
  let from_ := inBank (m.dsBank d.ds)
  let one := fun (a : Mod) (e : CopyEntry) =>
    match x with
    | .payload l => a.wrBytes (to_ + e.imgOff) (sliceB l e.dsOff e.len)
    | .subst => a.wrBytes (to_ + e.imgOff) (sliceB d.subst e.dsOff e.len)
    | .keep => a.copy (to_ + e.imgOff) (from_ + e.imgOff) e.len
  let a := d.copies.foldl one m
  let a := match x with
    | .payload l => a.setCyc (fun c => { c with payloads := alSet c.payloads d.ds l })
    | .subst => a.setCyc (fun c => { c with payloads := alSet c.payloads d.ds d.subst })
    | .keep => a
  (a.wr8 (to_ + 0xF000 + d.ds) (BitVec.ofNat 8 status)).setMapBit inSelect d.ds (m.dsBank d.ds == 0)

def Mod.missesOf (m : Mod) (n : Nat) : Nat := (alGet m.cyc.missCount n).getD 0
def Mod.setMisses (m : Mod) (n v : Nat) : Mod :=
  m.setCyc (fun c => { c with missCount := if v = 0 then alDel c.missCount n else alSet c.missCount n v })

/-- Status bits that a row keeps: those of `mask` from the present byte. -/
def keepBits (s mask : Nat) : Nat := s &&& mask

/-- A record received intact. -/
def Mod.dsIntact (m : Mod) (d : DsDesc) (valid : Bool) (payload : List Byte) : Mod :=
  ((m.dsWrite d (b2n valid + stFRESH) (.payload payload)).setMisses d.ds 0).setCyc (fun c => { c with
    arrived := if c.arrived.contains d.ds then c.arrived else c.arrived ++ [d.ds] })

/-- A due time passes without an intact record: the three miss rows. -/
def Mod.dsMiss (m : Mod) (d : DsDesc) : Mod :=
  let n := m.missesOf d.ds
  let s := m.dsStatus d.ds
  let m := m.count Reg.CYC_MISSES_TOTAL 1
  if d.missLimit ≤ n then m.dsWrite d (keepBits s 21) .keep
  else if n + 1 = d.missLimit then (m.dsWrite d (stVALID + stSUBST + keepBits s stSTALE) .subst).setMisses d.ds d.missLimit
  else (m.dsWrite d (keepBits s 21) .keep).setMisses d.ds (n + 1)

/-- Producer lost, excluded by its Porter or not in the case in force. -/
def Mod.dsLost (m : Mod) (d : DsDesc) : Mod :=
  (m.dsWrite d (stVALID + stSUBST + keepBits (m.dsStatus d.ds) stSTALE) .subst).setMisses d.ds d.missLimit

/-- Inbound data sets of the table in force. -/
def Mod.inbound (m : Mod) : List DsDesc := ((m.cyc.ioc.map (·.sets)).getD []).filter (fun d => !d.outbound)

/-- Inbound data sets that the tables in force carry. -/
def Mod.carried (m : Mod) : List Nat :=
  ((List.range 2).flatMap (fun ch => ((m.tableNow ch).map (fun t => t.entries.flatMap (·.sets))).getD [])).dedup

/-- FALLBACK_STALE at the first cycle of a schedule (R254). -/
def Mod.staleRows (m : Mod) : Mod :=
  let has := m.carried
  let fallback := m.kindNow != 0 && m.hasFallback m.caseNow m.kindNow
  m.inbound.foldl (fun a d =>
    let s := a.dsStatus d.ds
    let stale := a.cyc.stale.contains d.ds
    if has.contains d.ds || !fallback then
      if stale then
        (a.dsWrite d (keepBits s 5) .keep).setCyc (fun c => { c with stale := c.stale.filter (· != d.ds) })
      else a
    else if stale then a
    else
      (if d.substOnStale then a.dsWrite d (stVALID + stSUBST + stSTALE) .subst
       else a.dsWrite d (keepBits s 5 + stSTALE) .keep).setCyc (fun c => { c with stale := c.stale ++ [d.ds] })) m

/-! ### Nodes (R255, R264, R312) -/

def Mod.node (m : Mod) (n : Nat) : Option NodeState := m.cyc.nodeStates.find? (fun x => x.node == n)
def Mod.updNode (m : Mod) (n : Nat) (f : NodeState → NodeState) : Mod :=
  m.setCyc (fun c => { c with nodeStates := updFirst (fun x => x.node == n) f c.nodeStates })
def Mod.admittedCount (m : Mod) : Mod := m.put Reg.CYC_STATUS_ADMITTED m.cyc.nodeStates.length

/-- Node `n` is lost (R255): no longer named, its data sets substituted. -/
def Mod.nodeGone (m : Mod) (n : Nat) : Mod :=
  let m := (m.setCyc (fun c => { c with nodeStates := c.nodeStates.filter (fun x => x.node != n) })).admittedCount
  (m.inbound.filter (fun d => d.producer == n)).foldl (fun a d => a.dsLost d) m

def Mod.nodeLost (m : Mod) (n : Nat) : Mod :=
  if (m.node n).isNone then m else (m.nodeGone n).raise 0x73 9 0 [n]

/-- The node is admitted: named from the next macrocycle start (R312). -/
def Mod.nodeAdmit (m : Mod) (n : Nat) : Mod :=
  if (m.node n).isSome then m
  else (m.setCyc (fun c => { c with nodeStates := c.nodeStates ++ [⟨n, true, false, 0, 0, 0, 0, 0⟩] })).admittedCount

/-- Nodes that produce a DATA entry of group `g` in this basic cycle on channel `ch`, ascending (R240). -/
def Mod.producers (m : Mod) (ch g : Nat) : List Nat :=
  match m.tableNow ch with
  | none => []
  | some t => sortBy (· < ·) ((t.entries.filter (fun e => e.index == m.cycleIndex && e.type == 2 && e.group == g && e.node != 0)).map
      (·.node)).dedup

/-- Node `n` is named in the polls (R240). -/
def Mod.isNamed (m : Mod) (n : Nat) : Bool := (m.node n).any (·.named)

/-- Round to nearest, ties away from 0 (notes/assumptions/17.md). -/
def roundAway (a b : Int) : Int :=
  let q := (2 * a.natAbs + b.natAbs) / (2 * b.natAbs)
  if (a < 0) == (b < 0) then q else -q

/-- The rate correction of a node after a measurement `e` at START `t100` (R264). -/
def Mod.rateCorr (m : Mod) (n : Nat) (e : Int) (t100 : Nat) : Mod :=
  match m.node n with
  | none => m
  | some x =>
    let m := m.updNode n (fun y => { y with phase := max y.phase e.natAbs })
    if t100 < 2000 then m
    else
      let k : Int := if x.samples < 16 then 4 else 16
      let c := x.corr - roundAway (100000000 * e) (k * (t100 * 100))
      let c := max (-20000) (min 20000 c)
      let m := m.updNode n (fun y => { y with corr := c, samples := y.samples + 1, corrPeak := max y.corrPeak c.natAbs })
      if c.natAbs = 20000 then m.raise 0x74 10 0 [n] else m

/-- CYC_SYNC at a macrocycle start (R283). -/
def Mod.syncPeaks (m : Mod) : Mod :=
  let l := m.cyc.nodeStates
  let m := (m.put Reg.CYC_SYNC_PHASE_PEAK_NS (min 0xFFFF (l.foldl (fun a x => max a x.phase) 0))).put Reg.CYC_SYNC_CORR_PEAK
    (l.foldl (fun a x => max a x.corrPeak) 0)
  m.setCyc (fun c => { c with nodeStates := c.nodeStates.map (fun x => { x with phase := 0, corrPeak := x.corr.natAbs }) })

/-! ### Announced changes (R259 to R262) -/

/-- Registers that show the announced change (R271, R273, R276, R281). -/
def Mod.showAnnounce (m : Mod) : Mod :=
  let a := m.cyc.announce
  let m := (m.put Reg.CYC_STATUS_ANNOUNCED (b2n a.isSome)).put Reg.CYC_COMPOSITION_NEXT_VALID (b2n a.isSome)
  let m := (m.put Reg.CYC_COMPOSITION_NEXT_KIND ((a.map (·.kind)).getD 0)).put Reg.CYC_COMPOSITION_NEXT_CASE ((a.map (·.case_)).getD 0)
  m.put Reg.CYC_NEXT_CYCLE_CYCLE ((a.map (·.cycle)).getD 0xFFFFFFFF)

/-- The case change that is announced, decided or waits behind another change. -/
def Mod.casePending (m : Mod) : Option Nat :=
  let of := fun (a : Option Announce) => a.bind (fun x => if x.isCase then some x.case_ else x.thenCase)
  of m.cyc.announce <|> of m.cyc.decided <|> m.cyc.caseWanted

def Mod.showCasePending (m : Mod) : Mod := m.put Reg.CYC_SCHED_SELECT_PENDING (b2n m.casePending.isSome)

/-- Cycle of a change of kind to a fallback: two cycles after the loss (R259). -/
def Mod.fallbackCycle (m : Mod) : Nat :=
  let c := m.cycleAfter m.cycle 2
  if c = 0xFFFFFFFF then 0 else c

/-- The kind that reports the loss of channel `ch`. -/
def kindFor (ch : Nat) : Nat := if ch = 1 then 1 else 2

/-- A fallback is decided (R259): a pending case change comes after it. The polls of this cycle still carry what is announced
(R240); at the next cycle start the fallback takes its place. -/
def Mod.decideFallback (m : Mod) (kind : Nat) : Mod :=
  let waits := m.casePending
  (m.setCyc (fun c => { c with
    caseWanted := none, decided := some ⟨m.caseNow, kind, m.fallbackCycle, waits, false, false, false⟩ })).showCasePending

/-- A change to the normal kind is decided (R259, R261); it follows a change that is under way. -/
def Mod.decideReturn (m : Mod) : Mod :=
  if m.cyc.channels.any (·.lost) then m
  else match m.cyc.decided, m.cyc.announce with
    | some x, _ => if x.kind = 0 then m else m.setCyc (fun c => { c with decided := some { x with thenReturn := true } })
    | none, some x => if x.kind = 0 then m else m.setCyc (fun c => { c with announce := some { x with thenReturn := true } })
    | none, none =>
      if m.kindNow = 0 then m
      else m.setCyc (fun c => { c with decided := some ⟨m.caseNow, 0, m.macroAfter m.cycle 2, none, false, false, false⟩ })

/-- A case change is decided, or waits behind the change under way (R267). -/
def Mod.decideCase (m : Mod) (case_ : Nat) : Mod :=
  if m.cyc.announce.isSome || m.cyc.decided.isSome then (m.setCyc (fun c => { c with caseWanted := some case_ })).showCasePending
  else
    (m.setCyc (fun c => { c with
      caseWanted := none, decided := some ⟨case_, m.kindNow, m.macroAfter m.cycle 2, none, true, false, false⟩ })).showCasePending

/-- Channel `ch` is lost at this instant (R260, R262). -/
def Mod.loseChannel (m : Mod) (ch : Nat) (forced : Bool) : Mod :=
  if (m.chan ch).lost then (if forced then m.setChan ch (fun c => { c with forced := true }) else m)
  else
    let m := (m.setChan ch (fun _ => ⟨true, forced⟩)).put (if ch = 0 then Reg.CYC_STATUS_CH_A_OK else Reg.CYC_STATUS_CH_B_OK) 0
    let m := m.raise (0x71 + ch) 5
    if (m.chan (1 - ch)).lost then (m.setCyc (fun c => { c with bothLost := true })).raise 0x70 4
    else if m.mastering then m.decideFallback (kindFor ch)
    else m

/-- Channel `ch` returns (R261, R262). -/
def Mod.restoreChannel (m : Mod) (ch : Nat) : Mod :=
  if !(m.chan ch).lost then m
  else
    let m := (m.setChan ch (fun _ => ⟨false, false⟩)).put (if ch = 0 then Reg.CYC_STATUS_CH_A_OK else Reg.CYC_STATUS_CH_B_OK) 1
    let m := m.raise (0x71 + ch) 6
    if m.cyc.bothLost then
      let m := m.setCyc (fun c => { c with bothLost := false })
      if m.mastering then
        m.setCyc (fun c => { c with
          caseWanted := none
          decided := some ⟨m.caseNow, kindFor (1 - ch), m.cycleAfter m.cycle 1, m.casePending, false, false, false⟩ })
      else m
    else if m.mastering && m.flag Reg.CYC_CTL_AUTO_RETURN then m.decideReturn
    else m

/-- CYC_CTL holds channel `ch` lost (R260, R270). -/
def Mod.chanForced (m : Mod) (ch : Nat) : Bool :=
  m.get Reg.CYC_CTL_FORCE_FALLBACK == (if ch = 1 then 1 else 2) ||
    !m.flag (if ch = 0 then Reg.CYC_CTL_CH_A_EN else Reg.CYC_CTL_CH_B_EN)

/-- CYC_CTL as it takes effect at a basic cycle start. -/
def Mod.forcedChannels (m : Mod) : Mod :=
  (List.range 2).foldl (fun a ch =>
    if a.chanForced ch then a.loseChannel ch true else a.setChan ch (fun c => { c with forced := false })) m

/-- Data sets of nodes that the case in force excludes take their substitutes (R267). -/
def Mod.caseExcludes (m : Mod) : Mod :=
  let out := (m.cyc.nodes.filter (fun e => !bitOf e.cases m.caseNow)).map (·.node)
  out.foldl (fun a n => a.nodeGone n) m

/-- The change that follows an announced one, for the first macrocycle start after it (R259): a case change, which then uses
the table of the same kind, and after it a return. -/
def Mod.follower (m : Mod) (x : Announce) : Option Announce :=
  match x.thenCase with
  | some c => some ⟨c, x.kind, m.macroAfter m.cycle 1, none, true, false, x.thenReturn⟩
  | none => if x.thenReturn then some ⟨x.case_, 0, m.macroAfter m.cycle 1, none, false, false, false⟩ else none

/-- The change that is due at this cycle comes into force (R251, R259), unless a decided one takes its place. -/
def Mod.applyAnnounce (m : Mod) : Mod :=
  match m.cyc.announce with
  | none => m
  | some x =>
    if x.cycle ≠ m.cycle ∨ m.cyc.decided.isSome then m
    else
      let m := m.setCyc (fun c => { c with announce := none })
      let m := ((m.put Reg.CYC_COMPOSITION_CASE x.case_).put Reg.CYC_COMPOSITION_BASELINE (b2n (x.case_ == 0))).put
        Reg.CYC_STATUS_FALLBACK x.kind
      let m := if x.dir then m.dirSwap else m
      let m := (if x.isCase then m.caseExcludes else m).staleRows
      let m := m.setCyc (fun s => { s with decided := m.follower x })
      m.showAnnounce.showCasePending

/-- Both Porters that carry the channels report the directory staged (R294): a STAR Porter of this module by its
registers, one of the twin by its status message. -/
def Mod.dirStaged (m : Mod) (id : Nat) : Bool :=
  (List.range 2).all (fun s =>
    if m.flag Reg.PRT_CTL_MODE s then m.twn.peerStaged == id
    else m.flag Reg.PRT_STATUS_DIR_STAGED s && ((m.prtSt s).staged.map (·.id)) == some id)

/-- Decisions that a basic cycle start takes: a waiting case change, and a staged directory (R251, R294). -/
def Mod.cycleDecisions (m : Mod) : Mod :=
  if m.cyc.announce.isSome || m.cyc.decided.isSome then m
  else match m.cyc.caseWanted with
    | some c => m.decideCase c
    | none =>
      match m.cyc.nextDir with
      | some d =>
        if m.dirStaged d.id then
          m.setCyc (fun c => { c with decided := some ⟨m.caseNow, m.kindNow, m.macroAfter m.cycle 2, none, false, true, false⟩ })
        else m
      | none => m

/-- The decided change becomes the announced one. -/
def Mod.takeDecided (m : Mod) : Mod :=
  match m.cyc.decided with
  | none => m
  | some x => (m.setCyc (fun c => { c with announce := some x, decided := none })).showAnnounce.showCasePending

/-- The decided change is announced from this cycle's polls on; one for this very cycle comes into force (R262). -/
def Mod.announceDecided (m : Mod) : Mod :=
  if m.cyc.decided.any (fun x => x.cycle == m.cycle) then m.takeDecided.applyAnnounce.takeDecided else m.takeDecided

/-! ### Frames -/

/-- Something is heard on channel `ch` (R349). -/
def Mod.chanHeard (m : Mod) (ch : Nat) : Mod := m.setTwn (fun w => { w with chanAge := updAt w.chanAge ch (fun _ => 0) })

/-- A poll or a PRESENT frame of unit `u` is heard (R360, R361). -/
def Mod.peerHeard (m : Mod) (u : Nat) : Mod :=
  if m.hasTwin && u + m.ownNode == 3 then (m.put Reg.TWN_HEARTBEAT_AGE_FCN_AGE 0).put Reg.TWN_STATUS_PEER_FCN 1 else m

def Mod.sendFrame (m : Mod) (ch dst : Nat) (b : TxBody) : Mod := m.emit (.frame ch m.ownNode dst m.caseNow m.cycle b)

/-- TWIN_ROLE of the polls (R239): no twin, standby IN_SYNC, or standby absent or not in sync. -/
def Mod.twinRoleNow (m : Mod) : Nat :=
  if !m.hasTwin then 0
  else if m.flag Reg.TWN_STATUS_PEER_PRESENT && m.get Reg.TWN_STATUS_PEER_STATE == stSTANDBY &&
      m.get Reg.LGR_STATUS_MIRROR == miSYNC then 1
  else 2

/-- The MASTER_POLL of group `g` on channel `ch` (R239, R240). -/
def Mod.pollBody (m : Mod) (ch g : Nat) : PollBody :=
  let a := m.cyc.announce
  ⟨m.secs, m.nanos, g, m.task.forcedPoll, m.cyc.twinRole, m.kindNow, (a.map (·.case_)).getD 0, (a.map (·.kind)).getD 0,
    (a.map (·.cycle)).getD 0xFFFFFFFF, m.bcQ, m.macroN,
    ((m.producers ch g).filter m.isNamed).map (fun n => (n, ((m.node n).map (·.corr)).getD 0))⟩

/-- CYC sends the poll of group `g` on every channel whose table has it in this cycle. -/
def Mod.sendPoll (m : Mod) (g : Nat) : Mod :=
  (List.range 2).foldl (fun a ch =>
    if a.sends ch && (a.tableNow ch).any (fun t => t.entries.any (fun e => e.type == 1 && e.group == g && e.index == a.cycleIndex)) then
      a.sendFrame ch 0x3FF (.poll (a.pollBody ch g))
    else a) m

/-- Outputs that data set `d` carries are held in their safe state (R257). -/
def Mod.dsHeld (m : Mod) (d : DsDesc) : Bool :=
  m.unit == stSAFE || m.unit == stDEBUG ||
    (List.range 3).any (fun p => m.heldPair p && (m.descs p).any (fun t => d.copies.any (fun e =>
      (List.range e.len).any (fun i => inExtents t.outputs 1 (e.imgOff + i)))))

/-- Payload of outbound data set `d` from the published output bank (R253, R257). -/
def Mod.dsPayload (m : Mod) (d : DsDesc) : List Byte :=
  d.copies.foldl (fun l e => splice l e.dsOff ((List.range e.len).map (fun i => m.outByte (e.imgOff + i)))) (List.replicate d.len 0)

/-- CRC-32 of R241 over DS, SRC, CYCLE and the payload. -/
def dchk (ds src cycle : Nat) (l : List Byte) : Nat := crc32 (leBytes 2 ds ++ leBytes 2 src ++ leBytes 4 cycle ++ l)

/-- The record that the master sends of an outbound data set. -/
def Mod.dsRecord (m : Mod) (d : DsDesc) : DsRecord :=
  let held := m.dsHeld d
  let l := if held then sliceB d.subst 0 d.len else m.dsPayload d
  ⟨d.ds, b2n (!held), d.len, l, dchk d.ds m.ownNode m.cycle l⟩

end Sys2Proof.Machine
end

