-- ==== Sys2Proof/Machine/Cycle.lean ====
section
/-!
DEFINITION. The CYC engine's commands (R232 to R268) but the basic cycle start: polls of other groups, output slots, LOCAL
exchange, received frames, due times, channel loss and return, polls of other masters, discovery and inauguration.
-/

namespace Sys2Proof.Machine

/-! ### Master frames -/

/-- GROUP_POLL (R240): groups 1 to 7. -/
def execGroupPoll (g : Fin 8) (s : State) : Outcome := run s (fun m => if g.val = 0 then m else m.sendPoll g.val)

/-- OUTPUT_SLOT (R244, R257): a DATA entry of the master, read from the published bank. A MGMT slot may stay empty (R242). -/
def Mod.outputSlot (m : Mod) (ch e : Nat) : Mod :=
  match m.entryNow (m.tableNow ch) e with
  | none => m
  | some x =>
    let sets := (x.sets.filterMap m.ds).filter (·.outbound)
    if !m.sends ch || x.type != 2 || x.node != 0 || sets.isEmpty then m
    else m.sendFrame ch 0x3FF (.data (sets.map m.dsRecord))

def execOutputSlot (ch : Side) (entry : Nat) (s : State) : Outcome := run s (fun m => m.outputSlot ch.val entry)

/-- LOCAL_EXCHANGE (R258, R455): the inbound snapshot and the outbound delivery; without an answer the inbound set misses. -/
def Mod.localExchange (m : Mod) (answered : Bool) : Mod :=
  let answered := answered && m.flag Reg.DIO_CTL_ENABLE
  let m := m.put Reg.DIO_STATUS_LINK (b2n answered)
  if !m.copies then m
  else if !answered then
    match m.localSet false with
    | some d => m.dsMiss d
    | none => m
  else
    let m := match m.localSet false with
      | some d => (m.dsIntact d true m.dioSnapshot).setDio (fun x => { x with edges := 0 })
      | none => m
    match m.localSet true with
    | some d => if m.mastering then (let r := m.dsRecord d; m.dioDeliver r.payload (r.pstatus == 1)) else m
    | none => m

def execLocalExchange (answered : Bool) (s : State) : Outcome := run s (fun m => m.localExchange answered)

/-! ### Received DATA frames (R238, R241, R254 to R256, R264) -/

/-- The checks of R238 that need no cycle: FCS, VLAN, VERSION, SUBTYPE, BODY_LEN and channel. -/
def frameWellFormed (h : FrameHdr) (ch : Nat) : Bool :=
  h.fcsOk && !h.vlan && h.version == 1 && 1 ≤ h.subtype && h.subtype ≤ 9 && h.bodyLen ≤ h.present && h.channel == ch

/-- CYC discards the frame (R238). -/
def Mod.discards (m : Mod) (h : FrameHdr) (ch : Nat) : Bool :=
  !frameWellFormed h ch || h.cycle != m.cycle || h.case_ != m.caseNow

def Mod.frameDiscarded (m : Mod) (ch : Nat) : Mod := (m.count Reg.CYC_ERRORS_DISCARDS 1).raise (0x71 + ch) 7

/-- One record of a DATA body at its place in the slot's list (R241, R256). -/
def Mod.takeRecord (m : Mod) (h : FrameHdr) (want : Nat) (r : DsRecord) : Mod :=
  match m.ds want with
  | none => m
  | some d =>
    if d.outbound || r.ds != want || r.len != d.len || r.payload.length != d.len then m
    else if dchk r.ds h.src h.cycle r.payload != r.dchk then
      (m.count Reg.CYC_ERRORS_DCHK 1).raise 0x73 8 0 [h.src, want]
    else
      let m := m.dsIntact d (bitOf r.pstatus 0) r.payload
      if d.arrival then m.triggerSource ⟨4, 0, want, m.cycle, m.now⟩ (fun e => e.id == want) else m

/-- DATA_FRAME_RECEIVED: a frame in DATA slot `e` of channel `ch`, `err` ns after its START. -/
def Mod.dataFrame (m : Mod) (ch e : Nat) (h : FrameHdr) (rs : List DsRecord) (err : Int) : Mod :=
  let m := m.chanHeard ch
  if !m.copies then m
  else match m.entryNow (m.tableNow ch) e with
  | none => m
  | some x =>
    if x.type != 2 || x.node == 0 then m
    else if m.discards h ch then m.frameDiscarded ch
    else
      let m := if m.mastering && m.isNamed x.node then m.rateCorr x.node err x.start else m
      if h.subtype = 2 then
        let got := fun (a : Mod) => x.sets.any (fun n => a.cyc.arrived.contains n)
        let m := (x.sets.zip rs).foldl (fun a y => a.takeRecord h y.1 y.2) m
        if got m then m.updNode x.node (fun y => { y with misses := 0 }) else m
      else m

def execDataFrameReceived (ch : Side) (entry : Nat) (h : FrameHdr) (records : List DsRecord) (arrivalNs : Int) (s : State) : Outcome :=
  run s (fun m => m.dataFrame ch.val entry h records arrivalNs)

/-- DUE_TIME (R244, R254, R255): the slot end of entry `e` of channel `ch`. -/
def Mod.dueTime (m : Mod) (ch e : Nat) : Mod :=
  if !m.copies then m
  else match m.entryNow (m.dueTable ch) e with
  | none => m
  | some x =>
    if x.type != 2 || x.node == 0 then m
    else
      let sets := (x.sets.filterMap m.ds).filter (fun d => !d.outbound && !m.cyc.stale.contains d.ds)
      let missed := sets.filter (fun d => !m.cyc.arrived.contains d.ds)
      let m := missed.foldl (fun a d => a.dsMiss d) m
      let m := m.setCyc (fun c => { c with arrived := c.arrived.filter (fun n => !x.sets.contains n) })
      if m.mastering && m.isNamed x.node && !sets.isEmpty && missed.length == sets.length then
        let n := ((m.node x.node).map (·.misses)).getD 0 + 1
        let m := m.updNode x.node (fun y => { y with misses := n })
        if m.get Reg.CYC_FALLBACK_CFG_NODE_MISS_LIMIT ≤ n then m.nodeLost x.node else m
      else m

def execDueTime (ch : Side) (entry : Nat) (s : State) : Outcome := run s (fun m => m.dueTime ch.val entry)

/-- ADMIT_WAIT_EXPIRY (R254): data sets whose status is still 0x00 take their substitutes, once after RUN_ACTIVE. -/
def Mod.admitWait (m : Mod) : Mod :=
  if m.unit != stACTIVE || m.cyc.admitDone then m
  else
    let m := m.setCyc (fun c => { c with admitDone := true })
    m.inbound.foldl (fun a d =>
      if a.dsStatus d.ds = 0 then (a.dsWrite d (stVALID + stSUBST) .subst).setMisses d.ds d.missLimit else a) m

def execAdmitWaitExpiry (s : State) : Outcome := run s Mod.admitWait

/-! ### Channels (R260 to R262) -/

/-- CHANNEL_LOST. -/
def execChannelLost (ch : Side) (s : State) : Outcome := run s (fun m => m.loseChannel ch.val false)

/-- CHANNEL_RESTORED: RESTORE_MS have passed; a channel that CYC_CTL holds lost does not return. -/
def execChannelRestored (ch : Side) (s : State) : Outcome :=
  run s (fun m => if m.chanForced ch.val then m else m.restoreChannel ch.val)

/-- CYC_CTL.RETURN (R261). -/
def Mod.returnWrite (m : Mod) : Mod :=
  if m.mastering && !m.flag Reg.CYC_CTL_AUTO_RETURN then m.decideReturn else m

/-- CYC_SCHED_SELECT.CASE has been written (R267): a case that the directory holds is decided by the master. -/
def Mod.selectCase (m : Mod) (c : Nat) : Mod :=
  let m := m.put Reg.CYC_SCHED_SELECT_CASE c
  if (m.cyc.dir.map (fun d => d.cases.length)).getD 0 ≤ c then m
  else if m.mastering then m.decideCase c
  else (m.setCyc (fun s => { s with caseWanted := some c })).showCasePending

/-! ### Polls of other masters -/

/-- Backbone ports that serve as the cascade port of channel `ch` (R287). -/
def Mod.cascadePort (m : Mod) (s : Nat) : Option Nat :=
  match m.get Reg.PRT_CTL_CASCADE s with
  | 1 => some 24
  | 2 => some 25
  | _ => none

/-- Module time moved by `d` ns. -/
def Mod.shiftTime (m : Mod) (d : Int) : Mod := { m with modTime := ((m.modTime : Int) + d * 1000000000).toNat }

/-- A poll of the time leader on a backbone port (R265): a step at the next basic cycle start above 10 µs, else a rate of at
most ±100 ppm, which the manual leaves open (a free value). 2,140 ns is the forwarding delay of R291. -/
def Mod.leaderPoll (m : Mod) (port : Nat) (b : PollBody) : Mod :=
  if b.group != 0 || !m.cyc.leaderSet || !m.flag Reg.TIM_CTL_SOURCE then m
  else
    let there : Int := (b.timeSec * 1000000000 + b.timeNs : Nat) + 2140 + (m.cyc.leaderDelay.getD (port - 24) 0 : Nat)
    let off : Int := there - ((m.modTime / 1000000000 : Nat) : Int)
    let m := m.setCyc (fun c => { c with leaderOffset := off })
    let m := m.put Reg.CYC_STATUS_SYNC_LOCKED (b2n (off.natAbs ≤ 1000))
    if 10000 < off.natAbs then m.setCyc (fun c => { c with leaderStep := true })
    else
      let rate : Int := ((m.freeVal 32 % 200001 : Nat) : Int) - 100000
      (m.put Reg.TIM_RATE_PPB_PPB (ofSigned 32 rate)).freeNext

/-- A unit that follows a master sets its time at the poll (R263, R516); the delay of the path from the master's reference
instant to this unit is not stated: a free value of 32 bits, as LINK_DELAY_NS has. -/
def Mod.followTime (m : Mod) (b : PollBody) : Mod :=
  if m.unit != stSTANDBY || !m.flag Reg.TIM_CTL_SOURCE then m
  else
    let ns := b.timeSec * 1000000000 + b.timeNs + m.freeVal 32
    let m := m.freeNext
    if m.flag Reg.TIM_CTL_VALID then { m with modTime := ns * 1000000000 } else m.stepTo ns 1

/-- Nodes that the polls name are admitted at a standby too, and one that they name no longer is lost (notes/assumptions/18.md). -/
def Mod.followNamed (m : Mod) (ch : Nat) (b : PollBody) : Mod :=
  let gone := (m.producers ch b.group).filter (fun n => !b.named.any (fun x => x.1 == n))
  let m := (gone.filter (fun n => m.isNamed n)).foldl Mod.nodeGone m
  (b.named.foldl (fun a x =>
    let a := a.nodeAdmit x.1
    a.updNode x.1 (fun y => { y with waiting := false, named := true, corr := x.2 })) m).admittedCount

/-- A non-master follows a poll (R234, R268): cycle, case, kind, announcement, time. -/
def Mod.followPoll (m : Mod) (ch : Nat) (h : FrameHdr) (b : PollBody) : Mod :=
  let m := m.setCyc (fun c => { c with foreignPoll := true, started := true, pollMono := m.now })
  let m := if b.group = 0 ∧ m.unit = stSTANDBY then m.put Reg.CYC_STATUS_ROLE cySTANDBY else m
  let m := if b.group = 0 then m.put Reg.CYC_CYCLE_CYCLE h.cycle else m
  let same := m.caseNow == h.case_ && m.kindNow == b.fallback
  let m := if same then m
    else
      let caseChange := m.caseNow != h.case_
      let m := ((m.put Reg.CYC_COMPOSITION_CASE h.case_).put Reg.CYC_COMPOSITION_BASELINE (b2n (h.case_ == 0))).put
        Reg.CYC_STATUS_FALLBACK b.fallback
      if m.copies then (if caseChange then m.caseExcludes else m).staleRows else m
  let a : Option Announce := if b.nextCycle = 0xFFFFFFFF then none
    else some ⟨b.nextCase, b.nextKind, b.nextCycle, none, b.nextKind == b.fallback, m.cyc.nextDir.isSome && b.nextKind == b.fallback, false⟩
  let m := (m.setCyc (fun c => { c with announce := a, decided := none })).showAnnounce
  let m := if b.group = 0 then (m.setCyc (fun c => { c with cycleStart := m.now })).followTime b else m
  if m.cycRole = cySTANDBY then m.followNamed ch b else m

/-- The twin's side of a poll that this unit hears (R346, R361). -/
def Mod.twinPoll (m : Mod) (h : FrameHdr) (b : PollBody) : Mod :=
  if !m.hasTwin then m
  else
    let m := m.peerHeard h.src
    if b.group ≠ 0 then m
    else
      let m := m.setTwn (fun w => { w with polledNow := true, pollSeen := h.cycle, pollAge := 0 })
      if m.role = rlCLAIMING ∧ m.cycRole ≠ cyMASTER then
        ((m.setRole rlSTANDBY).setTwn (fun w => { w with claiming := none })).raise 0xD0 4
      else m

/-- MASTER_POLL_RECEIVED. CYCLE and CASE are what a non-master takes from a poll, so they do not discard it. -/
def Mod.pollReceived (m : Mod) (ch port : Nat) (h : FrameHdr) (b : PollBody) : Mod :=
  let m := m.chanHeard ch
  let backbone := 24 ≤ port && port ≤ 25 && m.cascadePort ch != some port
  if !frameWellFormed h ch || h.subtype != 1 then m.frameDiscarded ch
  else if backbone then m.leaderPoll port b
  else if m.mastering then (if m.discards h ch then m.frameDiscarded ch else m)
  else if m.cycRole = cyLISTENING ∨ m.cycRole = cySTANDBY then
    let first := !m.cyc.foreignPoll
    let m := if m.cycRole = cyLISTENING && !m.hasTwin && first && b.group == 0 then m.raise 0x000 1 0 [h.src] else m
    (m.followPoll ch h b).twinPoll h b
  else m.twinPoll h b

def execMasterPollReceived (ch : Side) (port : Port) (h : FrameHdr) (b : PollBody) (s : State) : Outcome :=
  run s (fun m => m.pollReceived ch.val port.val h b)

/-- TIME_LEADER_LOST (R265): 8 basic cycles without a poll of the leader; the rate is kept. -/
def Mod.leaderLost (m : Mod) : Mod :=
  if m.mastering && m.cyc.leaderSet then (m.put Reg.CYC_STATUS_SYNC_LOCKED 0).raise 0x74 11 else m

def execTimeLeaderLost (s : State) : Outcome := run s Mod.leaderLost

/-! ### Discovery (R312) -/

/-- DISCOVERY_REPLY (R312). -/
def Mod.discoveryReply (m : Mod) (ch port : Nat) (h : FrameHdr) (b : ReplyBody) : Mod :=
  if !m.mastering then m
  else if m.discards h ch || h.subtype != 3 then m.frameDiscarded ch
  else
    match m.cyc.nodes.find? (fun e => e.idHash == b.idHash && e.port ch == port) with
    | none => m.portFault ch port 5
    | some e =>
      if 200000 < b.ratePpb.natAbs ∨ (b.linkDelay ≠ 0xFFFFFFFF ∧ e.maxDelay < b.linkDelay) then m.portFault ch port 6
      else if b.linkDelay = 0xFFFFFFFF then m
      else if bitOf e.cases m.caseNow && (b.node == e.node || b.node == 0x3FF) then m.nodeAdmit e.node
      else m

def execDiscoveryReply (ch : Side) (port : Port) (h : FrameHdr) (b : ReplyBody) (s : State) : Outcome :=
  run s (fun m => m.discoveryReply ch.val port.val h b)

/-! ### Inauguration (R313 to R317) -/

/-- List in force of a side: that of channel A if the side's port on A has a link, else that of channel B (R314). -/
def Mod.sideList (m : Mod) (rear : Nat) : List Consist :=
  if m.flag Reg.PRT_Pp_STATUS_LINK 0 (24 + rear) then m.inaug.lists.getD rear [] else m.inaug.lists.getD (2 + rear) []

/-- This consist (R313, R533). -/
def Mod.ownConsist (m : Mod) (orient : Nat) : Consist :=
  ⟨(m.cfg.gen.map (·.consistId)).getD 0, (m.cfg.gen.map (·.consistType)).getD 0, orient⟩

def flipConsist (c : Consist) : Consist := { c with orient := 1 - c.orient }

/-- The view of a master (R315). -/
def Mod.inaugView (m : Mod) : List Consist :=
  ((m.sideList 0).reverse.map flipConsist) ++ [m.ownConsist 0] ++ m.sideList 1

/-- Lexicographic order on (TYPE, ORIENT) sequences: less, equal or greater. -/
def viewLess : List Consist → List Consist → Option Bool
  | a :: r, b :: s =>
    if a.type < b.type then some true
    else if b.type < a.type then some false
    else if a.orient < b.orient then some true
    else if b.orient < a.orient then some false
    else viewLess r s
  | [], _ :: _ => some true
  | _ :: _, [] => some false
  | [], [] => none

/-- The canonical order of a view and the own index in it (R315). -/
def canonical (v : List Consist) (own : Nat) : List Consist × Nat :=
  let w := v.reverse.map flipConsist
  let back := v.length - 1 - own
  match viewLess v w with
  | some true => (v, own)
  | some false => (w, back)
  | none => if (v.head?.map (·.id)).getD 0 ≤ (w.head?.map (·.id)).getD 0 then (v, own) else (w, back)

/-- The composition key (R315). -/
def compositionKey (v : List Consist) (pos : Nat) : Nat :=
  let l := leBytes 1 v.length ++ leBytes 1 pos ++ v.flatMap (fun c => leBytes 2 c.type ++ leBytes 1 c.orient)
  let k := leNat ((Config.sha384 l).take 8)
  if k = 0 then 1 else k

def Mod.setInaug (m : Mod) (f : InaugState → InaugState) : Mod := { m with inaug := f m.inaug }

/-- The lockstep runtime selects the case that inauguration agreed (R267, R316). -/
def Mod.inaugSelect (m : Mod) (case_ : Nat) : Mod := m.selectCase case_

/-- The view has been stable for 3 discovery windows: agreement (R315, R316). -/
def Mod.inaugAgree (m : Mod) : Mod :=
  let v := m.inaug.view
  if m.inaug.agreed || !m.inaug.running || m.inaug.stable < 3 || 9 < v.length || !decide ((v.map (·.id)).Nodup) then m
  else
    let (c, pos) := canonical v (m.sideList 0).length
    let key := compositionKey c pos
    let m := m.setInaug (fun i => { i with agreed := true, running := false })
    let m := m.raise (prtControl 0) 10 0 [key % 2 ^ 32, key / 2 ^ 32, c.length + 256 * pos]
    let m := m.setCyc (fun x => { x with leaderSet := decide (pos ≠ 0) })
    let m := (m.put Reg.CYC_STATUS_TIME_LEADER (b2n (pos == 0))).put Reg.CYC_STATUS_SYNC_LOCKED (b2n (pos == 0))
    match (((m.cyc.dir.map (·.cases)).getD []).zipIdx).find? (fun k => k.2 != 0 && k.1.key == key) with
    | some k => m.inaugSelect k.2
    | none => (m.raise (prtControl 0) 12).inaugSelect 0

/-- INAUGURATION: a list arrives on a backbone port; the view follows at the discovery windows. -/
def Mod.inauguration (m : Mod) (ch : Nat) (rear : Bool) (b : InaugBody) (delay : Nat) : Mod :=
  if !m.mastering then m
  else
    let m := m.setInaug (fun i => { i with lists := updAt i.lists (2 * ch + b2n rear) (fun _ => b.list) })
    let m := m.setCyc (fun c => { c with leaderDelay := updAt c.leaderDelay (b2n rear) (fun _ => delay) })
    let v := m.inaugView
    let m := if v = m.inaug.view then m else m.setInaug (fun i => { i with view := v, stable := 0, agreed := false, running := true })
    m.inaugAgree

def execInauguration (ch : Side) (rear : Bool) (b : InaugBody) (delayNs : Nat) (s : State) : Outcome :=
  run s (fun m => m.inauguration ch.val rear b delayNs)

/-- INAUGURATION_TIMEOUT (R316): case 0. -/
def Mod.inaugTimeout (m : Mod) : Mod :=
  if !m.mastering || !m.inaug.running then m
  else ((m.setInaug (fun i => { i with running := false })).raise (prtControl 0) 11).inaugSelect 0

def execInaugurationTimeout (s : State) : Outcome := run s Mod.inaugTimeout

/-- BACKBONE_LINK_CHANGE (R317): the port is UNINAUGURATED from the moment it gains a link; at a loss its list is cleared and
the exchange runs again. -/
def Mod.backboneLink (m : Mod) (ch : Nat) (rear up : Bool) : Mod :=
  let p := 24 + b2n rear
  if m.cascadePort ch = some p then m
  else
    let m := (m.put Reg.PRT_Pp_STATUS_LINK (b2n up) ch p).put Reg.PRT_Pp_STATUS_UNINAUGURATED (b2n up) ch p
    let m := if up then m else (m.prtPortFault ch p 4).setInaug (fun i => { i with lists := updAt i.lists (2 * ch + b2n rear) (fun _ => []) })
    let v := m.inaugView
    m.setInaug (fun i => { i with view := v, stable := 0, agreed := false, running := true })

def execBackboneLinkChange (ch : Side) (rear up : Bool) (s : State) : Outcome :=
  run s (fun m => m.backboneLink ch.val rear up)

/-- DISCOVERY_WINDOW (R314, R315): at DISC_START of each basic cycle the master sends its lists and counts the windows in which
its view has not changed; a module that follows polls sends its reply (R234, R309). -/
def Mod.discoveryWindow (m : Mod) : Mod :=
  if m.mastering then
    let v := m.inaugView
    let m := m.setInaug (fun i => { i with view := v, stable := if v = i.view then min 255 (i.stable + 1) else 0 })
    let m := (List.range 2).foldl (fun a ch => (List.range 2).foldl (fun b rear =>
      if b.sends ch && b.flag Reg.PRT_Pp_STATUS_LINK ch (24 + rear) && b.cascadePort ch != some (24 + rear) then
        let b := b.setInaug (fun i => { i with round := (i.round + 1) % 2 ^ 32 })
        b.sendFrame ch 0x3FF (.inaug ⟨(b.ownConsist 0).id, (b.ownConsist 0).type, rear, b.inaug.round, b.inaug.stable,
          b.ownConsist rear :: b.sideList (1 - rear)⟩)
      else b) a) m
    m.inaugAgree
  else if (m.cycRole = cyLISTENING ∨ m.cycRole = cySTANDBY) ∧ m.cyc.started then
    -- the module's own link delay and rate as a node are not stated: unmeasured, and a free rate
    let b : ReplyBody := ⟨m.ownNode, true, 0xFFFFFFFF, sext 32 (m.freeVal 32), sliceB (Config.sha384 m.sec.deviceCert) 0 16⟩
    ((m.sendFrame 0 0x3FF (.reply b)).sendFrame 1 0x3FF (.reply b)).freeNext
  else m

def execDiscoveryWindow (s : State) : Outcome := run s Mod.discoveryWindow

end Sys2Proof.Machine
end

