-- ==== Sys2Proof/Machine/Porter.lean ====
section
/-!
DEFINITION. The Porters (R286 to R312): forwarding and windows, LATE events and exclusion, Porter states, window directories,
links and cold start.
-/

namespace Sys2Proof.Machine

/-! ### Ports -/

/-- Ports of the variant (R286). -/
def Mod.portPresent (m : Mod) (p : Nat) : Bool := p == 26 || p == 24 || (p < 24 && (!m.is3110 || p < 12)) || (p == 25 && !m.is3110)
/-- Cascade port of a Porter in operation: CASCADE of its own settings, with the link measured (R287, R290). -/
def Mod.cascadeOf (m : Mod) (s : Nat) : Option Nat :=
  match (m.prtSt s).nvCascade with
  | 1 => some 24
  | 2 => some 25
  | _ => none
def Mod.isUnitPort (m : Mod) (s p : Nat) : Bool := p == 26 || m.cascadeOf s == some p
/-- A port that can carry frames: present, and the cascade port only with CASCADE_OK. -/
def Mod.portUsable (m : Mod) (s p : Nat) : Bool :=
  m.portPresent p && (m.cascadeOf s != some p || m.flag Reg.PRT_STATUS_CASCADE_OK s)
def Mod.backbonePorts (m : Mod) (s : Nat) : List Nat := [24, 25].filter (fun p => m.portPresent p && !m.isUnitPort s p)
def Mod.unitPorts (m : Mod) (s : Nat) : List Nat := 26 :: (m.cascadeOf s).toList
/-- The unit port of unit `u` (R299). -/
def Mod.unitPortOf (m : Mod) (s u : Nat) : Option Nat :=
  if (m.prtSt s).nvUnit = u then some 26 else m.cascadeOf s

/-- Egress ports of a DST map, without the ingress port (R289). -/
def Mod.egress (m : Mod) (s p dst : Nat) : List Nat :=
  ((((List.range 26).filter (fun q => bitOf dst q && !m.isUnitPort s q)) ++ (if bitOf dst 26 then m.unitPorts s else [])).filter
    (fun q => q != p && m.portUsable s q))

/-- Every star and backbone port, and every unit port but the ingress. -/
def Mod.allPorts (m : Mod) (s p : Nat) (back : Bool) : List Nat :=
  (List.range 27).filter (fun q => m.portUsable s q && (back || q != p))

def Mod.sendOn (m : Mod) (s p : Nat) (dst : List Nat) (f : PorterFrame) : Mod := m.emit (.forward s p dst f)

/-- Window tables in force: case, kind (R297, R305); none on a channel that the kind leaves lost. -/
def Mod.windowTable (m : Mod) (s : Nat) : Option WindowTable :=
  let k := m.get Reg.PRT_STATUS_KIND s
  ((m.prtSt s).current.bind (fun d => d.cases[m.get Reg.PRT_STATUS_CASE s]?)).bind (fun c =>
    if k = 0 then c.2.1 else if k = s + 1 then (c.2.2 <|> c.2.1) else none)

/-- The staged bank becomes current (R294). -/
def Mod.bankSwap (m : Mod) (s : Nat) : Mod :=
  match (m.prtSt s).staged with
  | none => m
  | some d => (m.setPrt s (fun t => { t with current := some d, staged := none, used := [] })).put Reg.PRT_STATUS_DIR_STAGED 0 s

/-- An announced change whose cycle has come (R259, R294, R317). -/
def Mod.prtAdvance (m : Mod) (s cycle : Nat) : Mod :=
  match (m.prtSt s).next with
  | none => m
  | some (c, k, n) =>
    if (cycle + m.cycleWrap - n) % m.cycleWrap < m.cycleWrap / 2 then
      let sameKind := m.get Reg.PRT_STATUS_KIND s == k
      let m := ((m.put Reg.PRT_STATUS_CASE c s).put Reg.PRT_STATUS_KIND k s).setPrt s (fun t => { t with next := none })
      let m := if sameKind then ([24, 25] : List Nat).foldl (fun a p => a.put Reg.PRT_Pp_STATUS_UNINAUGURATED 0 s p) m else m
      m.bankSwap s
    else m

/-! ### Windows (R299 to R304) -/

/-- Windows of the port: those of port 26 for both unit ports (R335). -/
def Mod.windowsOf (m : Mod) (s p : Nat) : List Window :=
  ((m.windowTable s).map (fun t => t.ports.getD (if m.isUnitPort s p then 26 else p) [])).getD []

/-- The open window at a cycle and tick: its index, the window, and the cycle in which it opened. -/
def openWindow (l : List Window) (bcQ macroN cycle tick : Nat) : Option (Nat × Window × Nat) :=
  let bc := bcQ * 2500
  let now := cycle % max 1 macroN * bc + tick
  let all := max 1 macroN * bc
  (l.zipIdx).findSome? (fun x =>
    let d := (now + all - x.1.at_ bcQ % max 1 all) % max 1 all
    if d < x.1.len then some (x.2, x.1, if x.1.open_ ≤ tick then cycle else cycle - 1) else none)

/-- The frame has a kind that the window admits at port `p` (R299). -/
def Mod.admits (m : Mod) (s p : Nat) (w : Window) (b : FrameBody) : Bool :=
  let master := m.get Reg.PRT_STATUS_MASTER_PORT s == p
  let unitP := m.isUnitPort s p
  match w.kind, b with
  | 1, .poll x => master && x.group == w.group
  | 2, .data => !unitP || master
  | 2, .mgmt => !unitP || master
  | 3, .reply _ => !unitP
  | 3, .inaug _ => if unitP then master else 24 ≤ p
  | 4, .claim _ => m.unitPortOf s 1 == some p
  | 4, .surrender _ => m.unitPortOf s 1 == some p
  | 5, .claim _ => m.unitPortOf s 2 == some p
  | 5, .surrender _ => m.unitPortOf s 2 == some p
  | _, _ => false

/-- A LATE event of a star or backbone port, and exclusion at the limit (R301, R302). The window runs from its first event. -/
def Mod.lateEvent (m : Mod) (s p : Nat) : Mod :=
  let t := m.prtSt s
  let since := alGet t.lateSince p
  let fresh := match since with | none => true | some t0 => decide (t.nvWindowMs * 1000000 ≤ m.now - t0)
  let n := if fresh then 1 else m.get Reg.PRT_Pp_STATUS_LATE_IN_WINDOW s p + 1
  let m := if fresh then m.setPrt s (fun t => { t with lateSince := alSet t.lateSince p m.now }) else m
  let m := ((m.put Reg.PRT_Pp_STATUS_LATE_IN_WINDOW (min 255 n) s p).count Reg.PRT_Pp_LATE_TOTAL 1 s p).prtPortFault s p 1
  if t.nvLimit ≤ n ∧ t.nvExclude = 1 then
    let m := ((m.put Reg.PRT_Pp_STATUS_EXCLUDED 1 s p).put Reg.PRT_Pp_STATUS_LATE_IN_WINDOW 0 s p).put Reg.PRT_Pp_STATUS_DISC_SEEN 0 s p
    let m := m.setPrt s (fun t => { t with lateSince := alDel t.lateSince p })
    (m.count Reg.PRT_Pp_LATE_EXCLUSIONS 1 s p).prtPortFault s p 2
  else m

/-- Blocks and truncations of the port are LATE events (R301). -/
def Mod.lateCounts (m : Mod) (s p : Nat) : Bool :=
  let st := m.prtState s
  !m.isUnitPort s p && (st == psSYNC || st == psFREERUN) && !m.flag Reg.PRT_Pp_STATUS_EXCLUDED s p &&
    !m.flag Reg.PRT_Pp_STATUS_TEST s p && !m.flag Reg.PRT_Pp_STATUS_UNINAUGURATED s p

/-- The frame is blocked (R300, R301, R327). -/
def Mod.blockFrame (m : Mod) (s p : Nat) : Mod :=
  let late := m.lateCounts s p
  let m := m.count Reg.PRT_Pp_BLOCKED_BLOCKED 1 s p
  if late then m.lateEvent s p else m

/-- Ports whose exclusion a poll ends: it names their node, and a reply of theirs has been forwarded (R304). -/
def Mod.readmitPorts (m : Mod) (s : Nat) (b : PollBody) : Mod :=
  (List.range 26).foldl (fun a p =>
    if a.flag Reg.PRT_Pp_STATUS_EXCLUDED s p && a.flag Reg.PRT_Pp_STATUS_DISC_SEEN s p && b.named.any (fun x => x.1 == a.portNode s p) then
      ((a.put Reg.PRT_Pp_STATUS_EXCLUDED 0 s p).put Reg.PRT_Pp_STATUS_DISC_SEEN 0 s p).prtPortFault s p 3
    else a) m

/-- The Porter anchors on a group 0 poll (R293, R305, R331). How it trims its oscillator is not stated: a free trim within
±200 ppm. -/
def Mod.anchor (m : Mod) (s : Nat) (f : PorterFrame) (b : PollBody) : Mod :=
  let bc := b.bcQ * 2500
  let err : Int := if 2 * f.tick < bc then (f.tick : Int) * 100 else ((f.tick : Int) - bc) * 100
  let err := max (-32767) (min 32767 err)
  let m := (m.put Reg.PRT_SYNC_PHASE_NS (ofSigned 16 err) s).put Reg.PRT_SYNC_TRIM
    (ofSigned 16 (((m.freeVal 16 % 40001 : Nat) : Int) - 20000)) s
  let m := (m.freeNext.put Reg.PRT_STATUS_FREE_RUN_CYCLES 0 s).setPrtState s psSYNC
  let m := (m.put Reg.PRT_STATUS_CASE f.case_ s).put Reg.PRT_STATUS_KIND b.fallback s
  m.setPrt s (fun t => { t with
    pollCycle := some (if 2 * f.tick < bc then f.cycle else m.cycleAfter f.cycle 1)
    next := if b.nextCycle = 0xFFFFFFFF then none else some (b.nextCase, b.nextKind, b.nextCycle) })

/-- Polls of the current master are absent (R348). -/
def Mod.pollsAbsent (m : Mod) (s cycle : Nat) : Bool :=
  let t := m.prtSt s
  t.pollCycle != some cycle || t.surrenderCycle == some cycle || (t.surrenderCycle.map (fun c => m.cycleAfter c 1)) == some cycle

/-- A CLAIM with INTENT TAKE in its window (R348). -/
def Mod.claimAccepted (m : Mod) (s cycle : Nat) : Bool :=
  m.pollsAbsent s cycle && (m.prtSt s).claimCycle != some cycle

/-- A frame that goes out at port 26 is heard by this module. -/
def Mod.heardInside (m : Mod) (s : Nat) (f : PorterFrame) : Mod :=
  let m := m.chanHeard s
  match f.body with
  | .claim c => m.peerHeard c.unit
  | _ => m

/-- What else a forwarded frame does. -/
def Mod.afterForward (m : Mod) (s p : Nat) (f : PorterFrame) : Mod :=
  match f.body with
  | .poll b => (if b.group = 0 then m.anchor s f b else m).readmitPorts s b
  | .reply _ =>
    let m := (m.count Reg.PRT_Pp_ERRORS_REPLIES 1 s p).emit (.reflect s p)
    if m.flag Reg.PRT_Pp_STATUS_EXCLUDED s p then m.put Reg.PRT_Pp_STATUS_DISC_SEEN 1 s p else m
  | .surrender _ =>
    if m.get Reg.PRT_STATUS_MASTER_PORT s = p then m.setPrt s (fun t => { t with surrenderCycle := some f.cycle }) else m
  | .claim c =>
    if c.take then (m.setPrt s (fun t => { t with claimCycle := some f.cycle })).setMasterPort s p else m
  | _ => m

/-- A frame in SYNC or FREE_RUN (R299). -/
def Mod.windowFrame (m : Mod) (s p : Nat) (f : PorterFrame) : Mod :=
  let d := (m.prtSt s).current
  let bcQ := (d.map (·.bcQ)).getD 0
  let guard := (d.map (·.guard)).getD 0
  match openWindow (m.windowsOf s p) bcQ ((d.map (·.macroN)).getD 0) f.cycle f.tick with
  | none => m.blockFrame s p
  | some (i, w, c0) =>
    let wp := if m.isUnitPort s p then 26 else p
    let anchored : Bool := match f.body with
      | .poll b => b.group != 0 || f.tick ≤ guard || bcQ * 2500 ≤ f.tick + guard
      | _ => true
    let inaugPort : Option Nat := match w.kind, f.body with
      | 3, .inaug b => if m.isUnitPort s p then some (24 + b.from_) else none
      | _, _ => none
    let key := match inaugPort with | some q => 100 + q | none => wp
    let once := !(m.prtSt s).used.contains (key, i, c0)
    let inDst := match inaugPort with | some q => bitOf w.dst q | none => true
    let open_ := !m.flag Reg.PRT_Pp_STATUS_EXCLUDED s p || w.kind == 3
    let claim : Bool := match f.body with
      | .claim c => !c.take || m.claimAccepted s f.cycle
      | _ => true
    if anchored && once && inDst && open_ && claim && m.admits s p w f.body then
      let dst := match inaugPort with | some q => [q] | none => m.egress s p w.dst
      let m := m.setPrt s (fun t => { t with
        used := (t.used.filter (fun u => u.1 != key || u.2.1 != i)) ++ [(key, i, c0)]
        busy := alSet t.busy p i })
      let m := (m.sendOn s p dst f).afterForward s p f
      if dst.contains 26 then m.heardInside s f else m
    else m.blockFrame s p

/-- The port is among those from which a Porter without a master port takes COLDSTART and group 0 polls (R295). -/
def Mod.masterPortAllowed (m : Mod) (s p : Nat) : Bool :=
  bitOf (((m.prtSt s).current.map (·.masterPorts)).getD 0) p

/-- A frame in LISTEN or COLD_HOLD (R305, R307). -/
def Mod.listenFrame (m : Mod) (s p : Nat) (f : PorterFrame) : Mod :=
  match f.body with
  | .poll b =>
    if b.group = 0 ∧ m.masterPortAllowed s p then
      let m := (m.put Reg.PRT_STATUS_MASTER_PORT p s).statusMessage s
      (m.sendOn s p (m.allPorts s p false) f).afterForward s p f
    else m.blockFrame s p
  | .coldstart _ =>
    if m.prtState s = psLISTEN ∧ m.masterPortAllowed s p then
      (m.sendOn s p (m.allPorts s p true) f).setPrtState s psCOLDHOLD
    else m.blockFrame s p
  | _ => m.blockFrame s p

/-- Test link of a port (R615). -/
def portLink (s p : Nat) : Nat := if p < 24 then 24 * s + p else 24 + p + 2 * s

/-- PORTER_FRAME (R299): a frame starts at a port. In RESET and LOADING a Porter takes nothing. -/
def Mod.porterFrame (m : Mod) (s p : Nat) (f : PorterFrame) : Mod :=
  let st := m.prtState s
  if st = psRESET ∨ st = psLOADING ∨ !m.portPresent p then m
  else
    let m := m.put Reg.PRT_Pp_STATUS_LINK 1 s p
    let m := m.setPrt s (fun t => { t with busy := alDel t.busy p })
    let m := if f.good then m else m.count Reg.PRT_Pp_ERRORS_RX_ERRORS 1 s p
    let m := match f.body with
      | .test e => if m.flag Reg.PRT_Pp_STATUS_TEST s p then m.testFrame (portLink s p) e else m
      | _ => m
    if !m.portUsable s p || m.flag Reg.PRT_Pp_STATUS_TEST s p then m.blockFrame s p
    else if st = psRELAY then
      match m.cascadeOf s with
      | some c =>
        if p = 26 then (if m.portUsable s c then m.sendOn s p [c] f else m)
        else if p = c then (m.sendOn s p [26] f).heardInside s f
        else m
      | none => m
    else if st = psUNCONFIGURED then m.blockFrame s p
    else
      let m := m.prtAdvance s f.cycle
      if m.flag Reg.PRT_Pp_STATUS_UNINAUGURATED s p then
        match f.body with
        | .inaug _ => m.sendOn s p (m.unitPorts s) f
        | _ => m.blockFrame s p
      else if st = psLISTEN ∨ st = psCOLDHOLD then m.listenFrame s p f
      else m.windowFrame s p f

def execPorterFrame (s : Side) (port : Port) (f : PorterFrame) (st : State) : Outcome :=
  run st (fun m => m.porterFrame s.val port.val f)

/-- WINDOW_CLOSE_TRUNCATE (R300): the forwarded frame of the port still arrives when its window closes. -/
def Mod.truncateFrame (m : Mod) (s p : Nat) : Mod :=
  match alGet (m.prtSt s).busy p with
  | none => m
  | some _ =>
    let m := (m.setPrt s (fun t => { t with busy := alDel t.busy p })).emit (.truncate s p)
    let m := m.count Reg.PRT_Pp_BLOCKED_TRUNCATED 1 s p
    if m.lateCounts s p then m.lateEvent s p else m

def execWindowCloseTruncate (s : Side) (port : Port) (st : State) : Outcome := run st (fun m => m.truncateFrame s.val port.val)

/-! ### Porter states (R305) -/

/-- PORTER_LOAD_COMPLETE. -/
def Mod.porterLoaded (m : Mod) (s : Nat) : Mod :=
  if m.prtState s ≠ psLOADING then m
  else
    let t := m.prtSt s
    let m := (m.put Reg.PRT_FW_SLOT (m.fwPart (3 + s)).cur s).put Reg.PRT_FW_VERSION ((m.fwPart (3 + s)).version (m.fwPart (3 + s)).cur) s
    let m := match m.cascadeOf s with | some p => m.put Reg.PRT_Pp_STATUS_CASCADE 1 s p | none => m
    if t.nvMode = 1 then m.setPrtState s psRELAY
    else if t.current.isSome then m.setPrtState s psLISTEN
    else (m.setPrtState s psUNCONFIGURED).prtControlFault s 7

def execPorterLoadComplete (s : Side) (st : State) : Outcome := run st (fun m => m.porterLoaded s.val)

/-- ANCHOR_MISSED: the predicted instant plus GUARD passes without the group 0 poll. -/
def Mod.anchorMissed (m : Mod) (s : Nat) : Mod :=
  let st := m.prtState s
  if st = psSYNC ∨ st = psFREERUN then (m.setPrtState s psFREERUN).count Reg.PRT_STATUS_FREE_RUN_CYCLES 1 s else m

def execAnchorMissed (s : Side) (st : State) : Outcome := run st (fun m => m.anchorMissed s.val)

/-- FREE_RUN_TIMEOUT: 8 basic cycles in FREE_RUN; the Porter has no master port any more. -/
def Mod.freeRunTimeout (m : Mod) (s : Nat) : Mod :=
  if m.prtState s = psFREERUN then
    ((m.setPrtState s psLISTEN).put Reg.PRT_STATUS_FREE_RUN_CYCLES 0 s).setMasterPort s 0x1F
  else m

def execFreeRunTimeout (s : Side) (st : State) : Outcome := run st (fun m => m.freeRunTimeout s.val)

/-- COLD_HOLD_TIMEOUT. -/
def execColdHoldTimeout (s : Side) (st : State) : Outcome :=
  run st (fun m => if m.prtState s.val = psCOLDHOLD then m.setPrtState s.val psLISTEN else m)

/-- PORTER_RESET. -/
def execPorterReset (s : Side) (st : State) : Outcome := run st (fun m => m.porterReset s.val)

/-- PORTER_RESET_END: the Porter loads its firmware and its current bank. -/
def execPorterResetEnd (s : Side) (st : State) : Outcome :=
  run st (fun m => if m.prtState s.val = psRESET then m.setPrtState s.val psLOADING else m)

/-! ### Directories and links -/

/-- Rates that the windows of one table send to the unit ports at once keep R288. -/
def unitLoadOk (bcQ : Nat) (t : WindowTable) : Bool :=
  let ws := (t.ports.zipIdx).flatMap (fun x => (x.1.filter (fun w => x.2 < 26 && bitOf w.dst 26 && w.kind ≤ 2)).map (fun w =>
    (w.at_ bcQ, w.len, if x.2 < 24 then 100 else 1000)))
  ws.all (fun a => ((ws.filter (fun b => b.1 ≤ a.1 && a.1 < b.1 + b.2.1)).map (fun b => b.2.2)).sum ≤ 1000)

/-- The window directory that PRT_WDIR names, if it passes R298. -/
def Mod.candWdir (m : Mod) (s : Nat) : Option WindowDir :=
  let b := m.base Reg.PRT_WDIR_OFFSET s
  match parseWindowDir (m.trd b) (m.tby b) (m.prtSt s).nvGuard s with
  | none => none
  | some d =>
    if (m.prtSt s).nvCascade = 0 ∨ d.cases.all (fun c => [c.2.1, c.2.2].all (fun t => (t.map (unitLoadOk d.bcQ)).getD true)) then
      some d
    else none

/-- DIRECTORY_STAGED (R294, R298): copied and checked; in UNCONFIGURED, and in LISTEN as the module starts, it is current at once
(R539). -/
def Mod.directoryStaged (m : Mod) (s : Nat) : Mod :=
  let st := m.prtState s
  if st = psRESET ∨ st = psLOADING then m
  else match m.candWdir s with
    | none => m.prtControlFault s 7
    | some d =>
      let m := (m.setPrt s (fun t => { t with staged := some d })).put Reg.PRT_STATUS_DIR_STAGED 1 s
      if st = psUNCONFIGURED then (m.bankSwap s).setPrtState s psLISTEN
      else if st = psLISTEN ∧ m.unit = stSTARTING then m.bankSwap s
      else m

def execDirectoryStaged (s : Side) (st : State) : Outcome := run st (fun m => m.directoryStaged s.val)

/-- CASCADE_LINK_UP (R290): the cascade delay is measured with a probe. -/
def Mod.cascadeUp (m : Mod) (s delay : Nat) : Mod :=
  let st := m.prtState s
  match m.cascadeOf s with
  | none => m
  | some p =>
    if st = psRESET ∨ st = psLOADING then m
    else
      let m := ((m.emit (.probe s)).put Reg.PRT_Pp_STATUS_DELAY_NS (min 0xFFFF delay) s p).put Reg.PRT_Pp_STATUS_LINK 1 s p
      let m := (m.put Reg.PRT_Pp_STATUS_CASCADE 1 s p).put Reg.PRT_STATUS_CASCADE_OK (b2n (delay ≤ 1400)) s
      if 1400 < delay then m.prtControlFault s 9 else m

def execCascadeLinkUp (s : Side) (delayNs : Nat) (st : State) : Outcome := run st (fun m => m.cascadeUp s.val delayNs)

/-- LINK_DOWN (R317, R320). -/
def Mod.linkDown (m : Mod) (s p : Nat) : Mod :=
  let st := m.prtState s
  if st = psRESET ∨ st = psLOADING ∨ !m.portPresent p then m
  else if m.cascadeOf s = some p then
    ((m.put Reg.PRT_Pp_STATUS_LINK 0 s p).put Reg.PRT_STATUS_CASCADE_OK 0 s).prtPortFault s p 4
  else if p = 24 ∨ p = 25 then m.backboneLink s (p == 25) false
  else (m.put Reg.PRT_Pp_STATUS_LINK 0 s p).prtPortFault s p 4

def execLinkDown (s : Side) (port : Port) (st : State) : Outcome := run st (fun m => m.linkDown s.val port.val)

/-! ### Cold start (R306 to R308) -/

/-- Listen timeout in ns (R306). -/
def Mod.listenNs (m : Mod) : Nat := 2 * m.get Reg.CYC_BC_US_US * 1000 + m.ownNode * 10000

/-- LISTEN_TIMEOUT: COLDSTART on both channels, once both STAR Porters of this module hold the schedule directory's windows (R539). In DEBUG the unit takes no master role (R543). -/
def Mod.listenTimeout (m : Mod) : Mod :=
  let heard := m.cyc.foreignPoll && decide (m.now < m.cyc.pollMono + m.listenNs)
  let staged := (List.range 2).all (fun s => m.flag Reg.PRT_CTL_MODE s || ((m.prtSt s).current.map (·.id)) == (m.cyc.dir.map (·.id)))
  if m.cycRole != cyLISTENING || heard || !staged || m.cyc.coldstartSent || m.unit == stDEBUG || m.twn.conflict then m
  else
    let b : ColdstartBody := ⟨m.secs, m.nanos, m.bcQ, m.macroN, m.caseNow, 2000⟩
    ((m.setCyc (fun c => { c with coldstartSent := true, foreignPoll := false })).sendFrame 0 0x3FF (.coldstart b)).sendFrame 1 0x3FF
      (.coldstart b)

def execListenTimeout (s : State) : Outcome := run s Mod.listenTimeout

/-- Master of the network that the COLDSTART starts, from the winners that the channels echoed (R308). -/
def coldstartMaster (own : Nat) (a b : Option Nat) : Bool :=
  let mine := a == some own || b == some own
  let others := [a, b].filterMap (fun x => x.filter (· != own))
  mine && others.all (own < ·)

/-- COLDSTART_ROLE_DECISION. -/
def Mod.roleDecision (m : Mod) (a b : Option Nat) : Mod :=
  if !m.cyc.coldstartSent then m
  else if coldstartMaster m.ownNode a b then
    m.setCyc (fun c => { c with coldstartSent := false, masterNext := true, fresh := true })
  else m.setCyc (fun c => { c with coldstartSent := false })

def execColdstartRoleDecision (echoA echoB : Option Nat) (s : State) : Outcome := run s (fun m => m.roleDecision echoA echoB)

end Sys2Proof.Machine
end

