-- ==== Sys2Proof/Machine/Restore.lean ====
section
/-!
DEFINITION. The loader (R540) and the Ledger's restore (R186, R189), at a start and at a takeover (R351).
-/

namespace Sys2Proof.Machine

/-! ### The loader (R224, R540) -/

/-- The record that a restore uses: in a fallback the held one (R586), else the valid, unheld one of the highest COMMIT. -/
def Mod.startRecord (m : Mod) : Option (Nat × MapRec) := if m.upd.boot.fallingBack then m.heldMap else m.selectedMap

/-- A trial runs the APP part of its package (notes/assumptions/21.md). -/
def Mod.trialApp (m : Mod) : Bool := m.upd.boot.trial && m.pkgHas 7

/-- PROGRAM_ID that the loader wants on pair `p`: that of the record, else that of the task release table in force. -/
def Mod.wantedProgram (m : Mod) (p : Nat) : Nat :=
  let table := (m.task.table.map (fun t => t.programs.getD (if m.triad then 0 else p) 0)).getD 0
  match m.startRecord with
  | none => table
  | some (_, r) => if m.trialApp || r.programs.getD p 0 = 0 then table else r.programs.getD p 0

/-- Pairs that run a program. -/
def Mod.lockstepPairs (m : Mod) : List Nat := (List.range 3).filter (fun p => !m.split p)

/-- An application set holds the program `id` of key `k`. -/
def AppSet.has (a : AppSet) (k id : Nat) : Bool :=
  id == 0 || a.programs.any (fun g => g.1 == k && ((g.2.info.map (·.programId)).getD 0) == id)

/-- The application set whose programs match becomes the current one. -/
def Mod.chooseSet (m : Mod) : Mod :=
  let fits := fun (a : AppSet) => m.lockstepPairs.all (fun p => a.has (m.chgKey p) (m.wantedProgram p))
  let c := m.chg
  let new : ChgState := match (c.current.filter fits), (c.previous.filter fits), (c.pendingSet.filter fits) with
    | some _, _, _ => c
    | none, some a, _ => { c with current := some a, previous := c.current }
    | none, none, some a => { c with current := some a, previous := c.current, pendingSet := none }
    | none, none, none => c
  { m with chg := new }

/-- The program of a pair goes into its active half; a pair without a matching program stays IDLE, and the unit will enter
SAFE (R540). -/
def Mod.loadPair (m : Mod) (p : Nat) : Mod :=
  let id := m.wantedProgram p
  if id = 0 then m
  else match m.chg.program (m.chgKey p) id with
    | some g => m.loadHalf p (m.half p) g
    | none => m.setCfg (fun c => { c with safeAtStart := true })

/-- The loader; an armed change that never reached its switch commit is lost (R224). -/
def Mod.loadPrograms (m : Mod) : Mod :=
  let m := m.chooseSet
  let m := m.lockstepPairs.foldl Mod.loadPair m
  if m.chg.pendingSet.isSome && !(m.updState == upSTAGED && m.pkgHas 7) then
    (((m.put Reg.TASK_CHG_STATUS_RESULT 6).raise 0x50 10 0 [m.chg.session, 0])).chgIdle
  else m

/-! ### Spaces -/

/-- Space of granule `g`: 0 to 2 the pairs' state, 3 OUT, 4 FRC, 5 RT (R170). -/
def spaceOf (g : Nat) : Nat := if g < 6144 then g / 2048 else if g < 6400 then 3 else if g < 6464 then 4 else 5

/-- Spaces of record `r` that hold a granule copy that cannot be read. -/
def Mod.badSpaces (m : Mod) (r : Option MapRec) : List (Nat × Nat) :=
  ((r.map (·.copies)).getD []).filterMap (fun x => (m.copyBad r x.1).map (fun a => (spaceOf x.1, a)))

/-- Bytes of granules `g` to `g + n - 1` under record `r`. -/
def Mod.recBytes (m : Mod) (r : Option MapRec) (g n : Nat) : List Byte := (List.range n).flatMap (fun i => m.copyContent r (g + i))

/-- The state region of pair `p` from record `r`, or from the program's initial state where `cold`. -/
def Mod.restoreSpace (m : Mod) (r : Option MapRec) (p : Nat) (cold : Bool) : Mod :=
  m.wrBytes (stateBase p) (m.recBytes (if cold then none else r) (m.spaceGranule p 0) 2048)

/-- The output record from record `r`. -/
def Mod.restoreOut (m : Mod) (r : Option MapRec) : Mod := m.wrBytes outRecord (m.recBytes r 6144 256)

/-- The force table from record `r` (R146). -/
def Mod.restoreForces (m : Mod) (r : Option MapRec) : Mod :=
  let l := m.recBytes r 6400 64
  m.setTask (fun t => { t with
    forces := (List.range 1024).filterMap (fun i => (parseForce (sliceB l (16 * i) 16)).map (fun f => (i, f))), setSeqs := [] })

def parseTrigData (l : List Byte) : TrigData := ⟨listLE l 0 1, listLE l 1 1, listLE l 2 2, listLE l 4 4, listLE l 8 8⟩

/-- A task entry of the runtime record into the sequencer; an entry never written, and one of a space that starts cold, is
that of a task before its first release. -/
def Mod.restoreTask (m : Mod) (l : List Byte) (cold : Bool) (d : TaskDyn) : Mod :=
  let e := sliceB l (64 * (48 * d.pair + d.task)) 64
  let b := fun i => listLE e i 1
  if cold || b 11 != 1 then
    let on := ((m.desc d.pair d.task).map (·.startEnabled)).getD false
    (m.put Reg.TASK_Tn_STATUS_ENABLED (b2n on) d.pair d.task).setDyn ⟨d.pair, d.task, 0, none, none, false, none, []⟩
  else
    let committed := if b 8 = 1 then some (listLE e 0 8) else none
    (m.put Reg.TASK_Tn_STATUS_ENABLED (b 9 % 2) d.pair d.task).setDyn
      ⟨d.pair, d.task, committed.elim 0 (· + 1), committed, if b 10 = 1 then some (parseTrigData (sliceB e 16 16)) else none, false,
        none, []⟩

/-- The task entries of the runtime record from record `r` (R171). -/
def Mod.restoreTasks (m : Mod) (r : Option MapRec) (cold : Nat → Bool) : Mod :=
  let l := m.recBytes r 6464 36
  m.task.dyn.foldl (fun a d => a.restoreTask l (cold d.pair) d) m

/-- The module entry from record `r`; SAFE_LATCH clears only by UNLATCH, so a start without a record keeps it
(notes/assumptions/22.md). -/
def Mod.restoreModule (m : Mod) (r : Option MapRec) : Mod :=
  match r.bind (fun x => alGet x.copies 6500) with
  | none => m
  | some _ =>
    let l := m.copyContent r 6500
    m.setLgr (fun s => { s with lastState := listLE l 0 1, safeLatch := listLE l 1 1 == 1 })

/-- Internal-variable forces of a space that starts cold are dropped and recorded (R186). -/
def Mod.dropVarForces (m : Mod) (cold : Nat → Bool) : Mod :=
  let gone := m.task.forces.filter (fun e => e.2.kind == 3 && cold (if m.triad then 0 else e.2.pair))
  let m := m.setTask (fun t => { t with forces := t.forces.filter (fun e => !gone.contains e) })
  gone.foldl (fun a _ => a.raise 0x50 11 0 [0, 0]) m

/-- Pairs whose LAYOUT_ID or PROGRAM_ID differs from the record's; every pair where PROFILE differs (R186 step 3). -/
def Mod.layoutChanged (m : Mod) (r : MapRec) : List Nat :=
  if r.profile ≠ b2n m.triad then List.range 3
  else (List.range 3).filter (fun p => !m.split p && (r.layouts.getD p 0 != m.layoutId p || r.programs.getD p 0 != m.programId p))

/-- Steps 3 and 4 of R186 from record `r`: each mismatch raises LAYOUT_CHANGED and starts its space cold; a space with an
uncorrectable copy is not used. -/
def Mod.restoreFrom (m : Mod) (r : Option MapRec) : Mod :=
  let changed := (r.map m.layoutChanged).getD (List.range 3)
  let profile := r.any (fun x => x.profile != b2n m.triad)
  let m := match r with
    | none => m
    | some _ => if profile then m.raise 0x60 4 else changed.foldl (fun a _ => a.raise 0x60 4) m
  let bad := m.badSpaces r
  let m := bad.foldl (fun a x => a.raise 0x60 5 x.2) m
  let lost := fun (s : Nat) => bad.any (fun x => x.1 == s)
  let m := if bad.isEmpty then m else m.setCfg (fun c => { c with safeAtStart := true })
  let cold := fun (p : Nat) => changed.contains p || lost p
  let space := fun (p : Nat) => if m.triad then cold 0 || cold 1 || cold 2 else cold p
  let m := m.lockstepPairs.foldl (fun a p => a.restoreSpace r p (space p)) m
  let m := m.restoreOut (if lost 3 then none else r)
  let m := m.restoreForces (if lost 4 then none else r)
  let rt := if profile || lost 5 then none else r
  let m := (m.restoreTasks rt space).restoreModule rt
  let m := (m.dropVarForces (fun p => changed.contains p)).setTask (fun t => { t with
    coldPairs := m.lockstepPairs.filter (fun p => changed.contains p) })
  let m := m.setLgr (fun l => { l with current := r, dirty := [], loose := [], looseDue := false, requests := [], commit := none })
  (m.checkOrphans m.gwByte).forceIndications.fillOutputs

/-! ### The restore at start (R186, R189, R586 step 4) -/

/-- Every LOCKSTEP pair is through its self-test. -/
def Mod.selftestsDone (m : Mod) : Bool :=
  m.lockstepPairs.all (fun p => m.lstate p != lnRESET && m.lstate p != lnSELFTEST)

/-- In a fallback every slot but the held one loses its record, and the hold ends. -/
def Mod.fallbackMaps (m : Mod) : Mod :=
  if m.upd.boot.fallingBack then
    (m.setLgr (fun l => { l with maps := (l.maps.filter (fun x => x.2.held)).map (fun x => (x.1, { x.2 with held := false })) })).put
      Reg.LGR_STATUS_HELD 0
  else m

/-- A trial holds the record that its first start selects (R189, R578 step 5). -/
def Mod.holdRecord (m : Mod) (slot : Nat) : Mod :=
  if m.upd.boot.trial && m.heldMap.isNone then
    m.setLgr (fun l => { l with maps := l.maps.map (fun x => if x.1 == slot then (x.1, { x.2 with held := true }) else x) })
  else m

/-- LGR_STATUS.HELD and LGR_SLOT.HELD_SLOT follow the held record. -/
def Mod.showHeld (m : Mod) : Mod :=
  match m.heldMap with
  | some (s, _) => (m.put Reg.LGR_STATUS_HELD 1).put Reg.LGR_SLOT_HELD_SLOT s
  | none => m.put Reg.LGR_STATUS_HELD 0

/-- The running LANE_FW can read a map record (R587). -/
def Mod.readsRecord (m : Mod) : Bool :=
  match (m.fwPart 1).payloads.getD (m.fwPart 1).cur [] with
  | [] => true
  | l => Config.firmwareReads l 2

/-- New firmware cannot read the settings it finds (R587): `item` 1 generation, 2 Ledger record. -/
def Mod.settingsUnreadable (m : Mod) (item : Nat) : Mod :=
  let m := (m.raise 0x140 2 0 [item, 1]).setUpd (fun u => { u with unreadable := true })
  if m.upd.policy.unreadable then m.updFallback 2 else m

/-- Both input banks read 0 after a start (R186). -/
def Mod.clearInputs (m : Mod) : Mod :=
  ((m.clear (inBank 0) 0x10000).clear (inBank 1) 0x10000).setCyc (fun c => { c with payloads := [] })

/-- LEDGER_RESTORE. -/
def Mod.ledgerRestore (m : Mod) : Mod :=
  if m.unit ≠ stSTARTING ∨ m.lgr.restored ∨ !m.selftestsDone then m
  else
    let m := ((List.range 8).filter (fun s => (alGet m.lgr.maps s).isNone)).foldl (fun a s => a.raise 0x60 3 (mramBase + 0x1000 * s)) m
    let highest := m.lgr.maps.foldl (fun a x => max a x.2.commit) 0
    let rec_ := m.startRecord
    let m := m.fallbackMaps
    let m := m.setLgr (fun l => { l with commits := if m.upd.boot.fallingBack then (rec_.map (·.2.commit)).getD 0 else highest })
    match rec_ with
    | none =>
      let m := ((m.raise 0x60 2).put Reg.LGR_STATUS_COLD 1).restoreFrom none
      let m := if m.upd.boot.fallingBack then m.fallenBack else m
      ((m.clearInputs.showHeld)).setLgr (fun l => { l with restored := true })
    | some (slot, r) =>
      let m := ((m.holdRecord slot).showHeld).put Reg.LGR_SLOT_SLOT slot
      let m := m.setLgr (fun l => { l with restored := true })
      if !m.readsRecord then
        (m.setCfg (fun c => { c with safeAtStart := true })).settingsUnreadable 2
      else
        let m := (m.put Reg.LGR_STATUS_COLD 0).restoreFrom (some r)
        let m := if m.upd.boot.fallingBack then m.fallenBack else m
        m.clearInputs

def execLedgerRestore (s : State) : Outcome := run s Mod.ledgerRestore

end Sys2Proof.Machine
end

