-- ==== Sys2Proof/Machine/Twin.lean ====
section
/-!
DEFINITION. Twin units (R333 to R357): heartbeats, Porter status messages, claims, takeover and the role swap; with the
first entry of the pairs into RUN, which a start (R542) and a takeover (R351) share.
-/

namespace Sys2Proof.Machine

/-! ### Pairs begin to run -/

/-- INIT entries of the tasks of pair `p`, in order (R118). -/
def Mod.initEntries (m : Mod) (p : Nat) : Mod :=
  ((((m.prog p).map (·.tasks)).getD []).filter (fun e => e.init != 0)).foldl
    (fun a e => a.emit (.init p e.index (halfBase p (a.half p) + e.init))) m

/-- Pairs of spaces that started cold run their INIT entries once (R118, R186). -/
def Mod.coldInits (m : Mod) : Mod :=
  (m.task.coldPairs.foldl Mod.initEntries m).setTask (fun t => { t with coldPairs := [] })

/-- Triggers that became pending while no release could latch (R115, R351, R356). -/
def Mod.latchAllPending (m : Mod) : Mod := m.task.dyn.foldl (fun a d => if 16 ≤ d.task then a.latchPending d.pair d.task else a) m

/-- A LOCKSTEP pair that waits in IDLE, or in RESTORE for a takeover, enters RUN. -/
def Mod.pairToRun (m : Mod) (p : Nat) : Mod :=
  let takes := (m.lane p).restart.any (·.takeover)
  if m.split p || !(m.lstate p == lnIDLE || (m.lstate p == lnRESTORE && takes)) then m
  else ((m.setLane p (fun l => { l with restart := none })).setLstate p lnRUN).put Reg.LANE_STATUS_CMP_CODE 1 p

/-- In TRIAD every pair that has not FAILED votes (R93, R99). -/
def Mod.votesOn (m : Mod) : Mod :=
  if !m.triad then m
  else
    let m := (List.range 3).foldl (fun a p => a.setVstate p (if a.lstate p = lnFAILED then vsFAILED else vsVOTING)) m
    m.setScl (fun s => { s with probation := [], backToProbation := [] })

/-- The pairs run, vote and take up what waits. -/
def Mod.pairsRun (m : Mod) : Mod :=
  ((List.range 3).foldl Mod.pairToRun m).votesOn.coldInits.latchAllPending

/-! ### The twin link (R338 to R340, R344, R347) -/

/-- Heartbeat of this unit (R338). -/
def Mod.heartbeatBody (m : Mod) : Heartbeat where
  unit := m.ownNode
  state := m.unit
  role := m.role
  mirrorEn := m.flag Reg.LGR_CTL_MIRROR_EN
  sync := if m.role = rlSTANDBY ∨ m.role = rlCLAIMING then m.flag Reg.TWN_STATUS_CURRENT
    else m.get Reg.LGR_STATUS_MIRROR == miSYNC
  changing := m.get Reg.TASK_CHG_STATUS_STATE != 0
  trial := m.flag Reg.SYS_STATE_TRIAL
  swapping := m.twn.swap.isSome || m.twn.swapSent
  cycle := m.cycle
  commit := m.lgr.commits

/-- The mirror has no peer (R191). -/
def Mod.mirrorOff (m : Mod) : Mod :=
  let st := m.get Reg.LGR_STATUS_MIRROR
  if st = miFULL ∨ st = miSYNC then
    ((m.put Reg.LGR_STATUS_MIRROR miNOPEER).put Reg.TWN_STATUS_SYNC_LOST 0).setLgr (fun l => { l with recorded := [], fullApplied := false })
  else m

/-- The mirror starts towards a standby that is present: a full copy of the last commit, once there is one
(notes/assumptions/23.md). -/
def Mod.mirrorOn (m : Mod) : Mod :=
  match m.lgr.current with
  | none => m
  | some r =>
    let m := (m.put Reg.LGR_STATUS_MIRROR miFULL).put Reg.TWN_STATUS_SYNC_LOST 1
    let m := m.setLgr (fun l => { l with recorded := [], fullApplied := false })
    m.emit (.mirror (m.mirrorOf ⟨[], [], [], m.now, r.sec, r.ns, false⟩ r (r.copies.map (·.1)) true))

/-- The mirror after a heartbeat (R191). -/
def Mod.mirrorPeer (m : Mod) : Mod :=
  let peer := m.flag Reg.TWN_STATUS_PEER_PRESENT && m.get Reg.TWN_STATUS_PEER_STATE == stSTANDBY
  if m.role != rlACTIVE then m
  else if !peer || !m.flag Reg.LGR_CTL_MIRROR_EN then m.mirrorOff
  else if m.get Reg.LGR_STATUS_MIRROR = miNOPEER then m.mirrorOn
  else m

def laneOk (lane : Nat) : Fld := if lane = 0 then Reg.TWN_STATUS_LANE0_OK else Reg.TWN_STATUS_LANE1_OK

/-- The peer's takeover ends the swap on the unit that gave up (R356). -/
def Mod.swapPeerActive (m : Mod) (role : Nat) : Mod :=
  if m.twn.swapSent && role == rlACTIVE && m.role == rlSTANDBY then
    ((m.setTwn (fun w => { w with swapSent := false })).put Reg.TWN_CTL_SWAP 0).raise 0xD0 7
  else m

/-- HEARTBEAT_RECEIVED. A heartbeat with the unit's own UNIT value comes from no peer (R344). -/
def Mod.heartbeat (m : Mod) (lane : Nat) (b : Heartbeat) : Mod :=
  if !m.hasTwin then m
  else
    let m := m.put (laneOk lane) 1
    if b.unit = m.ownNode then
      if m.twn.conflict then m else (m.setTwn (fun w => { w with conflict := true })).raise 0xD0 9
    else
      let m := (m.put Reg.TWN_HEARTBEAT_AGE_LINK_AGE 0).put Reg.TWN_STATUS_PEER_PRESENT 1
      let m := (m.put Reg.TWN_STATUS_LINK_LOST 0).put Reg.TWN_STATUS_PEER_STATE b.state
      let m := m.setTwn (fun w => { w with
        peerCommit := b.commit, peerSync := b.sync, peerSwapping := b.swapping, peerChanging := b.changing, peerTrial := b.trial })
      let m := if m.role = rlSTANDBY ∨ m.role = rlCLAIMING then m.put Reg.TWN_STATUS_CURRENT (b2n b.sync) else m
      (m.mirrorPeer).swapPeerActive b.role

def execHeartbeatReceived (lane : Fin 2) (b : Heartbeat) (s : State) : Outcome := run s (fun m => m.heartbeat lane.val b)

/-- A fault message of a Porter in the twin (R320, R339): its PEER flag is set. -/
def Mod.peerFault (m : Mod) (w : BitVec 64) : Mod :=
  let n := w.toNat
  { m with fc := { m.fc with reports := m.fc.reports ++
    [m.stamp (bitsOf n 54 10) (bitsOf n 46 8) (bitsOf n 40 2) true (bitsOf n 0 40) []] } }

/-- PORTER_STATUS_RECEIVED: the twin's Porter of lane `lane`. Where this unit's Porter of the channel is a RELAY, the twin's
is the channel's STAR Porter (R334). -/
def Mod.porterStatus (m : Mod) (lane : Nat) (b : PorterStatusMsg) : Mod :=
  if !m.hasTwin then m
  else
    let m := b.faults.foldl Mod.peerFault (m.put (laneOk lane) 1)
    if m.flag Reg.PRT_CTL_MODE lane then
      (m.chanHeard lane).setTwn (fun w => { w with peerPrt := b.prtStatus, peerExcluded := b.excluded, peerStaged := b.stagedId })
    else m

def execPorterStatusReceived (lane : Fin 2) (msg : PorterStatusMsg) (s : State) : Outcome :=
  run s (fun m => m.porterStatus lane.val msg)

/-- LANE_DOWN (R340). -/
def Mod.laneDown (m : Mod) (lane : Nat) : Mod :=
  if !m.hasTwin then m else (m.put (laneOk lane) 0).raise (0xD1 + lane) 2

def execLaneDown (lane : Fin 2) (s : State) : Outcome := run s (fun m => m.laneDown lane.val)

/-- TWIN_LINK_LOST (R340, R347, R191): HB_LIMIT basic cycles without a heartbeat. -/
def Mod.linkLost (m : Mod) : Mod :=
  if !m.hasTwin || m.flag Reg.TWN_STATUS_LINK_LOST || m.get Reg.TWN_HEARTBEAT_AGE_LINK_AGE < m.get Reg.TWN_CTL_HB_LIMIT then m
  else
    let m := ((m.put Reg.TWN_STATUS_LINK_LOST 1).put Reg.TWN_STATUS_PEER_PRESENT 0).raise 0xD0 1
    let m := if m.twn.polledNow then m.put Reg.TWN_STATUS_CURRENT 0 else m
    m.mirrorOff

def execTwinLinkLost (s : State) : Outcome := run s Mod.linkLost

/-! ### Claims (R341, R342, R345 to R349) -/

/-- Paths of TWN_TAKEOVER (R362). -/
def pathSAME : Nat := 1
def pathSURRENDER : Nat := 2
def pathSILENT : Nat := 3
def pathCHANNEL : Nat := 4
def pathSWAP : Nat := 5

/-- A frame of a claim slot goes out on both channels. -/
def Mod.sendBoth (m : Mod) (b : TxBody) : Mod := (m.sendFrame 0 0x3FF b).sendFrame 1 0x3FF b

def Mod.claimBody (m : Mod) (take : Bool) : ClaimBody :=
  ⟨m.ownNode, take, m.unit, m.flag Reg.TWN_STATUS_CURRENT, m.flag Reg.TWN_CTL_PRESTART, m.twn.pollSeen, m.lgr.commits⟩

/-- A pair goes into reset as its unit becomes standby (R356 step 3); the self-test follows at its release. -/
def Mod.pairToReset (m : Mod) (p : Nat) : Mod :=
  if m.lstate p = lnFAILED then m
  else (m.setLane p (fun l => { l with restart := none, cache := [], reservation := none })).setLstate p lnRESET

/-- Step 3 of R356: the unit enters RUN_STANDBY. A fallback that waited for the swap goes on (R586). -/
def Mod.swapGone (m : Mod) : Mod :=
  let m := m.leaveActive.setRole rlSTANDBY
  let m := (m.put Reg.CYC_STATUS_ROLE cySTANDBY).put Reg.LGR_STATUS_MIRROR miRECEIVING
  let m := (m.setTwn (fun w => { w with swap := none })).setCyc (fun c => { c with decided := none })
  let m := (List.range 3).foldl Mod.pairToReset (m.setRels (fun _ => []))
  let m := { m with gw := { m.gw with started := false, run := none } }
  let m := m.setState stSTANDBY
  match m.upd.fallbackDue with
  | some c => m.fallbackGo c
  | none => m

/-- CLAIM_SLOT: SURRENDER if one is due, else CLAIM with TAKE or PRESENT (R341, R345, R346). -/
def Mod.claimSlot (m : Mod) : Mod :=
  if !m.hasTwin then m
  else match m.twn.surrender with
  | some r =>
    let m := (m.setTwn (fun w => { w with surrender := none })).sendBoth (.surrender ⟨m.ownNode, r, m.twn.pollSeen, m.lgr.commits⟩)
    if r = 2 then m.swapGone else m
  | none =>
    if m.unit ≠ stSTANDBY then m
    else if m.role = rlCLAIMING ∧ m.twn.claimNextCycle = false then
      (m.count Reg.TWN_STATUS_CLAIMS 1).sendBoth (.claim (m.claimBody true))
    else m.sendBoth (.claim (m.claimBody false))

def execClaimSlot (s : State) : Outcome := run s Mod.claimSlot

/-- With PRESTART, the pairs of a standby that claims run their self-test (R354). -/
def Mod.prestart (m : Mod) : Mod :=
  if m.flag Reg.TWN_CTL_PRESTART then
    (List.range 3).foldl (fun a p =>
      if a.lstate p = lnIDLE then (a.setLane p (fun l => { l with prestart := true })).setLstate p lnSELFTEST else a) m
  else m

/-- A trigger of R346 at a standby: it claims if it is CURRENT or may take over stale, else it raises CLAIM_WITHHELD. -/
def Mod.claim (m : Mod) (path refMono : Nat) (next : Bool) : Mod :=
  if m.flag Reg.TWN_STATUS_CURRENT || m.flag Reg.TWN_CTL_STALE_TAKEOVER then
    ((m.setRole rlCLAIMING).put Reg.TWN_STATUS_CLAIMS 0).setTwn (fun w => { w with
      claiming := some path, claimNextCycle := next, refMono := refMono }) |>.prestart
  else m.raise 0xD0 5

/-- Instant at which the claim slot of unit `u` starts in this basic cycle. -/
def Mod.claimSlotStart (m : Mod) (ch u : Nat) : Nat :=
  m.cyc.cycleStart + (((m.tableNow ch).map (·.claimStart)).getD 0 + (if u = 2 then 100 else 0)) * 100

/-- SURRENDER_RECEIVED: on both channels, and handled once. `early`: by CLAIM_START + 6 µs (R346). -/
def Mod.surrenderReceived (m : Mod) (ch : Nat) (b : SurrenderBody) (early : Bool) : Mod :=
  let m := m.chanHeard ch
  if !m.hasTwin || m.unit != stSTANDBY || b.unit + m.ownNode != 3 || m.twn.surrenderSeen == some m.cycle then m
  else
    let m := (m.setTwn (fun w => { w with surrenderSeen := some m.cycle })).raise 0xD0 6
    if m.role ≠ rlSTANDBY then m
    else
      let same := early && m.ownNode == 2
      let path := if b.reason = 2 then pathSWAP else if same then pathSAME else pathSURRENDER
      m.claim path (m.claimSlotStart ch b.unit) (!same)

def execSurrenderReceived (ch : Side) (b : SurrenderBody) (early : Bool) (s : State) : Outcome :=
  run s (fun m => m.surrenderReceived ch.val b early)

/-- POLL_ABSENCE: two basic cycles without a group 0 poll. The reference instant of R352 is that of the first missing poll. -/
def Mod.pollAbsence (m : Mod) : Mod :=
  if !m.hasTwin || m.unit != stSTANDBY || m.role != rlSTANDBY || m.twn.polledNow || m.twn.pollAge < 1 then m
  else m.claim pathSILENT (m.cyc.cycleStart - m.twn.pollAge * m.bcQ * 250000) false

def execPollAbsence (s : State) : Outcome := run s Mod.pollAbsence

/-- CLAIM_ABANDON: 8 basic cycles without a group 0 poll (R346, R357). -/
def Mod.claimAbandon (m : Mod) : Mod :=
  if m.role != rlCLAIMING || m.unit != stSTANDBY || m.twn.polledNow || m.twn.pollAge < 7 then m
  else
    let m := (m.setRole rlSTANDBY).setTwn (fun w => { w with claiming := none })
    (m.put Reg.CYC_STATUS_ROLE cyLISTENING).setCyc (fun c => { c with foreignPoll := false, coldstartSent := false })

def execClaimAbandon (s : State) : Outcome := run s Mod.claimAbandon

/-! ### Takeover (R349, R351, R352) -/

/-- The Porter of this module that is a STAR Porter (R334). -/
def Mod.starPorter (m : Mod) : Nat := if m.flag Reg.PRT_CTL_MODE 0 then 1 else 0

/-- The path on which a claim is granted: both Porters have accepted it, or one has and the other channel is silent. -/
def Mod.granted (m : Mod) : Option Nat :=
  match m.role == rlCLAIMING, m.twn.claiming with
  | true, some path =>
    let s := m.starPorter
    let own := m.get Reg.PRT_STATUS_MASTER_PORT s == 26
    let port := bitsOf m.twn.peerPrt 8 5
    let peer := port == 24 || port == 25
    let silent := fun (ch : Nat) => 3 ≤ m.twn.chanAge.getD ch 0
    if own && peer then some path
    else if (own && silent (1 - s)) || (peer && silent s) then some pathCHANNEL
    else none
  | _, _ => none

/-- Steps 1 to 4 of R351. -/
def Mod.takeover (m : Mod) (path : Nat) : Mod :=
  let m := ((m.setRole rlACTIVE).raise 0xD0 3).setState stACTIVE
  let m := (m.count Reg.TWN_TAKEOVER_COUNT 1).put Reg.TWN_TAKEOVER_PATH path
  let m := m.setTwn (fun w => { w with claiming := if path = pathCHANNEL then w.claiming else some path, takingOver := true, swapSent := false })
  let m := (m.put Reg.LGR_STATUS_MIRROR miNOPEER).canStart
  let m := m.setCyc (fun c => { c with masterNext := true, silent := false, activeSince := m.now, admitDone := false })
  let m := { m with gw := { m.gw with started := false } }
  let m := (m.restoreFrom m.lgr.current).setUpd (fun u => { u with runSince := some m.now })
  ((List.range 3).foldl Mod.pairToRestore m).endTests

/-- CLAIM_GRANT. -/
def execClaimGrant (s : State) : Outcome :=
  run s (fun m => match m.granted with
    | some path => if m.unit = stSTANDBY then m.takeover path else m
    | none => m)

/-- TAKEOVER_RESTORE_COMPLETE: the end of step 3 of R351, after the self-test of R354. -/
def Mod.takeoverDone (m : Mod) : Mod :=
  if !m.twn.takingOver || m.unit != stACTIVE || m.lockstepPairs.any (fun p => m.lstate p == lnSELFTEST) then m
  else
    let swap := m.twn.claiming == some pathSWAP
    let m := m.put Reg.TWN_TAKEOVER_US (min 0xFFFFF ((m.now - m.twn.refMono) / 1000))
    let m := (m.setTwn (fun w => { w with takingOver := false, claiming := none })).pairsRun
    if swap then m.raise 0xD0 7 else m

def execTakeoverRestoreComplete (s : State) : Outcome := run s Mod.takeoverDone

/-! ### The role swap (R355, R356) -/

/-- Every latched release has reached its commit point or been skipped. -/
def Mod.quiet (m : Mod) : Bool :=
  m.task.releases.all (fun r => r.stage == .done) && m.lgr.requests.isEmpty && m.lgr.commit.isNone

/-- The accepted swap has started and still waits. -/
def Mod.swapWaits (m : Mod) : Option Nat :=
  match m.twn.swap with
  | some (n, true) => if m.twn.swapSent then none else some n
  | _ => none

/-- SWAP_QUIESCED: SURRENDER with REASON 2 is due in the claim slot. -/
def Mod.swapQuiesced (m : Mod) : Mod :=
  if m.swapWaits.isSome && m.quiet && m.get Reg.LGR_MIRROR_LAG_LAG == 0 then
    m.setTwn (fun w => { w with swapSent := true, surrender := some 2 })
  else m

def execSwapQuiesced (s : State) : Outcome := run s Mod.swapQuiesced

/-- SWAP_TIMEOUT: 4 basic cycles have passed; releases resume. A fallback that waited for the swap surrenders (R586). -/
def Mod.swapTimeout (m : Mod) : Mod :=
  match m.swapWaits with
  | none => m
  | some n =>
    if n < 4 then m
    else
      let m := ((m.setTwn (fun w => { w with swap := none })).put Reg.TWN_CTL_SWAP 0).swapRefused 6
      match m.upd.fallbackDue with
      | some c => (m.surrender 0).fallbackGo c
      | none => m.latchAllPending

def execSwapTimeout (s : State) : Outcome := run s Mod.swapTimeout

end Sys2Proof.Machine
end

