-- ==== Sys2Proof/Machine/Can.lean ====
section
/-!
DEFINITION. The CAN controllers' commands (R363 to R396): CAN basic cycles, cells and attempts, reception, error states,
recovery and time stamps.
-/

namespace Sys2Proof.Machine

/-! ### CAN basic cycles (R378, R382) -/

/-- The safe rule as it applies to a mailbox after its attempt (R383): the unit in SAFE or DEBUG, or a hold of limited scope
over a pair whose tasks write it. -/
def Mod.mbRule (m : Mod) (n k : Nat) : Mod :=
  if m.unit = stSAFE ∨ m.unit = stDEBUG ∨
      (m.unit = stACTIVE ∧ (List.range 3).any (fun p => m.heldPair p && m.writesMailbox p n k)) then m.mbSafe n k
  else m

/-- The attempt of controller `n` ends with state `v` for its mailbox. -/
def Mod.attemptOver (m : Mod) (n v : Nat) : Mod :=
  match (m.canSt n).attempt with
  | none => m
  | some a => (m.endAttempt n v).mbRule n a.mailbox

/-- One ARMED or HELD mailbox ages; at a VALID_BC other than 0 it becomes STALE. -/
def Mod.mbAgeStep (m : Mod) (n k : Nat) : Mod :=
  let st := m.mbState n k
  if st = mbARMED ∨ st = mbHELD then
    let age := m.mbAge n k + 1
    let m := m.setMbAge n k age
    let valid := m.rdLE (mbAddr n k + 6) 2
    if valid ≠ 0 ∧ valid ≤ age then (m.mbStale n k).raise (0xE0 + n) 4 0 [k] else m
  else m

/-- The matrix runs: in force, RUN set, the controller on the bus, and a locked one not paused (R378). -/
def Mod.matrixRuns (m : Mod) (n : Nat) : Bool :=
  match (m.canSt n).matrix with
  | none => false
  | some x => m.flag Reg.CAN_MATRIX_CTL_RUN n && m.canOnBus n &&
      !(x.lock && (m.cycRole == cyLISTENING || m.cycRole == cySILENT))

/-- CAN_CYCLE_START: the mode, the row and the ages. -/
def Mod.canCycle (m : Mod) (n : Nat) : Mod :=
  if m.canCount ≤ n then m
  else
    let m := (m.put Reg.CAN_STATUS_EFF_MODE (m.canMode n) n).setCan n (fun c => { c with waits := false })
    let rows := ((m.canSt n).matrix.map (·.cells.length)).getD 1
    let row := if ((m.canSt n).matrix.map (·.lock)).getD false then m.cycle % max 1 rows else (m.canSt n).rowNext
    let m := (m.put Reg.CAN_STATUS_ROW row n).setCan n (fun c => { c with rowNext := (row + 1) % max 1 rows })
    let m := m.put Reg.CAN_STATUS_MATRIX_RUN (b2n (m.matrixRuns n)) n
    (List.range 64).foldl (fun a k => a.mbAgeStep n k) m

def execCanCycleStart (n : Ctrl) (s : State) : Outcome := run s (fun m => m.canCycle n.val)

/-! ### Cells and attempts (R379 to R383) -/

/-- The mailbox as it stands. -/
def Mod.capture (m : Mod) (n k : Nat) : List Byte := m.rdBytes (mbAddr n k) 72

/-- CAN_CELL_OCCURRENCE: column `col` of the row in force. -/
def Mod.cellOccurs (m : Mod) (n col : Nat) : Mod :=
  match (m.canSt n).matrix with
  | none => m
  | some x =>
    if !m.flag Reg.CAN_STATUS_MATRIX_RUN n || x.columns.length ≤ col then m
    else
      let m := m.put Reg.CAN_STATUS_COLUMN col n
      let cell := (x.cells.getD (m.get Reg.CAN_STATUS_ROW n) []).getD col 0xFF
      let k := cell % 64
      if cell = 0xFF ∨ m.mbState n k ≠ mbARMED ∨ !m.canOnBus n ∨ m.get Reg.CAN_STATUS_EFF_MODE n ≠ 0 ∨ (m.canSt n).waits ∨
          (m.canSt n).attempt.isSome then m
      else
        let m := (m.setMbState n k mbSENDING).wr8 (stAddr n k + 5) 0
        m.setCan n (fun c => { c with attempt := some ⟨k, col, bitOf cell 6, m.capture n k, []⟩, rearm := false })

def execCanCellOccurrence (n : Ctrl) (col : Fin 32) (s : State) : Outcome := run s (fun m => m.cellOccurs n.val col.val)

/-- The contents that an attempt with its start of frame at count `ts` carries: those published last by then (R381). -/
def CanAttempt.contents (a : CanAttempt) (ts : Nat) : List Byte :=
  a.published.foldl (fun l x => if (ts + 2 ^ 32 - x.1) % 2 ^ 32 < 2 ^ 31 then x.2 else l) a.captured

/-- CAN_FRAME_SENT (R366, R381, R383): TS, and with FD, BRS and TDC the measured delay. -/
def Mod.frameSent (m : Mod) (n ts tdcv : Nat) (c : CanCounters) : Mod :=
  match (m.canSt n).attempt with
  | none => m
  | some a =>
    let mb := a.contents ts
    let ctrl := listLE mb 4 2
    let m := ((m.emit (.canFrame n mb)).wrLE (stAddr n a.mailbox) 4 ts).mbAttempt n a.mailbox
    let m := if bitOf ctrl 4 && bitOf ctrl 5 && m.flag Reg.CAN_DBT_TDC n then m.put Reg.CAN_STATUS_TDCV tdcv n else m
    (m.attemptOver n (if a.onUpdate then mbSENT else mbARMED)).canCounters n c

def execCanFrameSent (n : Ctrl) (ts : BitVec 32) (tdcv : BitVec 7) (c : CanCounters) (s : State) : Outcome :=
  run s (fun m => m.frameSent n.val ts.toNat tdcv.toNat c)

/-- The attempt fails; it is retried while the mailbox is SENDING (R379, R383). -/
def Mod.retry (m : Mod) (n : Nat) (a : CanAttempt) : Mod :=
  let m := m.mbAttempt n a.mailbox
  if m.mbState n a.mailbox = mbSENDING then m else m.setCan n (fun c => { c with attempt := none, rearm := false })

/-- ARBITRATION_LOST (R380). -/
def Mod.arbitrationLost (m : Mod) (n : Nat) : Mod :=
  match (m.canSt n).attempt with
  | none => m
  | some a =>
    let exclusive := (m.canSt n).matrix.any (fun x => (x.columns[a.column]?).any (fun c => c.type == 1))
    let m := m.retry n a
    if exclusive then m.raise (0xE0 + n) 6 0 [a.mailbox] else m

def execArbitrationLost (n : Ctrl) (s : State) : Outcome := run s (fun m => m.arbitrationLost n.val)

/-- CAN_BUS_ERROR (R379, R395). -/
def Mod.canError (m : Mod) (n : Nat) (c : CanCounters) : Mod :=
  let m := match (m.canSt n).attempt with
    | some a => m.retry n a
    | none => m
  m.canCounters n c

def execCanBusError (n : Ctrl) (c : CanCounters) (s : State) : Outcome := run s (fun m => m.canError n.val c)

/-- WINDOW_ABANDONED (R379): the mailbox is re-armed for its next occurrence. -/
def Mod.windowAbandoned (m : Mod) (n : Nat) : Mod :=
  match (m.canSt n).attempt with
  | none => m
  | some a => ((m.raise (0xE0 + n) 5 0 [a.mailbox]).count Reg.CAN_TX_STATS_ABANDONED 1 n).attemptOver n mbARMED

def execWindowAbandoned (n : Ctrl) (s : State) : Outcome := run s (fun m => m.windowAbandoned n.val)

/-! ### Reception (R385 to R390, R411) -/

/-- A filter matches a frame. -/
def CanFilter.fits (x : CanFilter) (f : CanFrame) : Bool :=
  bitOf x.flags 0 && (x.id % 2 ^ 29 &&& x.mask % 2 ^ 29) == (f.id % 2 ^ 29 &&& x.mask % 2 ^ 29) &&
    (!bitOf x.mask 29 || bitOf x.id 29 == f.ide) &&
    (match bitsOf x.flags 4 2 with | 1 => !f.fdf | 2 => f.fdf | _ => true)

/-- Payload of a frame; a remote frame has none. -/
def rxPayload (f : CanFrame) : List Byte := if f.rtr then [] else sliceB f.data 0 (dlcBytes f.dlc)

/-- The bytes of a queue entry (R386). -/
def rxEntry (f : CanFrame) (filter : Nat) : List Byte :=
  leBytes 4 (f.id % 2 ^ 29 + 2 ^ 29 * b2n f.ide + 2 ^ 30 * b2n f.rtr) ++
    leBytes 2 (f.dlc % 16 + 16 * b2n f.fdf + 32 * b2n f.brs + 64 * b2n f.esi) ++ leBytes 1 filter ++ leBytes 1 1 ++ leBytes 4 f.ts ++
    sliceB (rxPayload f) 0 64

/-- A frame for the queue (R387), with the receive trigger of its filter (R389). -/
def Mod.rxStore (m : Mod) (n i : Nat) (x : CanFilter) (f : CanFrame) : Mod :=
  let wr := m.get Reg.CAN_RX_STATUS_WR n
  if bitOf (m.rd8 (rqAddr n wr + 7)).toNat 0 then (m.count Reg.CAN_RX_STATUS_LOST 1 n).raise (0xE0 + n) 3
  else
    let m := (m.wrBytes (rqAddr n wr) (rxEntry f i)).put Reg.CAN_RX_STATUS_WR ((wr + 1) % 128) n
    if bitOf x.flags 2 then m.triggerSource ⟨3, 0, n, wr, m.stampMono n f.ts⟩ (fun e => e.id == n && e.param == i) else m

/-- The gateway's latch of a filter (R411). -/
def Mod.rxLatch (m : Mod) (n i : Nat) (f : CanFrame) : Mod :=
  let k := ((alGet (m.canSt n).latches i).map (·.number)).getD 0 + 1
  m.setCan n (fun c => { c with latches := alSet c.latches i ⟨rxPayload f, f.ts, k⟩ })

/-- A frame against the filters in force: the first match applies. In RUN_STANDBY nothing is stored (R390). -/
def Mod.rxFrame (m : Mod) (n : Nat) (f : CanFrame) : Mod :=
  let fs := ((m.canSt n).matrix.map (·.filters)).getD []
  match (fs.zipIdx).find? (fun x => x.1.fits f) with
  | none => m.count Reg.CAN_RX_STATUS_UNMATCHED 1 n
  | some (x, i) =>
    if m.unit = stSTANDBY then m
    else
      let m := if bitOf x.flags 3 then m.rxLatch n i f else m
      if bitOf x.flags 1 then m.rxStore n i x f else m

/-- CAN_FRAME_RECEIVED. An FD frame with FD_EN 0 is a form error; in TEST mode the pattern is checked (R392, R394, R397). -/
def Mod.frameReceived (m : Mod) (n : Nat) (f : CanFrame) (c : CanCounters) : Mod :=
  if !m.canOnBus n then m
  else
    let m := m.canCounters n c
    if m.get Reg.CAN_STATUS_EFF_MODE n = 3 then m.testFrame (52 + n) f.bitErrors
    else if f.fdf && !m.flag Reg.CAN_CTL_FD_EN n then m
    else m.rxFrame n f

def execCanFrameReceived (n : Ctrl) (f : CanFrame) (c : CanCounters) (s : State) : Outcome :=
  run s (fun m => m.frameReceived n.val f c)

/-! ### Error states and recovery (R395, R368) -/

/-- CAN_INTEGRATED: 11 recessive bits in INTEGRATING. -/
def Mod.canIntegrated (m : Mod) (n : Nat) : Mod :=
  if m.canState n = cnINTEGRATING then
    ((m.putErr n 0 0).setCanState n cnACTIVE).setCan n (fun c => { c with waits := true })
  else m

def execCanIntegrated (n : Ctrl) (s : State) : Outcome := run s (fun m => m.canIntegrated n.val)

/-- CAN_CTL.RECOVER: ignored but in BUS_OFF. -/
def Mod.canRecover (m : Mod) (n : Nat) : Mod := if m.canState n = cnBUSOFF then m.setCanState n cnRECOVERING else m

/-- RECOVERY_COMPLETE: the 128th sequence. -/
def Mod.canRecovered (m : Mod) (n : Nat) : Mod :=
  if m.canState n = cnRECOVERING then
    let m := (m.putErr n 0 0).setCanState n cnACTIVE
    let m := (List.range 64).foldl (fun a k => if a.mbState n k = mbHELD then a.setMbState n k mbARMED else a) m
    m.setCan n (fun c => { c with waits := true })
  else m

def execRecoveryComplete (n : Ctrl) (s : State) : Outcome := run s (fun m => m.canRecovered n.val)

/-- TXD_DOMINANT (R368). -/
def execTxdDominant (n : Ctrl) (s : State) : Outcome :=
  run s (fun m => if n.val < m.canCount then m.raise (0xE0 + n.val) 8 else m)

/-! ### Time stamps (R391) -/

/-- TIMESTAMP_CAPTURE: the counter and the monotonic time are captured together. -/
def Mod.tsCapture (m : Mod) : Mod :=
  (List.range 8).foldl (fun a n => (a.put Reg.CAN_TSCAP_CNT_CAP_CNT a.tsCount n).setCan n (fun c => { c with capMono := a.now })) m

def execTimestampCapture (s : State) : Outcome := run s Mod.tsCapture

end Sys2Proof.Machine
end

