-- ==== Sys2Proof/Machine/Gateway.lean ====
section
/-!
DEFINITION. The signal gateway (R408 to R422): sources, the arithmetic of an entry, destinations, and its phases.
-/

namespace Sys2Proof.Machine

/-! ### Sources (R409, R411, R415) -/

/-- The bridge answers with a bus error and nothing else (R443): it is off, or it has released the backplane. -/
def Mod.f2Off (m : Mod) : Bool := !m.flag Reg.LBB_CTL_ENABLE || m.lbbReleased

/-- The raw value of the bits at `bits`, least significant first, in a container. -/
def bitsValue (byte : Nat → Byte) (bits : List Nat) : Nat :=
  bits.foldr (fun b acc => b2n (bitOf (byte (b / 8)).toNat (b % 8)) + 2 * acc) 0

/-- A CAN source: invalid without a latched frame, beyond its length, without a GATEWAY filter, or not fresh. -/
def Mod.gwCan (m : Mod) (phase : Nat) (e : GwEntry) : Option (Nat → Byte) :=
  let n := bitsOf e.srcId 0 3
  let i := bitsOf e.srcId 3 6
  let filter := ((m.canSt n).matrix.bind (fun x => x.filters[i]?)).any (fun f => bitOf f.flags 0 && bitOf f.flags 3)
  match alGet (m.canSt n).latches i with
  | none => none
  | some l =>
    let stale := bitOf e.flags 4 && m.gw.seen.any (fun s => s.1 == phase && s.2.1 == e.srcId && s.2.2 == l.number)
    if !filter || stale || e.srcBits.any (fun b => l.data.length ≤ b / 8) then none else some (fun k => l.data.getD k 0)

/-- A data set source. -/
def Mod.gwSet (m : Mod) (e : GwEntry) : Option (Nat → Byte) :=
  match m.ds e.srcId with
  | none => none
  | some d =>
    let s := m.dsStatus d.ds
    if d.outbound || !bitOf s 0 || bitOf s 4 || (bitOf e.flags 4 && !bitOf s 1) || (bitOf e.flags 5 && bitOf s 2) then none
    else some (fun k => ((alGet m.cyc.payloads d.ds).getD []).getD k 0)

/-- The container of an entry's source, none if it reads as invalid, with the card replies left. -/
def Mod.gwSource (m : Mod) (phase : Nat) (e : GwEntry) (cs : List CardReply) : Mod × Option (Nat → Byte) × List CardReply :=
  match e.srcKind with
  | 1 => (m, m.gwCan phase e, cs)
  | 2 => (m, m.gwSet e, cs)
  | 3 => (m, some (fun k => m.inByte (e.srcOff + k)), cs)
  | 4 => (m, some (fun k => m.outByte (e.srcOff + k)), cs)
  | _ =>
    let n := 2 * f2ContainerWords e.srcBit e.srcLen
    match m.window e.srcOff n with
    | none => (m.f2Decode e.srcOff, none, cs)
    | some w =>
      if !m.flag Reg.LBB_WINw_CFG_RD w then (m.f2Decode e.srcOff, none, cs)
      else if m.f2Off then (m, none, cs)
      else if !m.f2Free then (m.f2TimedOut e.srcOff, none, cs)
      else
        let lock := bitOf e.flags 6
        let m := if lock then m.emit (.flock true) else m
        match m.f2Read w e.srcOff n cs with
        | (m', v, r) =>
          (if lock then m'.emit (.flock false) else m', v.map (fun x k => BitVec.ofNat 8 (x / 256 ^ k)), r)

/-! ### One entry (R415, R416, R420) -/

/-- Bits of `v` written at the cells of the entry over a working copy. -/
def putCells (work : List (Nat × Byte)) (cells : List (Nat × Nat)) (v : Nat) : List (Nat × Byte) :=
  (cells.zipIdx).foldl (fun l c =>
    let old := (alGet l c.1.1).getD 0
    alSet l c.1.1 (BitVec.ofNat 8 (bitPut old.toNat c.1.2 (bitOf v c.2)))) work

/-- Entry `i` of the map of run `g` in a phase. -/
def Mod.gwEntry (m : Mod) (g : GwRun) (i : Nat) (e : GwEntry) (cs : List CardReply) : Mod × GwRun × List CardReply :=
  match m.gwSource g.phase e cs with
  | (m, src, cs) =>
    let address := if e.srcKind = 5 then f2Base + e.srcOff else 0
    let (m, y) : Mod × Int := match src with
      | none => ((m.count Reg.GW_COUNTS_DEFAULTED 1).raise 0xF1 3 address [i], e.dflt)
      | some byte =>
        let raw := bitsValue byte e.srcBits
        let x : Int := if bitOf e.flags 0 then sext e.srcLen raw else raw
        let y := roundAway (x * e.num) e.den + e.offset
        let z := max e.min (min e.max y)
        (if z = y then m else m.count Reg.GW_COUNTS_SATURATED 1, z)
    (m, { g with work := putCells g.work e.dstCells (ofSigned e.dstLen y), entries := g.entries ++ [i] }, cs)

/-! ### Phases (R408, R413, R419 to R421) -/

/-- The gateway may run phases (R408). -/
def Mod.gwMayRun (m : Mod) : Bool := m.unit == stACTIVE && m.mastering && m.gw.started && m.flag Reg.GW_CTL_ENABLE

/-- The running phase is abandoned (R421). -/
def Mod.gwAbandon (m : Mod) : Mod :=
  if m.gw.run.isNone then m
  else (((m.setGw (fun s => { s with run := none })).count Reg.GW_STATUS_PHASE_LATE 1).raise 0xF0 2).gwRefresh

/-- Latches that the entries of a phase read, by their SRC_ID, with the frame that they hold now. -/
def Mod.gwSeen (m : Mod) (phase : Nat) (es : List GwEntry) : List (Nat × Nat × Nat) :=
  ((es.filter (fun e => e.srcKind == 1)).map (·.srcId)).dedup.filterMap (fun k =>
    (alGet (m.canSt (bitsOf k 0 3)).latches (bitsOf k 3 6)).map (fun l => (phase, k, l.number)))

/-- The entries of a phase in table order. -/
def Mod.gwEntries (m : Mod) (g : GwRun) : List (GwEntry × Nat) → List CardReply → Mod × GwRun
  | [], _ => (m, g)
  | (e, i) :: r, cs =>
    match m.gwEntry g i e cs with
    | (m', g', cs') => m'.gwEntries g' r cs'

/-- GATEWAY_PHASE_START: a phase still running is abandoned; then the entries of the phase run in order. The card replies
answer the F2 reads in their order. -/
def Mod.gwPhase (m : Mod) (k : Nat) (cs : List CardReply) : Mod :=
  match m.gw.map with
  | none => m
  | some g =>
    match g.phases[k]? with
    | none => m
    | some p =>
      if !m.gwMayRun || m.cycle % max 1 p.period != p.phase then m
      else
        let m := (m.gwAbandon).put Reg.GW_STATUS_PHASE k
        let es := ((g.entries.zipIdx).drop p.first).take p.count
        let seen := m.gwSeen k (es.map (·.1))
        match m.gwEntries ⟨k, m.gw.dest, [], g⟩ es cs with
        | (m', r) =>
          (m'.setGw (fun s => { s with run := some r, seen := s.seen.filter (fun x => x.1 != k) ++ seen })).gwRefresh

def execGatewayPhaseStart (phase : Fin 8) (cards : List CardReply) (s : State) : Outcome :=
  run s (fun m => m.gwPhase phase.val cards)

/-! ### Publication (R420) -/

/-- Output image bytes that the run wrote, as one publication. -/
def Mod.gwOutputs (m : Mod) (r : GwRun) (es : List GwEntry) : Mod :=
  let keys := ((es.filter (fun e => e.dstKind == 4)).flatMap (fun e => e.dstCells.map (·.1))).dedup
  m.publishBytes (m.withForces (keys.map (fun k => (k, (alGet r.work k).getD 0))))

/-- The mailbox of a template with the bytes of the run, SEND 1 (R417). -/
def gwMailboxBytes (r : GwRun) (t : GwTemplate) : List Byte :=
  let ctrl := if bitOf t.ctrlw 6 then t.ctrlw else t.ctrlw + 64
  leBytes 4 t.id ++ leBytes 2 ctrl ++ leBytes 2 t.valid ++ (List.range 64).map (fun i => (alGet r.work (mbxKey t.ctrl t.mbx i)).getD 0)

def Mod.gwMailboxes (m : Mod) (r : GwRun) (es : List GwEntry) : Mod :=
  (r.map.templates.filter (fun t => es.any (fun e =>
    e.dstKind == 1 && bitsOf e.dstId 0 3 == t.ctrl && bitsOf e.dstId 3 6 == t.mbx))).foldl
    (fun a t => a.canPublish t.ctrl t.mbx (gwMailboxBytes r t)) m

/-- F2 containers that entries of the run write: address, bytes, LOCKED and the first entry, ascending. -/
def gwContainers (es : List (GwEntry × Nat)) : List (Nat × Nat × Bool × Nat) :=
  let l := es.filter (fun e => e.1.dstKind == 5)
  let at_ := (l.map (fun e => e.1.dstOff)).dedup
  (sortBy (· < ·) at_).map (fun a =>
    let here := l.filter (fun e => e.1.dstOff == a)
    (a, here.foldl (fun n e => max n (2 * f2ContainerWords e.1.dstBit e.1.dstLen)) 0, here.any (fun e => bitOf e.1.flags 6),
      (here.head?.map (·.2)).getD 0))

/-- One container is written to the backplane; a failure raises DEST_WRITE_FAILED. -/
def Mod.gwWrite (m : Mod) (r : GwRun) (c : Nat × Nat × Bool × Nat) (cs : List CardReply) : Mod × List CardReply :=
  let a := c.1
  let n := c.2.1
  let fails := fun (x : Mod) => x.raise 0xF1 4 (f2Base + a) [c.2.2.2]
  let v := leNat ((List.range n).map (fun i => (alGet r.work (f2Key (a + i))).getD 0))
  match m.window a n with
  | none => (fails (m.f2Decode a), cs)
  | some w =>
    if !m.flag Reg.LBB_WINw_CFG_WR w then (fails (m.f2Decode a), cs)
    else if m.f2Off then (fails m, cs)
    else if !m.f2Free then (fails (m.f2TimedOut a), cs)
    else
      let m := if c.2.2.1 then m.emit (.flock true) else m
      match m.f2Write w a n v cs with
      | (m', ok, cs') =>
        let m' := if c.2.2.1 then m'.emit (.flock false) else m'
        (if ok then m' else fails m', cs')

def Mod.gwWrites (m : Mod) (r : GwRun) : List (Nat × Nat × Bool × Nat) → List CardReply → Mod
  | [], _ => m
  | c :: l, cs =>
    match m.gwWrite r c cs with
    | (m', cs') => m'.gwWrites r l cs'

/-- GATEWAY_PHASE_END. A unit that no longer runs the gateway publishes nothing. -/
def Mod.gwEnd (m : Mod) (cs : List CardReply) : Mod :=
  match m.gw.run with
  | none => m
  | some r =>
    let same := m.gw.map == some r.map
    let m0 := m.setGw (fun s => { s with run := none, dest := if same && m.gwMayRun then r.work else s.dest })
    if !m.gwMayRun then m0.gwRefresh
    else
      let es := r.entries.filterMap (fun i => (r.map.entries[i]?).map (fun e => (e, i)))
      let a := (m0.gwOutputs r (es.map (·.1))).gwMailboxes r (es.map (·.1))
      (a.gwWrites r (gwContainers es) cs).gwRefresh

def execGatewayPhaseEnd (cards : List CardReply) (s : State) : Outcome := run s (fun m => m.gwEnd cards)

/-- PHASE_LATE. -/
def execPhaseLate (s : State) : Outcome := run s Mod.gwAbandon

end Sys2Proof.Machine
end

