-- ==== Sys2Proof/Machine/Bridge.lean ====
section
/-!
DEFINITION. The F2 backplane bridge's commands (R424 to R437): outbound accesses and their rights, the matcher of TRIAD,
legacy masters, request lines, and prefetch.
-/

namespace Sys2Proof.Machine

/-! ### Rights and form of an access (R426, R427, R429, R443) -/

/-- Width, whether the access writes, and whether it is an AMO, LR or SC. -/
def opWidth : BusOp → Nat
  | .read w => w.bytes | .write w _ => w.bytes | .amo w _ _ => w.bytes | .lr w => w.bytes | .sc w _ => w.bytes | .fetch w => w.bytes
def opWrites : BusOp → Bool
  | .write _ _ => true | .amo _ _ _ => true | .sc _ _ => true | _ => false

/-- The initiator may make the access (R429, R62, R437, R626). -/
def Mod.f2May (m : Mod) (who : Initiator) (op : BusOp) (a : Nat) : Bool :=
  let wr := opWrites op
  match who with
  | .pair p => !m.split p.val && (!wr || (!m.triad && !m.heldPair p.val))
  | .split p c => m.split p.val && !wr && m.firewallReads p.val c.val (f2Base + a) (opWidth op)
  | .mc => if wr then m.unit == stBOOT || m.unit == stCONFIG || m.unit == stSAFE else m.unit != stSURRENDERED
  | .debug => m.flag Reg.DBG_STATUS_PORT_LIVE && !wr
  | _ => false

/-- The window permits the access (R425, R427). -/
def Mod.winAllows (m : Mod) (w : Nat) (op : BusOp) : Bool :=
  match op with
  | .read _ => m.flag Reg.LBB_WINw_CFG_RD w
  | .write _ _ => m.flag Reg.LBB_WINw_CFG_WR w
  | .amo _ _ _ => m.flag Reg.LBB_WINw_CFG_AMO w
  | .lr _ => m.flag Reg.LBB_WINw_CFG_RD w
  | .sc _ _ => m.flag Reg.LBB_WINw_CFG_WR w
  | .fetch _ => m.flag Reg.LBB_WINw_CFG_RD w

/-- Accesses that get a bus error response though a window permits them: a misaligned access, a fetch, LR and SC, and an
initiator without the right. -/
def Mod.f2Refused (m : Mod) (who : Initiator) (op : BusOp) (a : Nat) : Bool :=
  a % opWidth op != 0 || !m.f2May who op a ||
    (match op with | .lr _ => true | .sc _ _ => true | .fetch _ => true | _ => false)

/-! ### The matcher (R434) -/

/-- A read of a pair in TRIAD: performed by the first pair to issue it, and held for the others. -/
def Mod.matched (m : Mod) (p a n : Nat) (perform : Mod → Mod × Option Nat) : Mod × Option Nat :=
  match m.caller p with
  | none => (m, none)
  | some r =>
    let t := r.desc.index
    let mine := fun (x : Nat × Nat × Nat × Nat) => x.1 == p && x.2.1 == t && x.2.2.1 == r.number
    let k := ((m.lbb.reads.find? mine).map (·.2.2.2)).getD 0
    let m := m.setLbb (fun l => { l with reads := l.reads.filter (fun x => !mine x) ++ [(p, t, r.number, k + 1)] })
    let shown := if f2Base ≤ a then a else 0
    if 256 ≤ k then (m.raise 0xFA 6 shown, none)
    else match m.lbb.held.find? (fun h => h.task == t && h.number == r.number && h.index == k) with
      | some h => if h.addr = a ∧ h.bytes = n then (m, h.result) else (m.raise 0xFA 6 shown, none)
      | none =>
        match perform m with
        | (m', v) => (m'.setLbb (fun l => { l with held := l.held ++ [⟨t, r.number, k, a, n, v⟩] }), v)

/-! ### Outbound transactions (R425, R428) -/

/-- The cycles of an accepted transaction: the result is none for a bus error. -/
def Mod.f2Cycles (m : Mod) (x : F2Txn) : Mod × Option Nat :=
  match m.window x.addr (opWidth x.op) with
  | none => (m.f2Decode x.addr, none)
  | some w =>
    match x.op with
    | .read k => match m.f2Read w x.addr k.bytes x.cards with | (m', v, _) => (m', v)
    | .write k d => match m.f2Write w x.addr k.bytes d.toNat x.cards with | (m', ok, _) => (m', if ok then some 0 else none)
    | .amo k o d => match m.f2Amo w x.addr k.bytes o d.toNat x.cards with | (m', v, _) => (m', v)
    | _ => (m, none)

/-- One transaction carried out, through the matcher for a read of a pair in TRIAD. A write whose initiator has lost its right
while it waited is refused (R437). -/
def Mod.f2Perform (m : Mod) (x : F2Txn) : Mod × Option Nat :=
  match x.who with
  | .lbb => match x.op with
    | .write _ v => (m.safeWrite x.addr v.toNat, some 0)
    | _ => (m, none)
  | who =>
    if m.f2Off || !m.f2May who x.op x.addr then (m, none)
    else match who with
      | .pair p => if m.triad then m.matched p.val (f2Base + x.addr) (opWidth x.op) (fun s => s.f2Cycles x) else m.f2Cycles x
      | _ => m.f2Cycles x

/-- The initiator's response to a transaction that waited. -/
def Mod.f2Complete (m : Mod) (who : Initiator) (v : Option Nat) : Mod :=
  if who = .lbb then m else m.emit (.completed who v)

/-- Response to a transaction: read data, or the acknowledgement of a write. -/
def respOf (op : BusOp) (v : Option Nat) : Resp :=
  match v, op with
  | none, _ => .busError
  | some _, .write _ _ => .ok
  | some d, _ => .data d

/-- Waiting transactions in the order in which they were accepted, while the bus is free. -/
def Mod.f2Drain (m : Mod) : List F2Txn → Mod
  | [] => m
  | x :: r =>
    if !m.f2Free then m.setLbb (fun l => { l with waiting := x :: r })
    else match (m.setLbb (fun l => { l with waiting := r })).f2Perform x with
      | (m', v) => (m'.f2Complete x.who v).f2Drain r

def Mod.f2Resume (m : Mod) : Mod := (m.f2Drain m.lbb.waiting).lbbRefresh

/-- F2_ACCESS: performed at once if the bus is free and nothing waits, else it waits. An address outside the window is no
access to the bridge, and a 33rd transaction is not accepted (R428). -/
def Mod.f2Access (m : Mod) (who : Initiator) (op : BusOp) (addr : Nat) (cs : List CardReply) : Mod :=
  if addr < f2Base ∨ f2Base + 0x1000000 ≤ addr then m
  else
    let a := addr - f2Base
    let m := if who = .debug && !m.f2May who op a then m.raise 0x160 1 addr else m
    if m.f2Off then m.answer .busError
    else match m.window a (opWidth op) with
    | none => (m.f2Decode a).answer .busError
    | some w =>
      if !m.winAllows w op then (m.f2Decode a).answer .busError
      else if m.f2Refused who op a then m.answer .busError
      else if m.lbb.waiting.isEmpty && m.f2Free then
        match m.f2Perform ⟨who, op, a, cs⟩ with
        | (m', v) => m'.answer (respOf op v) |>.lbbRefresh
      else if 32 ≤ m.f2Queue then m
      else (m.setLbb (fun l => { l with waiting := l.waiting ++ [⟨who, op, a, cs⟩] })).lbbRefresh

def execF2Access (who : Initiator) (op : BusOp) (addr : Addr) (cards : List CardReply) (s : State) : Outcome :=
  run s (fun m => m.f2Access who op addr.toNat cards)

/-- F2_TIMEOUT: the oldest waiting transaction has exceeded ACCESS_US; with none waiting, a write of the safe table has failed
(R437). -/
def Mod.f2Timeout (m : Mod) : Mod :=
  match m.lbb.waiting with
  | [] => if m.lbb.safe.isEmpty then m else (m.raise 0xF8 1).count Reg.LBB_STATS_TIMEOUTS 1
  | x :: r =>
    let m := (m.setLbb (fun l => { l with waiting := r })).f2TimedOut x.addr
    let m := match x.who with
      | .pair p => if m.triad && !opWrites x.op then (m.matched p.val (f2Base + x.addr) (opWidth x.op) (fun s => (s, none))).1 else m
      | _ => m
    (m.f2Complete x.who none).f2Resume

def execF2Timeout (s : State) : Outcome := run s Mod.f2Timeout

/-- ACK_STUCK (R424): no cycle until FACK# is released. -/
def execAckStuck (s : State) : Outcome := run s (fun m => (m.setLbb (fun l => { l with ackStuck := true })).raise 0xF8 3)

/-- FACK_RELEASED. -/
def execFackReleased (s : State) : Outcome := run s (fun m => (m.setLbb (fun l => { l with ackStuck := false })).f2Resume)

/-! ### Legacy masters (R430 to R432) -/

/-- BUS_REQUEST: FBR# is asserted. -/
def execBusRequest (s : State) : Outcome := run s (fun m => (m.put Reg.LBB_STATUS_BR 1).lbbRefresh)

/-- BUS_REQUEST_RELEASE: FBG# is released and what waited goes on. -/
def execBusRequestRelease (s : State) : Outcome := run s (fun m => ((m.put Reg.LBB_STATUS_BR 0).lbbRefresh).f2Resume)

/-- BUS_HOLD: HOLD_US have passed under one grant. -/
def execBusHold (s : State) : Outcome := run s (fun m => if m.lbb.granted then m.raise 0xF9 4 else m)

/-- INBOUND_ACCESS: a word cycle of the bus owner in the inbound range, as a fabric access into the management core's DRAM area. -/
def Mod.inbound_ (m : Mod) (write : Bool) (a d : Nat) (ok : Bool) : Mod :=
  let base := m.get Reg.LBB_IN_CFG_BASE * 65536
  let size := (m.get Reg.LBB_IN_CFG_SIZEM1 + 1) * 65536
  if !m.lbb.granted || !m.flag Reg.LBB_CTL_INBOUND_EN || a < base || base + size ≤ a then m
  else
    let m := if m.lbb.waiting.isEmpty then m else m.count Reg.LBB_STATS_BACKOFFS 1
    let t := m.get Reg.LBB_IN_TARGET_TARGET * 65536 + (a - base)
    if ok && mcDram ≤ t && t + 2 ≤ mcDram + 0x20000000 then
      if write then m.wrLE t 2 d |>.emit (.fack 0) else m.emit (.fack (m.rdLE t 2))
    else (m.raise 0xF9 5 t).emit (.fack (if write then 0 else 0xFFFF))

def execInboundAccess (write : Bool) (f2 : BitVec 24) (data : BitVec 16) (fabricOk : Bool) (s : State) : Outcome :=
  run s (fun m => m.inbound_ write (f2.toNat / 2 * 2) data.toNat fabricOk)

/-! ### Request lines (R433) -/

def reqCount (i : Nat) : Fld := ⟨0xB0408, 0, 0, 8 * i, 8, .ro, 0⟩

/-- REQUEST_LINE_POLL: request events count, wrap and interrupt the management core. -/
def Mod.reqPoll (m : Mod) (levels : Nat) : Mod :=
  if !m.flag Reg.LBB_CTL_ENABLE || !m.flag Reg.LBB_CTL_REQ_POLL_EN || m.lbbReleased then m
  else
    let old := m.get Reg.LBB_STATUS_REQ
    let new := (List.range 4).filter (fun i => bitOf levels i && !bitOf old i)
    let m := new.foldl (fun a i => a.put (reqCount i) (a.get (reqCount i) + 1)) m
    let m := if new.isEmpty then m else { m with fc := { m.fc with interrupts := m.fc.interrupts + 1 } }
    m.put Reg.LBB_STATUS_REQ levels

def execRequestLinePoll (levels : BitVec 4) (s : State) : Outcome := run s (fun m => m.reqPoll levels.toNat)

/-! ### Prefetch (R435, R436) -/

/-- Words read ahead from `a`, at most `n` and within the window, as the cards answer them. -/
def Mod.prefetchWords (m : Mod) (w a : Nat) : Nat → List (BitVec 16) → Mod
  | n + 1, d :: ds =>
    if m.winStart w + m.winLen w < a + 2 then m
    else if (m.bufWord a).isSome then m.prefetchWords w (a + 2) n (d :: ds)
    else ((m.emit (.f2 false a 3 0)).setLbb (fun l => { l with buffer := l.buffer ++ [⟨w, a, d.toNat⟩] })).prefetchWords w (a + 2) n ds
  | _, _ => m

/-- PREFETCH: what a MEMORY-LIKE read left to read ahead; `cards` are the words read before an arriving transaction or grant. -/
def Mod.prefetch (m : Mod) (cards : List (BitVec 16)) : Mod :=
  match m.lbb.due with
  | none => m
  | some (w, a, n) =>
    if !m.f2Free || !m.lbb.waiting.isEmpty || !m.flag Reg.LBB_CTL_ENABLE then m
    else (m.setLbb (fun l => { l with due := none })).prefetchWords w a n cards

def execPrefetch (cards : List (BitVec 16)) (s : State) : Outcome := run s (fun m => m.prefetch cards)

/-- PREFETCH_EXPIRY: 50 µs after the words were read. -/
def execPrefetchExpiry (w : Fin 16) (s : State) : Outcome := run s (fun m => m.discardWords w.val)

end Sys2Proof.Machine
end

