-- ==== Sys2Proof/Machine/Dio.lean ====
section
/-!
DEFINITION. The commands of the DIO island (R452 to R485).
-/

namespace Sys2Proof.Machine

/-- A driver has no overload and no thermal latch (R461). -/
def Mod.unlatched (m : Mod) (c : Nat) : Bool := !m.flag Reg.DIO_CHc_STATUS_OVERLOAD c && !m.flag Reg.DIO_CHc_STATUS_THERMAL c

/-! ### Inputs (R458, R459) -/

/-- INPUT_TRANSITION: the filter of input `c` accepts `level`; the trigger data's OPT is 1 rising, 2 falling (R129). -/
def Mod.inputTransition (m : Mod) (c : Nat) (level : Bool) : Mod :=
  let g := c / 8
  if m.dioOut c || bitOf m.dio.filt c == level then m
  else
    let m := m.setDio (fun d => { d with filt := bitPut d.filt c level, edges := bitPut d.edges c true })
    let m := m.put Reg.DIO_CHc_COUNT_EDGES (m.get Reg.DIO_CHc_COUNT_EDGES c + 1) c
    let m := if m.supply g = suLOST then m else m.put Reg.DIO_CHc_STATUS_LEVEL (b2n level) c
    if m.supply g = suOK then
      let k := if level then 0 else 1
      m.triggerSource ⟨2, k + 1, c, 0, m.now⟩ (fun e => e.id == c && bitOf e.opt k)
    else m

def execInputTransition (c : Chan) (level : Bool) (s : State) : Outcome := run s (fun m => m.inputTransition c.val level)

/-! ### Output latches (R461) -/

/-- A latch of channel `c`: the third within 10 s also locks it. -/
def Mod.dioLatch (m : Mod) (c : Nat) : Mod :=
  let recent := m.dio.latches.filter (fun x => x.1 == c && m.now - x.2 ≤ 10000000000)
  let m := m.setDio (fun d => { d with latches := d.latches.filter (fun x => x.1 != c) ++ recent ++ [(c, m.now)] })
  if 2 ≤ recent.length then m.put Reg.DIO_CHc_STATUS_LOCKED 1 c else m

/-- A channel fault (R476). -/
def Mod.chanFault (m : Mod) (c kind : Nat) : Mod := m.dioFault (0x100 + c) kind c (c / 8)

/-- OVERLOAD: the cutoff time in current limit has passed. -/
def Mod.overload (m : Mod) (c : Nat) : Mod :=
  if m.dioOut c && m.flag Reg.DIO_CHc_STATUS_DRIVE c && m.unlatched c then
    (((m.put Reg.DIO_CHc_STATUS_OVERLOAD 1 c).dioLatch c).chanFault c 1).dioRefresh
  else m

def execOverload (c : Chan) (s : State) : Outcome := run s (fun m => m.overload c.val)

/-- THERMAL_SHUTDOWN: the junction has reached its threshold. -/
def Mod.thermalShutdown (m : Mod) (c : Nat) : Mod :=
  if m.dioOut c && m.flag Reg.DIO_CHc_STATUS_DRIVE c && m.unlatched c then
    (((m.put Reg.DIO_CHc_STATUS_THERMAL 1 c).dioLatch c).chanFault c 2).dioRefresh
  else m

def execThermalShutdown (c : Chan) (s : State) : Outcome := run s (fun m => m.thermalShutdown c.val)

/-! ### Readback (R464, R465, R482) -/

/-- The comparison of channel `c` runs. -/
def Mod.compares (m : Mod) (c : Nat) : Bool := m.dioOut c && m.flag Reg.DIO_CTL_READBACK_EN && m.supply (c / 8) == suOK

/-- READBACK_MISMATCH: driven on, read back 0 for 1 ms; the output stays on. -/
def Mod.readbackMismatch (m : Mod) (c : Nat) : Mod :=
  if m.compares c && m.flag Reg.DIO_CHc_STATUS_DRIVE c && m.unlatched c && !m.flag Reg.DIO_CHc_STATUS_READBACK_ERR c then
    ((m.put Reg.DIO_CHc_STATUS_READBACK_ERR 1 c).put Reg.DIO_CHc_STATUS_LEVEL 0 c).chanFault c 3
  else m

def execReadbackMismatch (c : Chan) (s : State) : Outcome := run s (fun m => m.readbackMismatch c.val)

/-- The switch of group `g` opens (R465). -/
def Mod.groupCut (m : Mod) (g : Nat) : Mod :=
  if m.flag Reg.DIO_Gg_SUPPLY_CUT g then m
  else ((m.put Reg.DIO_Gg_SUPPLY_CUT 1 g).dioFault (0x100 + 8 * g) 8 g g).dioRefresh

/-- STUCK_ON: driven off, read back 1 for 1 ms. -/
def Mod.stuckOn (m : Mod) (c : Nat) : Mod :=
  if m.compares c && !m.flag Reg.DIO_CHc_STATUS_DRIVE c && !m.flag Reg.DIO_CHc_STATUS_STUCK_ON c then
    let m := ((m.put Reg.DIO_CHc_STATUS_STUCK_ON 1 c).put Reg.DIO_CHc_STATUS_LEVEL 1 c).chanFault c 4
    if m.flag Reg.DIO_CHc_CFG_SAFETY c && m.flag Reg.DIO_CTL_GROUP_CUT_EN then m.groupCut (c / 8) else m
  else m

def execStuckOn (c : Chan) (s : State) : Outcome := run s (fun m => m.stuckOn c.val)

/-- READBACK_MATCH: the readback follows the driver again (R482). -/
def Mod.readbackMatch (m : Mod) (c : Nat) : Mod :=
  if m.compares c then
    ((m.put Reg.DIO_CHc_STATUS_READBACK_ERR 0 c).put Reg.DIO_CHc_STATUS_STUCK_ON 0 c).put Reg.DIO_CHc_STATUS_LEVEL
      (m.get Reg.DIO_CHc_STATUS_DRIVE c) c
  else m

def execReadbackMatch (c : Chan) (s : State) : Outcome := run s (fun m => m.readbackMatch c.val)

/-! ### Watchdog (R467) -/

/-- DIO_WATCHDOG_EXPIRY; the fault is raised at the next intact delivery. -/
def Mod.dioWatchdog (m : Mod) : Mod :=
  if m.flag Reg.DIO_CTL_ENABLE && (m.localSet true).isSome && !m.dio.wdtReport then
    ((m.setDio (fun d => { d with wdtSafe := true, wdtReport := true })).count Reg.DIO_STATUS_WDT_EXPIRIES 1).dioRefresh
  else m

def execDioWatchdogExpiry (s : State) : Outcome := run s Mod.dioWatchdog

/-! ### Group supplies (R471 to R473) -/

/-- Channels of group `g`. -/
def groupChans (g : Nat) : List Nat := (List.range 8).map (8 * g + ·)

/-- The measurement of group `g`. -/
def Mod.supplyMv (m : Mod) (g mv : Nat) : Mod := m.put Reg.DIO_Gg_SUPPLY_MV mv g

/-- The levels of the group are not to be trusted (R459). -/
def Mod.groupInvalid (m : Mod) (g : Nat) : Mod := (groupChans g).foldl (fun a c => a.put Reg.DIO_CHc_STATUS_INVALID 1 c) m

/-- OK becomes LOW. -/
def Mod.supplyFalls (m : Mod) (g : Nat) : Mod :=
  if m.supply g = suOK then ((m.put Reg.DIO_Gg_SUPPLY_STATE suLOW g).groupInvalid g).dioFault (0x100 + 8 * g) 5 g g else m

/-- LOW becomes LOST: the outputs go off, inputs read 0. -/
def Mod.supplyGoes (m : Mod) (g : Nat) : Mod :=
  if m.supply g = suLOW then
    let m := ((m.put Reg.DIO_Gg_SUPPLY_STATE suLOST g).put Reg.DIO_Gg_SUPPLY_LATCHED 1 g).count Reg.DIO_Gg_SUPPLY_LOST_COUNT 1 g
    let m := (groupChans g).foldl (fun a c => if a.dioOut c then a else a.put Reg.DIO_CHc_STATUS_LEVEL 0 c) (m.groupInvalid g)
    (m.dioFault (0x100 + 8 * g) 6 g g).dioRefresh
  else m

/-- SUPPLY_LOW: 4 samples below 19.2 V. -/
def Mod.supplyLow (m : Mod) (g mv : Nat) : Mod :=
  let m := m.supplyMv g mv
  if mv < 19200 then m.supplyFalls g else m

def execSupplyLow (g : Group) (mv : BitVec 16) (s : State) : Outcome := run s (fun m => m.supplyLow g.val mv.toNat)

/-- SUPPLY_LOST: 4 samples below 15.0 V, which count toward 19.2 V as well. -/
def Mod.supplyLost (m : Mod) (g mv : Nat) : Mod :=
  let m := m.supplyMv g mv
  if mv < 15000 then (m.supplyFalls g).supplyGoes g else m

def execSupplyLost (g : Group) (mv : BitVec 16) (s : State) : Outcome := run s (fun m => m.supplyLost g.val mv.toNat)

/-- GROUP_SUPPLY_RISE: 4 samples at or above 15.5 V, and toward 19.7 V as far as they lie beyond it. -/
def Mod.supplyRise (m : Mod) (g mv : Nat) : Mod :=
  let m := m.supplyMv g mv
  let m := if m.supply g = suLOST ∧ 15500 ≤ mv then
      (groupChans g).foldl (fun a c => if a.dioOut c then a else a.put Reg.DIO_CHc_STATUS_LEVEL (b2n (bitOf a.dio.filt c)) c)
        (m.put Reg.DIO_Gg_SUPPLY_STATE suLOW g)
    else m
  if m.supply g = suLOW ∧ 19700 ≤ mv then m.put Reg.DIO_Gg_SUPPLY_STATE suOK g else m

def execGroupSupplyRise (g : Group) (mv : BitVec 16) (s : State) : Outcome := run s (fun m => m.supplyRise g.val mv.toNat)

/-- SUPPLY_RESTORED: 10 ms in OK. -/
def Mod.supplyRestored (m : Mod) (g : Nat) : Mod :=
  if m.supply g = suOK ∧ m.flag Reg.DIO_Gg_SUPPLY_LATCHED g then
    let m := (m.put Reg.DIO_Gg_SUPPLY_LATCHED 0 g).setDio (fun d =>
      { d with waits := (groupChans g).foldl (fun n c => bitPut n c true) d.waits })
    let m := (groupChans g).foldl (fun a c =>
      if a.dioOut c && a.flag Reg.DIO_CHc_CFG_RESTART_LOCK c then a.put Reg.DIO_CHc_STATUS_LOCKED 1 c else a) m
    (m.dioFault (0x100 + 8 * g) 7 g g).dioRefresh
  else m

def execSupplyRestored (g : Group) (s : State) : Outcome := run s (fun m => m.supplyRestored g.val)

/-- INVALID_CLEARED: FILTER of channel `c` has passed since its group came back to OK. -/
def Mod.invalidCleared (m : Mod) (c : Nat) : Mod :=
  if m.supply (c / 8) = suOK then m.put Reg.DIO_CHc_STATUS_INVALID 0 c else m

def execInvalidCleared (c : Chan) (s : State) : Outcome := run s (fun m => m.invalidCleared c.val)

/-! ### Timed outputs (R474) -/

/-- No condition of R475 above the timed function holds, and the gate is 1. -/
def Mod.timedOpen (m : Mod) (c : Nat) : Bool :=
  let g := c / 8
  m.dioOut c && m.flag Reg.DIO_CTL_ENABLE && m.flag Reg.DIO_CHc_CFG_TIMED c && m.flag Reg.DIO_CHc_STATUS_CMD c &&
    !m.flag Reg.DIO_Gg_SUPPLY_CUT g && !m.flag Reg.DIO_Gg_SUPPLY_LATCHED g && m.supply g != suLOST && m.unlatched c &&
    !m.flag Reg.DIO_CHc_STATUS_SAFE c && !m.flag Reg.DIO_CHc_STATUS_LOCKED c && !bitOf m.dio.waits c

/-- TIMED_FIRING: a firing of the channel's TIM trigger; `late`: its fire time reached the island less than 10 µs before
it was due. -/
def Mod.timedFiring (m : Mod) (c : Nat) (late : Bool) : Mod :=
  if m.dioOut c && m.flag Reg.DIO_CHc_CFG_TIMED c then
    let m := if late then m.chanFault c 10 else m
    if m.timedOpen c then
      (m.setDio (fun d => { d with timed := bitPut d.timed c (m.get Reg.DIO_CHc_CFG_ACTION c != 1) })).dioRefresh
    else m
  else m

def execTimedFiring (c : Chan) (late : Bool) (s : State) : Outcome := run s (fun m => m.timedFiring c.val late)

/-- PULSE_END. -/
def Mod.pulseEnd (m : Mod) (c : Nat) : Mod :=
  if m.dioOut c && m.flag Reg.DIO_CHc_CFG_TIMED c && m.get Reg.DIO_CHc_CFG_ACTION c == 2 then
    (m.setDio (fun d => { d with timed := bitPut d.timed c false })).dioRefresh
  else m

def execPulseEnd (c : Chan) (s : State) : Outcome := run s (fun m => m.pulseEnd c.val)

/-! ### The controller (R476) -/

/-- ISLAND_RESTART. -/
def Mod.islandRestart (m : Mod) : Mod := (m.dioFault 0x100 12 0 0).dioStart

def execIslandRestart (s : State) : Outcome := run s Mod.islandRestart

end Sys2Proof.Machine
end

