-- ==== Sys2Proof/Machine/Collector.lean ====
section
/-!
DEFINITION. The fault collector (R486 to R498): intake, reactions and their scope, the open record, holds and their
release.
-/

namespace Sys2Proof.Machine

def Mod.setFc (m : Mod) (f : FcState → FcState) : Mod := { m with fc := f m.fc }

/-! ### Intake order (R488) -/

/-- Reports taken before `q`: earlier ones, and in the same clock those of a lower source. -/
def before (a q : Report) : Bool := a.mono < q.mono || (a.mono == q.mono && a.source < q.source)

/-- The report that the collector takes next. -/
def nextReport : List Report → Option Report
  | [] => none
  | q :: r => some (r.foldl (fun best x => if before x best then x else best) q)

/-- The list without the first report equal to `q`. -/
def dropReport (q : Report) : List Report → List Report
  | [] => []
  | a :: r => if a = q then r else a :: dropReport q r

/-! ### Scope of SAFE_OUTPUTS (R62, R494) -/

/-- DIO kinds that channels and groups report (R476); the rest are the controller's. -/
def dioScope (source kind : Nat) : Scope :=
  let c := source - 0x100
  if (1 ≤ kind ∧ kind ≤ 4) ∨ kind = 10 then .chan c
  else if 5 ≤ kind ∧ kind ≤ 8 then .group (c / 8)
  else .dio

def Mod.safeScope (m : Mod) (source kind : Nat) : Scope :=
  match pairOfSource source with
  | some p => .pair p
  | none =>
    if 0x51 ≤ source ∧ source ≤ 0x53 then (if m.triad then .allTasks else .pair (source - 0x51))
    else if 0x100 ≤ source ∧ source < 0x120 then dioScope source kind
    else .unit

/-- Channels of a DIO scope. -/
def scopeChans : Scope → List Nat
  | .chan c => [c]
  | .group g => groupChans g
  | .dio => List.range 32
  | _ => []

/-- Outputs of scope `x` are held safe. -/
def Mod.holdScope (m : Mod) (x : Scope) : Mod :=
  match x with
  | .unit => m.enterSafe
  | .pair p => m.holdPair p
  | .allTasks =>
    let m := (m.setFc (fun f => { f with taskHold := true })).put Reg.FC_STATUS_PAIR_HOLD 7
    m.canSafe (fun n k => (List.range 3).any (fun p => m.writesMailbox p n k))
  | _ =>
    (((scopeChans x).foldl (fun a c => a.setFc (fun f => { f with dioHold := bitPut f.dioHold c true })) m).put
      Reg.FC_STATUS_DIO_HOLD 1).dioRefresh

/-- An executed scope covers `x` (R497). -/
def covered (done : List Scope) (x : Scope) : Bool :=
  done.contains x || done.contains .unit ||
    (match x with
     | .pair _ => done.contains .allTasks
     | .chan c => done.contains .dio || done.contains (.group (c / 8))
     | .group _ => done.contains .dio
     | _ => false)

/-! ### Reactions (R493, R62, R632) -/

/-- The pair restarts by itself for this kind of a LOCKSTEP pair (R632). -/
def selfRestart (source kind : Nat) : Bool :=
  let unit := (source - 0x10) % 16
  (unit == 0 && kind == 1) || (unit == 3 && kind == 5) || (unit == 4 && kind == 8)

/-- RESTART_PAIR of a LANE source: a restart under R54, or a reset of the reporting core of a SPLIT pair, which
SPLIT_CORE_RESET reports after it has taken place. -/
def Mod.reactRestart (m : Mod) (source kind : Nat) : Mod :=
  let p := (source - 0x10) / 16
  let unit := (source - 0x10) % 16
  if m.split p then
    if (unit = 1 ∨ unit = 2) ∧ kind ≠ 13 then m.coreReset p (unit - 1) else m
  else if selfRestart source kind then m
  else m.startRestart p false

/-- SURRENDER is executed: from a LANE or SCL pair source only where R61 calls for it. -/
def Mod.surrenders (m : Mod) (source : Nat) : Bool :=
  match pairOfSource source with
  | some p => m.lstate p == lnFAILED && m.failSurrenders p
  | none => true

/-- The open record changed. -/
def Mod.updRecord (m : Mod) (f : FaultRecord → FaultRecord) : Mod := m.setFc (fun x => { x with record := x.record.map f })

/-- Action bit `b` counts as executed, completed now. -/
def Mod.executed (m : Mod) (b : Nat) : Mod :=
  if m.fc.record.isSome then
    (m.put Reg.FC_OPEN_REACT (m.get Reg.FC_OPEN_REACT ||| b)).updRecord (fun r => { r with lastDone := m.now })
  else m

/-- What the open record has executed. -/
def Mod.reacted (m : Mod) (b : Nat) : Bool := m.fc.record.isSome && m.get Reg.FC_OPEN_REACT &&& b != 0

def Mod.actInterrupt (m : Mod) : Mod :=
  if m.reacted rINTERRUPT then m
  else (m.setFc (fun f => { f with interrupts := f.interrupts + 1 })).executed rINTERRUPT

def Mod.actRestart (m : Mod) (source kind : Nat) : Mod :=
  let p := (source - 0x10) / 16
  if m.fc.record.any (fun r => r.restarts.contains p) then m
  else ((m.reactRestart source kind).updRecord (fun r => { r with restarts := r.restarts ++ [p] })).executed rRESTART

def Mod.actSafe (m : Mod) (source kind : Nat) : Mod :=
  let x := m.safeScope source kind
  if m.fc.record.any (fun r => covered r.scopes x) then m
  else ((m.holdScope x).updRecord (fun r => { r with scopes := r.scopes ++ [x] })).executed rSAFE

def Mod.actSurrender (m : Mod) (source : Nat) : Mod :=
  if m.reacted rSURRENDER || !m.surrenders source then m else (m.surrender 0).executed rSURRENDER

/-- The reaction set `set` of a fault of class `cls`. A surrender makes the outputs safe, so it goes first; the interrupt
is raised whatever follows. -/
def Mod.react (m : Mod) (source kind cls set : Nat) : Mod :=
  let m := if set &&& rRECORD != 0 then m.executed rRECORD else m
  let m := if set &&& rINTERRUPT != 0 then m.actInterrupt else m
  let m := if set &&& rRESTART != 0 && isLaneSource source && cls != clFATAL then m.actRestart source kind else m
  let m := if set &&& rSURRENDER != 0 then m.actSurrender source else m
  if set &&& rSAFE != 0 then m.actSafe source kind else m

/-! ### Records (R496, R497) -/

/-- A record opens with the classified message `msg`. -/
def Mod.fcOpen (m : Mod) (q : Report) (cls msg : Nat) : Mod :=
  let m := m.setFc (fun f => { f with record := some ⟨msg, m.now, m.now, false, [], [], q.mono⟩ })
  let m := ((m.put Reg.FC_OPEN_OPEN 1).put Reg.FC_OPEN_SOURCE q.source).put Reg.FC_OPEN_KIND q.kind
  let m := (m.put Reg.FC_OPEN_CLASS cls).put Reg.FC_OPEN_REACT 0
  (m.put Reg.FC_MERGE_COUNT_COUNT 0).put Reg.FC_MERGE_MAP_MAP 0

/-- A fault merges into the open record. -/
def Mod.fcMerge (m : Mod) (source cls : Nat) : Mod :=
  let m := m.count Reg.FC_MERGE_COUNT_COUNT 1
  let m := m.put Reg.FC_MERGE_MAP_MAP (m.get Reg.FC_MERGE_MAP_MAP ||| 2 ^ (source / 32))
  m.put Reg.FC_OPEN_CLASS (max cls (m.get Reg.FC_OPEN_CLASS))

/-- A LANE fault of class FATAL marks a LOCKSTEP pair FAILED (R60). -/
def Mod.laneFatal (m : Mod) (source cls : Nat) : Mod :=
  let p := (source - 0x10) / 16
  if isLaneSource source && cls == clFATAL && !m.split p && m.canFail p then m.failPair p 7 else m

/-- The collector takes in message `q` (R489 to R497). -/
def Mod.intake (m : Mod) (q : Report) : Mod :=
  let rule := m.classRule q.source q.kind q.cls
  let (m, esc) := m.countEvent q.source q.kind q.mono rule
  let cls := if esc then rule.esc else rule.base
  let set := rule.react.getD cls 0
  let merged := m.fc.record.isSome
  let msg := faultMsg q.source q.kind cls esc merged q.peer q.addr
  let m := (m.put Reg.FC_INTAKE_LO_MSG_LO msg).setFc (fun f => { f with lastHi := msg / 2 ^ 32 })
  let m := if merged then m.fcMerge q.source cls
    else if set &&& (rINTERRUPT + rSAFE + rSURRENDER) != 0 then m.fcOpen q cls msg
    else m
  let m := if clSEVERE ≤ cls then m.setUpd (fun u => { u with cycleClean := false }) else m
  let m := if set &&& rRECORD != 0 then m.offer (q.event cls esc merged) else m
  ((m.laneFatal q.source cls).react q.source q.kind cls set).checkLatch.fcTryClose.trialWatch

/-- FAULT_INTAKE: the collector takes the next message that waits. -/
def Mod.faultIntake (m : Mod) : Mod :=
  match nextReport m.fc.reports with
  | none => m
  | some q => (m.setFc (fun f => { f with reports := dropReport q f.reports })).intake q

def execFaultIntake (s : State) : Outcome := run s Mod.faultIntake

/-- FAULT_RECORD_TIMEOUT: 100 ms since the last action completed (R496). -/
def Mod.recordTimeout (m : Mod) : Mod :=
  match m.fc.record with
  | some r => if m.fcComplete r then m.fcClose r else m
  | none => m

def execFaultRecordTimeout (s : State) : Outcome := run s Mod.recordTimeout

/-- Software acknowledges the open record (FC_CTL.ACK). -/
def Mod.fcAck (m : Mod) : Mod := (m.updRecord (fun r => { r with acked := true })).fcTryClose

/-- Whether `who` may write FC_INTAKE_HI for `source` (R488). -/
def Mod.intakeRight (m : Mod) (who : Initiator) (source : Nat) : Bool :=
  match who with
  | .pair p => isAppSource source && !m.split p.val
  | .mc => isAssigned source && (source == 0xAF || source == 0xCF || (0x120 ≤ source && source < 0x180) ||
      m.unit == stBOOT || m.unit == stCONFIG)
  | _ => false

/-- A write of FC_INTAKE_HI raises the message (R486, R488). -/
def Mod.intakeWrite (m : Mod) (who : Initiator) (hi : Nat) : Mod :=
  let source := bitsOf hi 22 10
  if m.intakeRight who source then
    let q := m.stamp source (bitsOf hi 14 8) (bitsOf hi 8 2) false (bitsOf hi 0 8 * 2 ^ 32 + m.fc.stagedLo) []
    (m.setFc (fun f => { f with reports := f.reports ++ [q] })).answer .ok
  else m.answer .busError

/-! ### The release of the holds (R495) -/

/-- FC_STATUS as read. -/
def Mod.fcStatusWord (m : Mod) : Nat :=
  ((m.fc.table.map List.length).getD 0) * 2 ^ 16 + b2n m.fc.table.isNone * 2 ^ 7 + m.get Reg.FC_STATUS_DIO_HOLD * 2 ^ 3 +
    m.get Reg.FC_STATUS_PAIR_HOLD

/-- Every hold of limited scope ends at a basic cycle start. -/
def Mod.endHolds (m : Mod) : Mod :=
  if m.fc.releaseReq then
    let m := m.event 0x0084 svNOTICE [m.fcStatusWord]
    let m := m.setFc (fun f => { f with releaseReq := false, taskHold := false, dioHold := 0 })
    ((m.put Reg.FC_STATUS_PAIR_HOLD 0).put Reg.FC_STATUS_DIO_HOLD 0).dioRefresh
  else m

end Sys2Proof.Machine
end

