-- ==== Sys2Proof/Machine/Live.lean ====
section
/-!
DEFINITION. What reads return: register fields that show the state of an engine, latched halves, and the memories whose
contents the model keeps structured (map records R182, Daybook R500, force table R146, input current view R167).
-/

namespace Sys2Proof.Machine

/-! ### LEDs (R610, R611): 0 off, 1 on, 2 1 Hz, 3 4 Hz -/

def ledPick : List (Bool × Nat) → Nat
  | [] => 0
  | (c, v) :: r => if c then v else ledPick r

/-- The SoC is held in reset. -/
def Mod.heldInReset (m : Mod) : Bool := m.env.thermalHold || m.env.hwHold

def Mod.ledNet (m : Mod) (ok : Fld) : Nat := ledPick [(m.flag ok && m.kindNow == 0, 1), (m.flag ok, 2)]

/-- A LED that the lamp test and IDENTIFY take over; the lamp test goes first. -/
def Mod.ledTest (m : Mod) (own : Nat) : Nat :=
  if m.flag Reg.SYS_LED_LAMP_TEST then 1 else if m.flag Reg.SYS_LED_IDENTIFY then 3 else own

def Mod.ledPwr (m : Mod) : Nat := if m.get Reg.SYS_HOLDUP_STATE = 1 then 1 else 2
def Mod.ledRun (m : Mod) : Nat :=
  ledPick [(m.unit == stACTIVE, 1), (m.unit == stSTANDBY, 2), (m.unit == stSTARTING || m.unit == stCONFIG, 3)]
def Mod.ledFault (m : Mod) : Nat :=
  ledPick [(m.unit == stSAFE || m.unit == stSURRENDERED, 1), (m.fc.record.isSome, 2)]
def Mod.ledForce (m : Mod) : Nat :=
  let fs := m.task.forces
  ledPick [(!fs.isEmpty && fs.all (fun f => !f.2.orphan), 1), (!fs.isEmpty, 2)]
def Mod.ledDebug (m : Mod) : Nat := ledPick [(m.flag Reg.SYS_STATE_LOCKSTEP_BROKEN, 1), (m.flag Reg.SEC_STATUS_DEBUG_ARMED, 3)]
def Mod.ledTwin (m : Mod) : Nat :=
  if !m.hasTwin then 0
  else ledPick [(m.get Reg.LGR_STATUS_MIRROR == 2, 1), (m.get Reg.LGR_STATUS_MIRROR == 1, 2), (m.flag Reg.TWN_STATUS_LINK_LOST, 3)]

/-- A LED other than PWR: off while the SoC is held in reset. -/
def Mod.ledLit (m : Mod) (v : Nat) : Nat := if m.heldInReset then 0 else v

/-! ### Task registers (R155 to R157) -/

/-- RSTATE of task `t` on pair `p`: 1 WAITING, 2 READY, 3 RUNNING, 4 PREEMPTED, 5 DONE. -/
def Mod.rstateOn (m : Mod) (p t : Nat) : Nat :=
  let rs := m.task.releases.filter (fun r => r.pair == m.own p && r.desc.index == t)
  match rs.find? (fun r => r.live p) with
  | some r =>
    let executes := m.pairRuns p && (m.current p).any (fun c => c.desc.index == t && c.number == r.number)
    if executes then 3 else if r.parts.any (fun q => q.pair == p && q.started) then 4 else 2
  | none =>
    if rs.any (fun r => r.stage != .done && r.parts.any (fun q => q.pair == p && q.returned && !q.dropped)) then 5 else 1

/-- RSTATE as read: in TRIAD the first of RUNNING, PREEMPTED, READY, DONE, WAITING over the pairs that are not FAILED. -/
def Mod.rstate (m : Mod) (p t : Nat) : Nat :=
  if m.triad then
    let l := ((List.range 3).filter (fun q => m.lstate q != lnFAILED)).map (fun q => m.rstateOn q t)
    ([3, 4, 2, 5, 1].find? (fun v => l.contains v)).getD 1
  else m.rstateOn p t

def Mod.taskStateCode (m : Mod) : Nat :=
  if m.task.table.isNone then 3 else if m.unit = stSAFE then 2 else if m.running then 1 else 0

/-- A per-task field of task `t` of pair `p`: 0 in a pair without the task. -/
def Mod.taskField (m : Mod) (f : Fld) (p t : Nat) : Nat :=
  match m.desc p t with
  | none => 0
  | some d =>
    if f = Reg.TASK_Tn_STATUS_RSTATE then m.rstate p t
    else if f = Reg.TASK_Tn_STATUS_PRIORITY then d.priority
    else if f = Reg.TASK_Tn_STATUS_TRIG_PENDING then b2n (m.dyn p t).pendingTrig.isSome
    else m.tget f p t

def isTaskField (f : Fld) : Bool := 0x40100 ≤ f.off && f.off < 0x40110

/-! ### Register fields as read -/

/-- Transactions of pair `p` that the tracker holds between commands: F2 accesses that wait for the bus (R23). -/
def Mod.inFlight (m : Mod) (p : Nat) : Nat :=
  (m.lbb.waiting.filter (fun t => match t.who with
    | .pair q => q.val == p
    | .split q _ => q.val == p
    | _ => false)).length

/-- LGR_STATUS.STATE (R195). -/
def Mod.lgrStateCode (m : Mod) : Nat :=
  let s := m.get Reg.LGR_STATUS_STATE
  if s = 0 ∧ m.twn.takingOver then 2 else s

/-- Fields that show engine state held elsewhere, with what they read. -/
def Mod.liveFields (m : Mod) (db : Daybook) (i : Nat) : List (Fld × Nat) :=
  [(Reg.SYS_LED_PWR, m.ledTest m.ledPwr), (Reg.SYS_LED_RUN, m.ledLit (m.ledTest m.ledRun)),
   (Reg.SYS_LED_FAULT, m.ledLit (m.ledTest m.ledFault)), (Reg.SYS_LED_FORCE, m.ledLit m.ledForce),
   (Reg.SYS_LED_DEBUG, m.ledLit m.ledDebug), (Reg.SYS_LED_TWIN, m.ledLit (m.ledTest m.ledTwin)),
   (Reg.SYS_LED_NETA, m.ledLit (m.ledTest (m.ledNet Reg.CYC_STATUS_CH_A_OK))),
   (Reg.SYS_LED_NETB, m.ledLit (m.ledTest (m.ledNet Reg.CYC_STATUS_CH_B_OK))),
   (Reg.SYS_TXN_USE_PAIR0, m.inFlight 0), (Reg.SYS_TXN_USE_PAIR1, m.inFlight 1), (Reg.SYS_TXN_USE_PAIR2, m.inFlight 2),
   (Reg.SYS_STATE_SAFE_LATCH, b2n m.lgr.safeLatch), (Reg.CFG_KEY_STATUS_TRIAL, b2n m.keyTrial),
   (Reg.TIM_SEC_HI_SEC_HI, m.secs / 2 ^ 32), (Reg.TIM_MONO_LO_MONO_LO, m.now),
   (Reg.LANE_RESTARTS_IN_WINDOW, m.inWindow (laneSource i 0) 1), (Reg.SCL_LAG_COUNTn_IN_WINDOW, m.inWindow (0x41 + i) 1),
   (Reg.SCL_STATUS_VOTERS, ((List.range 3).filter m.votes).length), (Reg.SCL_STATUS_TRIAD, b2n m.triad),
   (Reg.TASK_CHG_CYCLE_CYCLE, if m.chgState = chARMED then m.chg.switchCycle else m.get Reg.TASK_CHG_CYCLE_CYCLE),
   (Reg.TASK_STATUS_FORCES, m.task.forces.length), (Reg.TASK_STATUS_STATE, m.taskStateCode),
   (Reg.LGR_STATUS_BACKLOG, m.lgr.requests.length), (Reg.LGR_STATUS_STATE, m.lgrStateCode),
   (Reg.LGR_COMMITS_LO_COMMIT_LO, m.lgr.commits),
   (Reg.CAN_TSCOUNT_COUNT, m.tsCount),
   (Reg.FC_STATUS_ENTRIES, (m.fc.table.map List.length).getD 0), (Reg.FC_STATUS_DEFAULT, b2n m.fc.table.isNone),
   (Reg.DBK_STATUS_LEVEL, m.dbk.fifo.length), (Reg.DBK_STATUS_DEFAULT_TABLE, b2n m.dbk.table.isNone),
   (Reg.DBK_SEQ_LO_SEQ_LO, db.lastSeq), (Reg.DBK_ARCH_SEQ_LO_ARCH_LO, db.archSeq)]

/-- A field instance as read. -/
def Mod.fieldNow (m : Mod) (db : Daybook) (f : Fld) (i j : Nat) : Nat :=
  if f.acc = .wo then 0
  else if isTaskField f then m.taskField f i j
  else match (m.liveFields db i).find? (fun x => x.1 == f) with
    | some x => x.2 % 2 ^ f.width
    | none => m.get f i j

/-- What a read of one half of a register pair latches in the other (R197, R402, R511, R522, R526). -/
def Mod.latchRead (m : Mod) (db : Daybook) (o : Nat) : Mod :=
  if o = Reg.TIM_SEC_HI_SEC_HI.off then (m.put Reg.TIM_SEC_LO_SEC_LO m.secs).put Reg.TIM_NS_NS m.nanos
  else if o = Reg.TIM_MONO_LO_MONO_LO.off then m.put Reg.TIM_MONO_HI_MONO_HI (m.now / 2 ^ 32)
  else if o = Reg.LGR_COMMITS_LO_COMMIT_LO.off then m.put Reg.LGR_COMMITS_HI_COMMIT_HI (m.lgr.commits / 2 ^ 32)
  else if o = Reg.FC_INTAKE_LO_MSG_LO.off then m.put Reg.FC_INTAKE_HI_MSG_HI m.fc.lastHi
  else if o = Reg.DBK_SEQ_LO_SEQ_LO.off then m.put Reg.DBK_SEQ_HI_SEQ_HI (db.lastSeq / 2 ^ 32)
  else if o = Reg.DBK_ARCH_SEQ_LO_ARCH_LO.off then m.put Reg.DBK_ARCH_SEQ_HI_ARCH_HI (db.archSeq / 2 ^ 32)
  else if Reg.CAN_TSCAP_CNT_CAP_CNT.off ≤ o ∧ (o - Reg.CAN_TSCAP_CNT_CAP_CNT.off) % 0x1000 = 0 ∧
      (o - Reg.CAN_TSCAP_CNT_CAP_CNT.off) / 0x1000 < 8 then
    let n := (o - Reg.CAN_TSCAP_CNT_CAP_CNT.off) / 0x1000
    let t := (m.canSt n).capMono
    (m.put Reg.CAN_TSCAP_MONO_LO_CAP_MONO_LO t n).put Reg.CAN_TSCAP_MONO_HI_CAP_MONO_HI (t / 2 ^ 32) n
  else m

/-- The register at offset `o` belongs to a port, controller or link that FPM-3110 does not have (R2). -/
def Mod.absentReg (m : Mod) (o : Nat) : Bool :=
  let b := o / 0x10000
  if !m.is3110 then false
  else if b = 7 then
    let x := o % 0x8000
    0x100 ≤ x && x < 0x100 + 0x10 * 27 && !(m.portPresent ((x - 0x100) / 0x10))
  else if b = 9 then 4 ≤ o % 0x10000 / 0x1000
  else if b = 0x13 then 0x130100 ≤ o && o < 0x130500 && !m.linkPresent ((o - 0x130100) / 0x10)
  else false

/-- Porter of a PRT register whose Porter is in RESET or LOADING (R321). -/
def Mod.porterDown (m : Mod) (o : Nat) : Bool :=
  o / 0x10000 == 7 && (let s := o % 0x10000 / 0x8000; m.prtState s == 0 || m.prtState s == 1)

/-- PRT_STATUS of a Porter. -/
def isPrtStatus (o : Nat) : Bool := o == 0x70004 || o == 0x78004

/-- The word at a register offset as read, by its fields. -/
def Mod.readWord (m : Mod) (db : Daybook) (o : Nat) : Nat :=
  match findReg o with
  | none => 0
  | some (r, i, j) =>
    if m.absentReg o || (m.porterDown o && !isPrtStatus o) then 0
    else (r.flds.map (fun f => m.fieldNow db f i j * 2 ^ f.lo)).sum

/-! ### Structured memories as bytes -/

/-- A Daybook record (R500). -/
def Record.bytes (r : Record) : List Byte :=
  let e := r.ev
  let flags := b2n e.merged + 2 * b2n e.unset + 4 * b2n e.peer + 8 * b2n e.escalated
  let body : List Byte := leBytes 8 e.sec ++ leBytes 4 e.ns ++ leBytes 2 e.code ++ leBytes 1 e.severity ++ leBytes 1 flags ++
    leBytes 8 e.mono ++ leBytes 8 e.fault ++ leBytes 4 e.suppressed ++ leBytes 4 (r.lost + 2 ^ 16 * r.drops) ++ leBytes 4 e.cycle ++
    leBytes 1 r.snap.length ++ leBytes 1 r.snapSet ++ List.replicate 10 0 ++
    (List.range 15).flatMap (fun i => leBytes 4 (r.snap.getD i 0))
  leBytes 8 r.seq ++ body ++ leBytes 4 (crc32 body)

/-- A map record (R182). -/
def MapRec.bytes (r : MapRec) : List Byte :=
  let nib := fun (g : Nat) => match alGet r.copies g with | some c => c % 8 + 8 | none => 0
  let head : List Byte := leBytes 4 0x5247444C ++ leBytes 2 1 ++ leBytes 1 r.profile ++ leBytes 1 (b2n r.held) ++
    (List.range 3).flatMap (fun i => leBytes 8 (r.layouts.getD i 0)) ++ (List.range 3).flatMap (fun i => leBytes 8 (r.programs.getD i 0)) ++
    leBytes 8 r.sec ++ leBytes 4 r.ns ++ leBytes 2 r.releases ++ List.replicate 10 0 ++
    (List.range 3252).map (fun k => BitVec.ofNat 8 (nib (2 * k) + 16 * nib (2 * k + 1))) ++ List.replicate 752 0
  let commit := leBytes 8 r.commit
  head ++ leBytes 4 (crc32 (head ++ commit)) ++ commit

/-- A byte of the Ledger MRAM at offset `o`. -/
def Mod.mramByte (m : Mod) (db : Daybook) (o : Nat) : Byte :=
  if o < 0x8000 then
    match alGet m.lgr.maps (o / 0x1000) with
    | some r => (MapRec.bytes r).getD (o % 0x1000) 0
    | none => 0
  else if 0x2000000 ≤ o ∧ o < 0x2800000 then
    match alGet db.slots ((o - 0x2000000) / 128) with
    | some r => (Record.bytes r).getD (o % 128) 0
    | none => 0
  else m.rd8 (mramBase + o)

/-- A byte of a mapped memory as its readers see it; the manual gives no byte of the boot ROM. -/
def Mod.memByte (m : Mod) (db : Daybook) (a : Nat) : Byte :=
  if a < 0x10000 then Config.bootRom a
  else if inView ≤ a ∧ a < inView + 0x10000 then m.inByte (a - inView)
  else if forceBase ≤ a ∧ a < forceBase + 0x4000 then (m.forceEntry ((a - forceBase) / 16)).getD ((a - forceBase) % 16) 0
  else if mramBase ≤ a ∧ a < mramBase + 0x4000000 then m.mramByte db (a - mramBase)
  else m.rd8 a

/-- `n` bytes from `a`, as a little-endian number. -/
def Mod.memRead (m : Mod) (db : Daybook) (a n : Nat) : Nat := leNat ((List.range n).map (fun i => m.memByte db (a + i)))

end Sys2Proof.Machine
end

