-- ==== Sys2Proof/Machine/Daybook.lean ====
section
/-!
DEFINITION. The Daybook engine behind the intake FIFO: slots (R508), records (R500, R503, R507), the archive (R509) and
DBK_ARCH_SEQ (R526).
-/

namespace Sys2Proof.Machine

/-! ### Slots (R499, R508) -/

def daybookSlots : Nat := 65536

/-- The lowest index from `k` on that a list with ascending keys does not hold. -/
def firstGap {α : Type} : List (Nat × α) → Nat → Nat
  | [], k => k
  | (j, _) :: r, k => if j = k then firstGap r (k + 1) else k

/-- Rule 1: an empty slot, the lowest index first. -/
def Daybook.empty (d : Daybook) : Option Nat :=
  let k := firstGap d.slots 0
  if k < daybookSlots then some k else none

/-- The better of two candidates for reuse, or the first. -/
def pickSlot (better : Record → Record → Bool) (b : Option (Nat × Record)) (x : Nat × Record) : Option (Nat × Record) :=
  match b with
  | none => some x
  | some y => if better x.2 y.2 then some x else some y

/-- Rule 2: an archived record, the lowest SEQ first. -/
def Daybook.archived (d : Daybook) : Option Nat :=
  (((d.slots.filter (fun x => x.2.seq ≤ d.archSeq)).foldl (pickSlot (fun a b => a.seq < b.seq)) none)).map (·.1)

/-- Rule 3: among records of no higher severity, the lowest severity, then the lowest SEQ. -/
def Daybook.weaker (d : Daybook) (severity : Nat) : Option Nat :=
  (((d.slots.filter (fun x => x.2.ev.severity ≤ severity)).foldl (pickSlot (fun a b =>
    a.ev.severity < b.ev.severity || (a.ev.severity == b.ev.severity && a.seq < b.seq))) none)).map (·.1)

def Daybook.slotFor (d : Daybook) (severity : Nat) : Option Nat := d.empty <|> d.archived <|> d.weaker severity

/-- Rules 1 and 2 yield nothing. -/
def Daybook.isFull (d : Daybook) : Bool := d.empty.isNone && d.archived.isNone

/-- DBK_STATUS.FULL follows the Daybook; DAYBOOK_FULL at each change from 0 to 1. -/
def Mod.showFull (m : Mod) (d : Daybook) : Mod :=
  let f := d.isFull
  let rises := f && !m.flag Reg.DBK_STATUS_FULL
  let m := m.put Reg.DBK_STATUS_FULL (b2n f)
  if rises then m.raise 0x120 3 else m

/-! ### Writing (R503, R506, R507) -/

/-- The snapshot set of a code in the rate table in force, with its number. -/
def Mod.snapSet (m : Mod) (code : Nat) : Nat × List Nat :=
  match m.dbk.table with
  | none => (0, [])
  | some t =>
    match t.entries.find? (fun e => e.code == code) with
    | some e => if e.set = 0 then (0, []) else (e.set, t.sets.getD (e.set - 1) [])
    | none => (0, [])

/-- DBK reads a snapshot register or a word of the CAN message RAM. -/
def Mod.snapRead (m : Mod) (d : Daybook) (o : Nat) : Mod × Nat :=
  if 0x140000 ≤ o then (m, m.memRead d (regBase + o) 4) else (m.latchRead d o, m.readWord d o)

def Mod.snapReads (m : Mod) (d : Daybook) : List Nat → Mod × List Nat
  | [] => (m, [])
  | o :: r =>
    let (m, v) := m.snapRead d o
    let (m, vs) := m.snapReads d r
    (m, v :: vs)

/-- FORCE_SET records give their force its SET_SEQ at the next basic cycle start (R146): the entry whose KIND, WIDTH, BIT,
pair, ADDR and VALUE the record holds. -/
def Mod.noteSetSeq (m : Mod) (e : Event) (seq : Nat) : Mod :=
  if e.code != 0x0381 then m
  else
    let plain := fun (w : Nat) => w - bitsOf w 24 1 * 2 ^ 24
    let fits := fun (x : Nat × Force) => x.2.setSeq == 0 && !m.task.setSeqs.any (fun s => s.1 == x.1) &&
      plain (((x.2.words 0)).getD 0 0) == plain (e.snaps.getD 0 0) && x.2.addr == e.snaps.getD 1 0 && x.2.value == e.snaps.getD 2 0
    match m.task.forces.find? fits with
    | some x => m.setTask (fun t => { t with setSeqs := t.setSeqs ++ [(x.1, seq % 2 ^ 32)] })
    | none => m

/-- Event `e` goes into slot `k`. -/
def Mod.writeRecord (m : Mod) (d : Daybook) (e : Event) (k : Nat) : Mod × Daybook :=
  let own := e.snaps.take 15
  let (set, addrs) := m.snapSet e.code
  let (m, more) := m.snapReads d (addrs.take (15 - own.length))
  let seq := d.lastSeq + 1
  let lost := ((m.bucket e.code).map (·.overflow)).getD 0
  let r : Record := ⟨seq, e, lost, m.dbk.drops, set, own ++ more⟩
  let m := match m.bucket e.code with
    | some b => m.setBucket { b with overflow := 0 }
    | none => m
  let m := { m with dbk := { m.dbk with drops := 0 } }
  (m.noteSetSeq e seq, { d with slots := alSet d.slots k r, lastSeq := seq })

/-- The next event leaves the FIFO: written, or dropped by a full Daybook. -/
def Mod.daybookWrite (m : Mod) (d : Daybook) : Mod × Daybook :=
  match m.dbk.fifo with
  | [] => (m, d)
  | e :: rest =>
    let m := { m with dbk := { m.dbk with fifo := rest } }
    let (m, d) := match d.slotFor e.severity with
      | some k => m.writeRecord d e k
      | none =>
        ({ m with dbk := { m.dbk with drops := min 0xFFFF (m.dbk.drops + 1) } }.count Reg.DBK_DROPPED_TOTAL 1, d)
    (m.showFull d, d)

/-- A meaning that acts on the module and the Daybook. -/
def runDb (s : State) (f : Mod → Daybook → Mod × Daybook) : Outcome :=
  let r := f s.mod.fresh s.daybook
  .next { s with mod := r.1, daybook := r.2 }

def execDaybookWrite (s : State) : Outcome := runDb s (fun m d => m.daybookWrite d)

/-! ### The archive (R509) -/

/-- Records that 1 GiB holds, and those of a 1 MiB segment. -/
def archiveRecords : Nat := 8388608
def archiveSegment : Nat := 8192

/-- A record added to the archive; a full archive loses its oldest segment. -/
def archiveAdd (a : List Record) (r : Record) : List Record :=
  (if archiveRecords ≤ a.length then a.drop archiveSegment else a) ++ [r]

/-- A pass copies every record above DBK_ARCH_SEQ in SEQ order. -/
def Daybook.archivePass (d : Daybook) : Daybook :=
  let l := sortBy (fun (a b : Record) => a.seq < b.seq) ((d.slots.map (·.2)).filter (fun r => d.archSeq < r.seq))
  { d with archive := l.foldl archiveAdd d.archive, archSeq := l.foldl (fun n r => max n r.seq) d.archSeq }

/-- ARCHIVE_PASS: with ARCHIVE_EN set, while the management core runs. -/
def Mod.archivePass (m : Mod) (d : Daybook) : Mod × Daybook :=
  if m.flag Reg.DBK_CTL_ARCHIVE_EN && m.unit != stBOOT && !m.heldInReset then
    let d := d.archivePass
    (m.showFull d, d)
  else (m, d)

def execArchivePass (s : State) : Outcome := runDb s (fun m d => m.archivePass d)

/-- A write of DBK_ARCH_SEQ_HI applies both halves (R526): ignored below the current limit or above the last SEQ. -/
def Mod.archSeqApply (m : Mod) (d : Daybook) (hi : Nat) : Mod × Daybook :=
  let v := hi * 2 ^ 32 + m.get Reg.DBK_ARCH_SEQ_LO_ARCH_LO
  if v < d.archSeq ∨ d.lastSeq < v then (m, d)
  else
    let d := { d with archSeq := v }
    (m.showFull d, d)

end Sys2Proof.Machine
end

