-- ==== Sys2Proof/Machine/Update.lean ====
section
/-!
DEFINITION. Updating in the field (R567 to R588): staging, activation, trial, confirmation and fallback.
-/

namespace Sys2Proof.Machine

/-! ### Sessions (R556) -/

/-- PERMS bits: 3 UPDATE, 5 TEST. -/
def pmUPDATE : Nat := 3
def pmTEST : Nat := 5

/-- A session that holds permission bit `bit` exists on service port `svc`; with 2 (no port named), on any port. -/
def Mod.svcHas (m : Mod) (svc bit : Nat) : Bool :=
  m.sec.sessions.any (fun s => (svc == 2 || s.svc == svc) && bitOf s.perms bit && m.now < s.ends)

/-! ### Refusal conditions (R572 to R575) -/

/-- A sag in the last 60 s, or the supply below its minimum (R574). -/
def Mod.supplyPoor (m : Mod) : Bool :=
  m.get Reg.SYS_SUPPLY_MV_MV < m.get Reg.SYS_SUPPLY_MIN_MV || m.upd.sagAt.any (fun t => m.now - t < 60000000000)

/-- The vehicle or plant is at rest (R573). -/
def Mod.atRest (m : Mod) : Bool :=
  if m.upd.policy.kind = 0 then m.unit == stCONFIG || m.unit == stSAFE
  else m.upd.restSince.any (fun t => 2000000000 ≤ m.now - t)

def Mod.keyUsable (m : Mod) : Bool := m.flag Reg.CFG_KEY_STATUS_PRESENT && m.flag Reg.CFG_KEY_STATUS_SAME_KEY

def Package.has (g : Package) (p : Nat) : Bool := g.parts.any (fun x => x.part == p)
/-- Porter firmware together with another part (R577). -/
def Package.mixed (g : Package) : Bool := (g.has 3 || g.has 4) && g.parts.any (fun x => x.part != 3 && x.part != 4)

/-- The first code of a list of conditions that holds. -/
def firstCode : List (Bool × Nat) → Option Nat
  | [] => none
  | (c, n) :: r => if c then some n else firstCode r

/-! ### Staging (R569 to R571) -/

/-- The APP payload of a package is a change set (R569). -/
def Mod.isChangeSet (m : Mod) (plain : List (Nat × List Byte)) : Bool :=
  match plain.find? (fun x => x.1 == 7) with
  | some x => (parseSet x.2 m.triad).isSome
  | none => false

/-- The package lies in the update staging area (R27). -/
def Mod.stagePut (m : Mod) (pkg : List Byte) : Mod := m.wrBytes stagingDram pkg

/-- Codes at staging, from the conditions that need no verification. -/
def Mod.stageCode (m : Mod) (g : Option Package) : Option (Nat × Nat) :=
  match firstCode [(m.supplyPoor, 2), (m.flag Reg.SEC_OWNER_LOCK_UPD_LOCK, 3)], g with
  | some c, _ => some (0, c)
  | none, none => some (0, 7)
  | none, some g =>
    if g.mixed && !m.flag Reg.UPD_CTL_MODE then some (0, 7)
    else match m.compatFails g (m.candidate g.parts) with
      | some p => some (p, 6)
      | none =>
        if m.updState = upSTAGED ∨ m.updState = upTRIAL then some (0, 8)
        else if g.has 6 && !m.keyUsable then some (0, 10)
        else none

/-- PACKAGE_STAGE: a package arrives in a session with UPDATE; it is checked and verified, and its parts are written in
the background. A change set goes to online change and stops here. -/
def Mod.packageStage (m : Mod) (svc : Nat) (pkg : List Byte) : Mod :=
  if !m.svcHas svc pmUPDATE || m.get Reg.UPD_STATE_PHASE != 0 then m
  else
    let by_ := sliceB pkg
    let g := parsePackage (listLE pkg) by_ pkg.length
    let m := m.stagePut pkg
    match m.stageCode g, g with
    | some (p, c), _ => m.updRefuse p c
    | none, none => m
    | none, some g =>
      match m.verifyPackage by_ g with
      | .error p => m.updRefuse p 5
      | .ok plain =>
        if m.isChangeSet plain then (if g.parts.length = 1 then m else m.updRefuse 7 7)
        else (m.setUpd (fun u => { u with pkg := some g, plain := plain })).put Reg.UPD_STATE_PHASE 1

def execPackageStage (svc : Svc) (pkg : List Byte) (s : State) : Outcome := run s (fun m => m.packageStage svc.val pkg)

/-- The application set of an APP payload (R224, R569). -/
def appOf (payload : List Byte) : AppSet :=
  ⟨(Config.appPrograms payload).filterMap (fun x => (loadElf x.2).map (fun g => (x.1, g))), Config.appTable payload⟩

/-- Slot `v` of a firmware part takes a version, requirements and a payload. -/
def FwPart.fill (f : FwPart) (v version : Nat) (reqs : List UpdReq) (payload : List Byte) : FwPart :=
  { f with versions := listPut f.versions v version, reqs := f.reqs.set v reqs, payloads := f.payloads.set v payload }

/-- A part goes into its slot (R569). -/
def Mod.stagePart (m : Mod) (p : PkgPart) (plain : List Byte) : Mod :=
  if p.part = 6 then
    match m.cfg.key with
    | some k => m.setCfg (fun c => { c with key := some (keyWrite k (slotBase (1 - m.get Reg.CFG_KEY_STATUS_SLOT)) plain) })
    | none => m
  else
    let m := m.setFw p.part (fun f => f.fill (1 - f.cur) p.version p.reqs plain)
    if p.part = 7 then { m with chg := { m.chg with pendingSet := some (appOf plain) } } else m

/-- UPD_STAGED: every part is in its slot and reads back. Without its key a CFG part cannot be written. -/
def Mod.updStaged (m : Mod) : Mod :=
  match m.upd.pkg with
  | none => m
  | some g =>
    if m.get Reg.UPD_STATE_PHASE ≠ 1 then m
    else
      let m := m.put Reg.UPD_STATE_PHASE 0
      if g.has 6 && m.cfg.key.isNone then m.updRefuse 6 10
      else
        let m := g.parts.foldl (fun a p => a.stagePart p (((a.upd.plain.find? (fun x => x.1 == p.part)).map (·.2)).getD [])) m
        let parts := bitSet (g.parts.map (fun p => p.part - 1))
        let m := ((m.setUpd (fun u => { u with plain := [] })).put Reg.UPD_STATE_PARTS parts).setUpdState upSTAGED
        m.event 0x0E80 svNOTICE [g.id, parts]

def execUpdStaged (s : State) : Outcome := run s Mod.updStaged

/-- UPD_CTL.CANCEL: a STAGED module returns to IDLE. -/
def Mod.updCancel (m : Mod) : Mod :=
  if m.updState = upSTAGED ∧ m.get Reg.UPD_STATE_PHASE = 0 then
    let m := if m.pkgHas 7 then { m with chg := { m.chg with pendingSet := none } } else m
    m.setUpdState upIDLE
  else m

/-! ### Activation (R576 to R581) -/

/-- MODE is allowed in the unit state (R576). -/
def Mod.modeAllowed (m : Mod) (part : Bool) : Bool :=
  let u := m.unit
  u == stCONFIG || u == stSAFE || (!part && (u == stACTIVE || u == stSTANDBY))

def Mod.peerStandby (m : Mod) : Bool := m.flag Reg.TWN_STATUS_PEER_PRESENT && m.get Reg.TWN_STATUS_PEER_STATE == stSTANDBY

/-- The twin is busy (R572 code 4). -/
def Mod.twinBusy (m : Mod) : Bool :=
  m.hasTwin && m.flag Reg.TWN_STATUS_PEER_PRESENT && (m.twn.peerTrial || m.twn.peerChanging || m.twn.peerSwapping)

/-- Codes at activation. -/
def Mod.activateCode (m : Mod) (g : Package) (part : Bool) : Option (Nat × Nat) :=
  let compat := if part then none else m.compatFails g (m.candidate g.parts)
  match firstCode [(!m.atRest, 1), (m.supplyPoor, 2), (m.flag Reg.SEC_OWNER_LOCK_UPD_LOCK, 3), (m.twinBusy, 4)] with
  | some c => some (0, c)
  | none =>
    match compat with
    | some p => some (p, 6)
    | none => (firstCode [(g.mixed && !part, 7), (!m.modeAllowed part || (m.hasTwin && m.role == rlACTIVE && m.peerStandby), 8),
        (m.get Reg.TASK_CHG_STATUS_STATE != 0, 9), (g.has 6 && !m.keyUsable, 10)]).map (fun c => (0, c))

/-- The boot record of a new trial. -/
def Mod.trialRecord (m : Mod) (porters : Bool) : Mod :=
  let m := m.setUpd (fun u => { u with
    boot := ⟨true, false, porters, 0, u.policy.confirmS, 0, 0⟩, confirmDue := false, fallbackDue := none, cycleClean := true })
  ((((m.put Reg.UPD_STATE_TRIAL_STARTS 0).put Reg.UPD_CLEAN_COUNT 0).setUpdState upTRIAL).put Reg.UPD_CONFIRM_REMAIN_SECONDS
    m.upd.policy.confirmS).setUpd (fun u => { u with secondAt := m.now })

/-- The next Porter of the package restarts (R580, R586). -/
def Mod.porterNext (m : Mod) : Mod :=
  match m.upd.porterQueue with
  | [] => if m.upd.boot.fallingBack then m.fallenBack else m.put Reg.UPD_STATE_PHASE 0
  | s :: r => (m.setUpd (fun u => { u with porterQueue := r, porterDone := u.porterDone ++ [s] })).porterRestart s

/-- What R569 restarts for part `p`, after its slots have been exchanged; `trial`: the TRIAD flag of the key header. -/
def Mod.partSwitch (m : Mod) (p : Nat) (trial : Bool) : Mod :=
  match p with
  | 1 => ((m.fwFlip 1).outputsSafe).restart none Reg.SYS_RESET_CAUSE_UPDATE
  | 2 => m.fwFlip 2
  | 3 => m.porterRestart 0
  | 4 => m.porterRestart 1
  | 5 => (m.fwFlip 5).dioStart
  | 6 => ((m.keyHeaderTo (fun s => 1 - s) trial).outputsSafe).restart none Reg.SYS_RESET_CAUSE_UPDATE
  | _ =>
    let c := m.chg
    let m := if trial then { m with chg := { c with previous := c.current, current := c.pendingSet, pendingSet := none } }
      else { m with chg := { c with current := c.previous, previous := none } }
    (m.outputsSafe).restart none Reg.SYS_RESET_CAUSE_UPDATE

/-- The part restarts the module (R569). -/
def restartsModule (p : Nat) : Bool := p == 1 || p == 6 || p == 7

def Mod.partFault (m : Mod) (p : Nat) : Mod :=
  let v := ((m.upd.pkg.bind (fun g => g.parts.find? (fun x => x.part == p))).map (·.version)).getD 0
  m.raise 0x140 3 0 [p, v]

/-- Parts in turn until one passes its compatibility check and starts (R581); at the end the state is decided. -/
def Mod.partNext (m : Mod) : List Nat → Mod
  | [] =>
    let m := m.setUpd (fun u => { u with partQueue := [], partNow := none })
    (m.setUpdState (if m.upd.partsConfirmed.isEmpty then upFALLEN else upCONFIRMED)).put Reg.UPD_STATE_PHASE 0
  | p :: r =>
    let fails : Option Nat := match m.upd.pkg with
      | some g => m.compatFails g (m.candidate (g.parts.filter (fun x => x.part == p)))
      | none => none
    if fails.isSome then (m.partFault p).partNext r
    else (m.setUpd (fun u => { u with partQueue := r, partNow := some p })).partSwitch p true

/-- A staged package is activated (R576). -/
def Mod.activateGo (m : Mod) (g : Package) (part : Bool) : Mod :=
  let m := (m.put Reg.UPD_STATE_MODE (b2n part)).put Reg.UPD_STATE_PHASE 2
  let m := m.event 0x0E81 svNOTICE [g.id, b2n part]
  if part then (m.setUpd (fun u => { u with partsConfirmed := [] })).partNext (g.parts.map (·.part))
  else if g.parts.all (fun p => p.part == 3 || p.part == 4) then
    ((m.trialRecord true).setUpd (fun u => { u with
      porterQueue := [3, 4].filterMap (fun p => if g.has p then some (p - 3) else none), porterDone := [] })).porterNext
  else m.setUpd (fun u => { u with quiescing := true, quiesceCycles := 0 })

/-- UPD_CTL.ACTIVATE is written with 1: outside STAGED nothing is staged (code 8), and during an activation the write has
no effect. -/
def Mod.activateWrite (m : Mod) (svc : Nat) : Mod :=
  if !m.svcHas svc pmUPDATE || m.get Reg.UPD_STATE_PHASE != 0 then m
  else
    let part := m.flag Reg.UPD_CTL_MODE
    match m.upd.pkg with
    | none => m.updRefuse 0 8
    | some g =>
      if m.updState ≠ upSTAGED then m.updRefuse 0 8
      else match m.activateCode g part with
        | some (p, c) => m.updRefuse p c
        | none => m.activateGo g part

/-- No latched release waits for its commit point (R578 step 1). -/
def Mod.quiet2 (m : Mod) : Bool :=
  m.task.releases.all (fun r => r.stage == .done) && m.lgr.requests.isEmpty && m.lgr.commit.isNone

/-- ACTIVATION_QUIESCED: steps 2 to 4 of R578. -/
def Mod.activationQuiesced (m : Mod) : Mod :=
  if m.upd.quiescing && m.quiet2 then
    let m := (m.trialRecord false).setUpd (fun u => { u with quiescing := false })
    let m := ([1, 2, 5].filter m.pkgHas).foldl Mod.fwFlip m
    let m := if m.pkgHas 5 then m.dioStart else m
    let m := if m.pkgHas 6 then m.keyHeaderTo (fun s => 1 - s) true else m
    let c := m.chg
    let m := if m.pkgHas 7 then { m with chg := { c with previous := c.current, current := c.pendingSet, pendingSet := none } } else m
    ((m.put Reg.UPD_STATE_PHASE 0).outputsSafe).restart none Reg.SYS_RESET_CAUSE_UPDATE
  else m

def execActivationQuiesced (s : State) : Outcome := run s Mod.activationQuiesced

/-- Step 1 of R578 has lasted 4 basic cycles: code 8, and releases resume. -/
def Mod.quiesceCycle (m : Mod) : Mod :=
  if m.upd.quiescing then
    if 4 ≤ m.upd.quiesceCycles then
      ((m.setUpd (fun u => { u with quiescing := false, quiesceCycles := 0 })).put Reg.UPD_STATE_PHASE 0).updRefuse 0 8
    else m.setUpd (fun u => { u with quiesceCycles := u.quiesceCycles + 1 })
  else m

/-- PART_START_CHECK: the part under its start check passes, or restarts alone from its old slot. -/
def Mod.partStartCheck (m : Mod) (pass : Bool) : Mod :=
  match m.upd.partNow with
  | none => m
  | some p =>
    let m := m.setUpd (fun u => { u with partNow := none })
    if pass then
      let m := if p = 6 then m.keyHeaderTo (fun s => s) false else m
      (m.setUpd (fun u => { u with partsConfirmed := u.partsConfirmed ++ [p] })).partNext m.upd.partQueue
    else
      let m := (m.partFault p).partSwitch p false
      if restartsModule p then m else m.partNext m.upd.partQueue

def execPartStartCheck (pass : Bool) (s : State) : Outcome := run s (fun m => m.partStartCheck pass)

/-- PORTER_UPDATE_CHECK: the restarted Porter reports FORWARDING within 2 s, or does not. PHASE reads 0 or FALLING_BACK
while the next Porter waits for its turn. -/
def Mod.porterCheck (m : Mod) (forwarding : Bool) : Mod :=
  let ph := m.get Reg.UPD_STATE_PHASE
  if !m.upd.boot.porters || !(ph == 4 || ph == 5) then m
  else if m.upd.boot.fallingBack then
    let m := m.put Reg.UPD_STATE_PHASE 3
    if m.upd.porterQueue.isEmpty then m.porterNext else m
  else if forwarding then m.put Reg.UPD_STATE_PHASE (if m.upd.porterQueue.isEmpty then 0 else 2)
  else (m.put Reg.UPD_STATE_PHASE 0).updFallback 5

def execPorterUpdateCheck (forwarding : Bool) (s : State) : Outcome := run s (fun m => m.porterCheck forwarding)

/-- At a basic cycle start with no fallback in force, the next Porter of the package restarts. -/
def Mod.porterCycle (m : Mod) : Mod :=
  let ph := m.get Reg.UPD_STATE_PHASE
  if m.upd.boot.porters && (ph == 2 || ph == 3) && !m.upd.porterQueue.isEmpty && m.kindNow == 0 then m.porterNext else m

/-! ### Trial (R583 to R585) -/

/-- CONFIRM_WINDOW_END: the window has run down. -/
def Mod.confirmWindowEnd (m : Mod) : Mod :=
  if m.updState ≠ upTRIAL ∨ m.upd.boot.fallingBack ∨ m.upd.confirmDue then m
  else
    let m := m.put Reg.UPD_CONFIRM_REMAIN_SECONDS 0
    if m.cleanEnough then m.updConfirm else m.updFallback 1

def execConfirmWindowEnd (s : State) : Outcome := run s Mod.confirmWindowEnd

/-- UPD_CTL.CONFIRM is written with 1 in TRIAL. -/
def Mod.confirmWrite (m : Mod) : Mod :=
  if m.updState = upTRIAL ∧ m.upd.boot.fallingBack = false then m.updConfirm else m

/-- A CONFIRM write in TRIAL with too few clean cycles is refused (R584). -/
def Mod.confirmRefused (m : Mod) : Bool := m.updState == upTRIAL && !m.cleanEnough

/-- DBK_ARCHIVE (R509): the management core sets DBK_CTL.ARCHIVE_EN. -/
def execDbkArchive (on : Bool) (s : State) : Outcome := run s (fun m => m.archiveEnable on)

/-! ### Motion (R573) and clean cycles (R583) -/

/-- The bytes of the motion source. -/
def Mod.motionByte (m : Mod) (k : Nat) : Nat :=
  let p := m.upd.policy
  (if p.area = 0 then m.inByte (p.off + k) else m.outByte (p.off + k)).toNat

/-- The source's status byte makes it unusable. -/
def Mod.motionInvalid (m : Mod) : Bool :=
  let st := m.dsStatus m.upd.policy.ds
  m.upd.policy.kind != 0 && m.upd.policy.area == 0 && (!bitOf st 0 || bitOf st 2 || bitOf st 4)

/-- SYS_MOTION at a basic cycle start, and since when the vehicle has been at rest. -/
def Mod.motionCycle (m : Mod) : Mod :=
  let p := m.upd.policy
  let v := match p.kind with
    | 1 => m.motionByte 0 + 256 * m.motionByte 1
    | 2 => b2n (bitOf (m.motionByte 0) p.bit)
    | _ => 0
  let moving := match p.kind with
    | 1 => decide (p.threshold < v) || m.motionInvalid
    | 2 => v != 0 || m.motionInvalid
    | _ => m.flag Reg.SYS_MOTION_MOVING
  let m := ((m.put Reg.SYS_MOTION_VALUE v).put Reg.SYS_MOTION_INVALID (b2n m.motionInvalid)).put Reg.SYS_MOTION_MOVING (b2n moving)
  m.setUpd (fun u => { u with restSince := if moving then none else u.restSince <|> some m.now })

/-- The supply of a basic cycle (R574, R619). -/
def Mod.supplyCycle (m : Mod) (mv : Nat) : Mod :=
  let m := m.put Reg.SYS_SUPPLY_MV_MV mv
  if mv < m.get Reg.SYS_SUPPLY_MIN_MV then m.setUpd (fun u => { u with sagAt := some m.now }) else m

/-- The unit has been in RUN_ACTIVE or RUN_STANDBY for a whole cycle. -/
def Mod.runs (m : Mod) : Bool := m.unit == stACTIVE || m.unit == stSTANDBY

/-- The end of a basic cycle in TRIAL: clean cycles, the window in seconds of running, and the boot record every 60 s. -/
def Mod.trialCycle (m : Mod) : Mod :=
  let since := m.upd.runSince
  let clean := m.upd.cycleClean && since.isSome && m.runs
  let m := m.setUpd (fun u => { u with runSince := if m.runs then since <|> some m.now else none, cycleClean := true })
  if m.updState ≠ upTRIAL then m
  else
    let m := if clean then m.count Reg.UPD_CLEAN_COUNT 1 else m
    let n := (m.now - m.upd.secondAt) / 1000000000
    let m := if n = 0 then m
      else if m.runs then
        (m.put Reg.UPD_CONFIRM_REMAIN_SECONDS (m.get Reg.UPD_CONFIRM_REMAIN_SECONDS - n)).setUpd (fun u =>
          { u with secondAt := u.secondAt + n * 1000000000 })
      else m.setUpd (fun u => { u with secondAt := m.now })
    let r := m.get Reg.UPD_CONFIRM_REMAIN_SECONDS
    if n ≠ 0 ∧ r % 60 = 0 then
      m.setUpd (fun u => { u with boot := { u.boot with remain := r, clean := m.get Reg.UPD_CLEAN_COUNT } })
    else m

/-- A fallback that waited for a swap goes on once the swap is over (R586). -/
def Mod.fallbackWait (m : Mod) : Mod :=
  match m.upd.fallbackDue with
  | some c => if m.twn.swap.isNone && !m.twn.swapSent then m.fallbackGo c else m
  | none => m

end Sys2Proof.Machine
end

