-- ==== Sys2Proof/Machine/Start.lean ====
section
/-!
DEFINITION. Start-up (R535 to R543), the Tally key (R530, R549, R550) and delivered generations (R538).
-/

namespace Sys2Proof.Machine

/-! ### The key -/

/-- Firmware of a trial reads the generations it finds (R587). -/
def Mod.readsGeneration (m : Mod) : Bool :=
  match (m.fwPart 2).payloads.getD (m.fwPart 2).cur [] with
  | [] => true
  | l => Config.firmwareReads l 1

/-- The generation in slot `v` of a key, if the module accepts it (R534) and its firmware can read it. -/
def Mod.slotGen (m : Mod) (k : TallyKey) (v : Nat) : Option Generation := if m.readsGeneration then m.acceptGen k v else none

/-- Slot that the header of a key names. -/
def keySlot (k : TallyKey) : Option Nat := (keyCurrent k).map (fun h => h.2.2.1)

/-- The slot and the generation that a start takes: that of CURRENT, else the other one (R535). -/
def Mod.pickGen (m : Mod) (k : TallyKey) : Option (Nat × Generation) :=
  match keySlot k with
  | none => none
  | some v =>
    match m.slotGen k v with
    | some g => some (v, g)
    | none => (m.slotGen k (1 - v)).map (fun g => (1 - v, g))

/-- CFG_KEY_STATUS after a reading of the key. -/
def Mod.keyShow (m : Mod) (same : Bool) : Mod :=
  match m.cfg.key with
  | none => ((m.put Reg.CFG_KEY_STATUS_PRESENT 0).put Reg.CFG_KEY_STATUS_SAME_KEY 0).put Reg.CFG_KEY_STATUS_OTHER_VALID 0
  | some k =>
    let m := ((m.put Reg.CFG_KEY_STATUS_PRESENT 1).put Reg.CFG_KEY_STATUS_AUTH_OK (b2n k.authentic)).put
      Reg.CFG_KEY_STATUS_SAME_KEY (b2n (k.authentic && same))
    m.put Reg.CFG_KEY_STATUS_OTHER_VALID (b2n (k.authentic && (m.slotGen k (1 - m.get Reg.CFG_KEY_STATUS_SLOT)).isSome))

/-! ### The update policy (R573) -/

/-- A policy table that passes its ranges. -/
def parsePolicy (l : List Byte) : Option UpdPolicy :=
  let rd := listLE l
  let kind := rd 6 1
  let area := rd 7 1
  let pol : UpdPolicy := ⟨kind, area, rd 8 2, rd 0xA 1, bitOf (rd 0xB 1) 0, rd 0xC 2, rd 0xE 2, rd 0x10 2, rd 0x12 2, rd 0x14 4, rd 0x18 4⟩
  if rd 0 4 = 0x4C4F5055 ∧ rd 4 2 = 1 ∧ l.length = 64 ∧ kind ≤ 2 ∧ area ≤ 1 ∧ (if kind = 2 then pol.bit ≤ 7 else pol.bit = 0) ∧
      rd 0xB 1 < 2 ∧ (area = 0 ∨ pol.ds = 0xFFFF) ∧ 60 ≤ pol.nominal ∧ pol.nominal ≤ 1600 ∧ 500 ≤ pol.permille ∧
      pol.permille ≤ 1000 ∧ 60 ≤ pol.confirmS ∧ pol.confirmS ≤ 86400 ∧ 1000 ≤ pol.cleanMin ∧ pol.cleanMin ≤ 1000000 ∧
      (sliceB l 0x1C 32).all (· == 0) ∧ crc32 (sliceB l 0 0x3C ++ [0, 0, 0, 0]) = rd 0x3C 4 then some pol
  else none

/-- The management core writes the policy's registers (R574, R595, R596). -/
def Mod.putPolicy (m : Mod) (pol : Option UpdPolicy) : Mod :=
  let p := pol.getD .default
  let m := m.setUpd (fun u => { u with policy := p, restSince := none })
  let m := ((m.put Reg.UPD_CONFIRM_CFG_POLICY (b2n pol.isSome)).put Reg.UPD_CONFIRM_CFG_UNREADABLE_FALLBACK (b2n p.unreadable)).put
    Reg.UPD_CONFIRM_CFG_CONFIRM_S p.confirmS
  ((m.put Reg.UPD_CLEAN_MIN_CLEAN_MIN p.cleanMin).put Reg.SYS_SUPPLY_MIN_MV (p.nominal * p.permille / 10)).put Reg.SYS_MOTION_KIND p.kind

def Generation.policy (g : Generation) : Option UpdPolicy := g.tables.findSome? (fun t => parsePolicy t.2)

/-! ### The start transaction (R535 to R540, R636) -/

/-- Pairs that the generation makes SPLIT start their cores once their self-test has passed (R45, R537). -/
def Mod.splitsStart (m : Mod) : Mod :=
  (List.range 3).foldl (fun a p => if a.split p && a.lstate p == lnIDLE then a.splitStart p else a) m

/-- The accepted generation is applied, and the loader runs. -/
def Mod.startWith (m : Mod) (v : Nat) (g : Generation) (k : TallyKey) : Mod :=
  let m := (m.startApply g v).setCfg (fun c => { c with startSerial := k.serial })
  ((m.keyShow true).putPolicy g.policy).splitsStart.loadPrograms.endTests

/-- No generation can be used: NO_CONFIGURATION, and the unit stays in CONFIG. -/
def Mod.noConfiguration (m : Mod) : Mod :=
  let m := m.raise 0x130 9
  if m.upd.boot.trial && m.cfg.key.isSome && !m.readsGeneration then m.settingsUnreadable 1 else m

/-- The management core reads the key (R535, R538): step 3 of R536. -/
def Mod.startTransaction (m : Mod) : Mod :=
  if m.unit ≠ stCONFIG then m
  else
    match m.cfg.key with
    | none => (m.keyShow false).noConfiguration
    | some k0 =>
      if !k0.authentic then ((m.keyShow false).raise 0x130 7).noConfiguration
      else
        let m := m.fallbackKey
        let k := m.cfg.key.getD k0
        let m := match keySlot k with
          | some v => if (m.slotGen k v).isSome then m else m.raise 0x130 8 0 [v]
          | none => m
        match m.pickGen k with
        | some (v, g) => m.startWith v g k
        | none => (m.keyShow true).noConfiguration

/-- START_TRANSACTION_COMMIT. -/
def execStartTransactionCommit (s : State) : Outcome := run s Mod.startTransaction

/-! ### The management core starts (R536 step 2, R543, R585) -/

/-- A start of a trial counts; the fourth falls back (R585 cause 3). -/
def Mod.trialStart (m : Mod) : Mod :=
  if m.upd.boot.trial && !m.upd.boot.porters then
    let n := m.upd.boot.starts + 1
    (m.setUpd (fun u => { u with boot := { u.boot with starts := n } })).put Reg.UPD_STATE_TRIAL_STARTS n
  else m

/-- A part that restarted the module has been activated, or fell back: the next one follows (R581). -/
def Mod.partsGoOn (m : Mod) : Mod :=
  if m.get Reg.UPD_STATE_PHASE = 2 ∧ m.flag Reg.UPD_STATE_MODE ∧ m.upd.partNow.isNone then m.partNext m.upd.partQueue else m

/-- MC_FIRMWARE_RUNNING: CONFIG, and every pair leaves RESET into SELFTEST. -/
def Mod.mcRunning (m : Mod) : Mod :=
  if m.unit ≠ stBOOT ∨ m.heldInReset then m
  else if m.upd.boot.trial && !m.upd.boot.porters && m.upd.boot.starts == 3 then m.fallbackGo 3
  else
    let m := m.trialStart.setState stCONFIG
    ((List.range 3).foldl Mod.pairRelease m).partsGoOn

def execMcFirmwareRunning (s : State) : Outcome := run s Mod.mcRunning

/-! ### The end of the start sequence (R542) -/

/-- A pair is FAILED under a consequence of R61 that calls for surrender. -/
def Mod.failedBarsStart (m : Mod) : Bool := (List.range 3).any (fun p => m.lstate p == lnFAILED && m.failSurrenders p)

/-- RUN_STANDBY: the polls of the twin were heard (R344). -/
def Mod.becomeStandby (m : Mod) : Mod :=
  let m := ((m.setRole rlSTANDBY).put Reg.CYC_STATUS_ROLE cySTANDBY).put Reg.LGR_STATUS_MIRROR miRECEIVING
  (m.setUpd (fun u => { u with runSince := some m.now })).setState stSTANDBY

/-- RUN_ACTIVE: the safe table is written (R437), the pairs run, and CAN starts. -/
def Mod.becomeActive (m : Mod) : Mod :=
  let m := if m.hasTwin then m.setRole rlACTIVE else m
  let m := (m.lbbSafeWrites.setState stACTIVE).canStart
  let m := m.setCyc (fun c => { c with activeSince := m.now, admitDone := false })
  (m.setUpd (fun u => { u with runSince := some m.now })).pairsRun

/-- The unit takes SURRENDERED at step 7 without having been active. -/
def Mod.startSurrendered (m : Mod) : Mod :=
  let m := (m.setRole rlSURRENDERED).put Reg.CYC_STATUS_ROLE cySILENT
  (m.setCyc (fun c => { c with silent := true })).setState stSURRENDERED

/-- STARTUP_FINAL_STATE: after the restore; the first state of R542 that applies. -/
def Mod.startupFinal (m : Mod) : Mod :=
  if m.unit ≠ stSTARTING ∨ m.lgr.restored = false then m
  else
    let latch := m.lgr.safeLatch
    let m :=
      if latch && m.hasTwin then m.startSurrendered
      else if latch || m.cfg.safeAtStart || m.twn.conflict || m.failedBarsStart then m.setState stSAFE
      else if m.hasTwin && m.cyc.foreignPoll then m.becomeStandby
      else if m.cycRole = cyMASTER ∧ m.cycleIndex = 0 then m.becomeActive
      else m
    m.endTests.trialWatch

def execStartupFinalState (s : State) : Outcome := run s Mod.startupFinal

/-! ### Key events (R549, R550) -/

/-- GENERATION_WRITTEN: the new generation is in its slot and read back, and the header names it. -/
def Mod.generationWritten (m : Mod) : Mod :=
  match m.cfg.key, m.cfg.writing with
  | some k, some (v, l) =>
    let k := keySetHeader (keyWrite k (slotBase v) l) v false
    let g := parseGeneration (listLE l) (sliceB l)
    let n := listLE l 8 4
    let m := m.setCfg (fun c => { c with key := some k, writing := none, gen := g <|> c.gen })
    let m := (m.put Reg.CFG_KEY_STATUS_WRITING 0).put Reg.CFG_KEY_STATUS_SLOT v
    ((m.put Reg.CFG_GENERATION_GENERATION n).put Reg.CFG_KEY_STATUS_OTHER_VALID (b2n (m.slotGen k (1 - v)).isSome)).event
      0x0D81 svNOTICE [n, v]
  | _, _ => m

def execGenerationWritten (s : State) : Outcome := run s Mod.generationWritten

/-- KEY_REMOVED: the unit runs on; a generation write that ran has failed. -/
def Mod.keyRemoved (m : Mod) : Mod :=
  if m.cfg.key.isNone then m
  else
    let writing := m.cfg.writing.isSome
    let m := (m.setCfg (fun c => { c with key := none, writing := none })).put Reg.CFG_KEY_STATUS_WRITING 0
    let m := ((m.keyShow false).count Reg.CFG_KEY_STATUS_REMOVALS 1).raise 0x130 5
    if writing then m.raise 0x130 10 else m

def execKeyRemoved (s : State) : Outcome := run s Mod.keyRemoved

/-- What waits for the key: a confirmation (R584) and the header of a fallback (R586). -/
def Mod.keyWaiters (m : Mod) : Mod :=
  let m := if m.cfg.key.any (·.authentic) then m.fallbackKey else m
  if m.upd.confirmDue then m.updConfirm else m

/-- KEY_RETURNED: the key is authenticated; SAME_KEY if its KEY_SERIAL and its GENERATION in force are those read at start.
In CONFIG the key is read (R538). -/
def Mod.keyReturned (m : Mod) (k : TallyKey) : Mod :=
  if m.cfg.key.isSome then m
  else
    let m := (m.setCfg (fun c => { c with key := some k })).put Reg.CFG_KEY_STATUS_PRESENT 1
    if m.unit = stBOOT then m
    else if m.unit = stCONFIG then m.startTransaction
    else
      let found := ((m.pickGen k).map (·.2.number)).getD 0
      let same := k.authentic && k.serial == m.cfg.startSerial && found == m.cfg.startGen
      let m := m.keyShow same
      let m := if !k.authentic then m.raise 0x130 7 else if same then m else m.raise 0x130 6 0 [found]
      (m.event 0x0D82 svNOTICE [b2n same]).keyWaiters

def execKeyReturned (key : TallyKey) (s : State) : Outcome := run s (fun m => m.keyReturned key)

/-- GENERATION_DELIVERY (R538): in CONFIG, in a session with UPDATE. The image is written into the slot that the header does not
name if the module accepts it. -/
def Mod.generationDelivery (m : Mod) (svc : Nat) (image : List Byte) : Mod :=
  if m.unit ≠ stCONFIG ∨ !m.svcHas svc pmUPDATE then m
  else match m.cfg.key, parseGeneration (listLE image) (sliceB image) with
    | some k, some _ =>
      if k.authentic && m.genSigned (listLE image) (sliceB image) then
        let v := (keySlot k).elim 0 (1 - ·)
        let k := keySetHeader (keyWrite k (slotBase v) image) v false
        (m.setCfg (fun c => { c with key := some k })).startTransaction
      else m
    | _, _ => m

def execGenerationDelivery (svc : Svc) (image : List Byte) (s : State) : Outcome :=
  run s (fun m => m.generationDelivery svc.val image)

end Sys2Proof.Machine
end

