-- ==== Sys2Proof/Machine/BasicCycle.lean ====
section
/-!
DEFINITION. BASIC_CYCLE_START (R30): the end of the cycle that passes, the work of the cycle start, the group 0 poll, the
heartbeats and the Porters' status messages.
-/

namespace Sys2Proof.Machine

/-- The unit becomes master of the cycle that starts (R308, R351 step 4); a standby that won the cold start takes over (R357). -/
def Mod.becomeMaster (m : Mod) : Mod :=
  if !m.cyc.masterNext || m.cyc.silent then m
  else
    let m := if m.unit = stSTANDBY then m.takeover pathSILENT else m
    (m.put Reg.CYC_STATUS_ROLE cyMASTER).setCyc (fun c => { c with masterNext := false, started := true, foreignPoll := false })

/-- The cycle number of the cycle that starts (R243): 0 for a network that this unit starts. A follower has taken it from the
poll of this cycle already where that came in the last half cycle. -/
def Mod.nextCycle (m : Mod) (fresh : Bool) : Mod :=
  let c := if fresh then 0 else m.cycleAfter m.cycle 1
  if !m.mastering && 2 * (m.now - m.cyc.cycleStart) < m.bcQ * 250000 then m
  else (m.put Reg.CYC_CYCLE_CYCLE c).setCyc (fun x => { x with cycleStart := m.now, fresh := false })

/-- SET_SEQ values of the forces set since the last basic cycle start (R147). -/
def Mod.fillSetSeqs (m : Mod) : Mod :=
  let l := m.task.setSeqs
  if l.isEmpty then m
  else (m.setTask (fun t => { t with
      setSeqs := [], forces := t.forces.map (fun e => (e.1, { e.2 with setSeq := (alGet l e.1).getD e.2.setSeq })) })).loose
    (l.map (fun e => 6400 + e.1 / 16))

/-- Forces at a basic cycle start (R148, R150, R151). -/
def Mod.forceCycle (m : Mod) : Mod :=
  let m := m.setTask (fun t => { t with
    forcedPoll := m.flag Reg.SYS_STATE_FORCED, forceBudget := m.get Reg.TASK_CTL_FORCE_BATCH })
  let m := m.fillSetSeqs
  (if m.running then m.publishOrphans else m).forceIndications

/-- The step towards the time leader (R265). -/
def Mod.leaderJump (m : Mod) : Mod :=
  if m.cyc.leaderStep then
    (m.setCyc (fun c => { c with leaderStep := false })).stepTo
      (((m.modTime / 1000000000 : Nat) : Int) + m.cyc.leaderOffset).toNat 1
  else m

/-- Ages of the peer, the channels and the polls, and the claim and swap counters of the twin (R340, R346, R349, R356, R361). -/
def Mod.twinCycle (m : Mod) : Mod :=
  let m := m.setTwn (fun w => { w with chanAge := w.chanAge.map (· + 1) })
  if !m.hasTwin then m
  else
    let here := !m.mastering && m.twn.polledNow && m.cyc.pollMono == m.cyc.cycleStart
    let m := (m.count Reg.TWN_HEARTBEAT_AGE_LINK_AGE 1).count Reg.TWN_HEARTBEAT_AGE_FCN_AGE 1
    let m := if 3 ≤ m.get Reg.TWN_HEARTBEAT_AGE_FCN_AGE then m.put Reg.TWN_STATUS_PEER_FCN 0 else m
    m.setTwn (fun w => { w with
      pollAge := if w.polledNow then 0 else w.pollAge + 1, polledNow := here, claimNextCycle := false
      pollSeen := if m.mastering then m.cycle else w.pollSeen
      swap := w.swap.map (fun x => if x.2 then (x.1 + 1, true) else (0, true)) })

/-- Heartbeats on both lanes (R338) and the status message of each Porter that is up (R339). -/
def Mod.twinMessages (m : Mod) : Mod :=
  if !m.hasTwin then m
  else
    let m := ([0, 1] : List Nat).foldl (fun a l => a.emit (.heartbeat l a.heartbeatBody)) m
    ([0, 1] : List Nat).foldl (fun a s => if a.prtState s ≤ psLOADING then a else a.statusMessage s) m

/-- Ports that the STAR Porter of channel `s` excludes (R303): this module's or the twin's. -/
def Mod.excludedPorts (m : Mod) (s : Nat) : Nat :=
  if m.flag Reg.PRT_CTL_MODE s then m.twn.peerExcluded
  else bitSet ((List.range 24).filter (fun p => m.flag Reg.PRT_Pp_STATUS_EXCLUDED s p))

/-- The master learns of exclusions (R303): the node at the port is lost. -/
def Mod.learnExclusions (m : Mod) : Mod :=
  let now := ([0, 1] : List Nat).map m.excludedPorts
  let old := m.cyc.excluded
  let m := m.setCyc (fun c => { c with excluded := now })
  if !m.mastering then m
  else ([0, 1] : List Nat).foldl (fun a s => (List.range 24).foldl (fun b p =>
    if bitOf (now.getD s 0) p && !bitOf (old.getD s 0) p then
      (b.cyc.nodes.filter (fun e => e.port s == p)).foldl (fun x e => x.nodeLost e.node) b
    else b) a) m

/-- At a macrocycle start admitted nodes become named (R312) and the peaks of CYC_SYNC follow (R283). -/
def Mod.macroStart (m : Mod) : Mod :=
  if !m.mastering || m.cycleIndex != 0 then m
  else (m.setCyc (fun c => { c with nodeStates := c.nodeStates.map (fun x => { x with waiting := false, named := true }) })).syncPeaks

/-- The gateway starts (R408, R351 step 6). -/
def Mod.gwCycle (m : Mod) : Mod :=
  (if m.unit = stACTIVE ∧ m.twn.takingOver = false then { m with gw := { m.gw with started := true } } else m).gwRefresh.lbbRefresh

/-- The master's decisions and its group 0 poll (R239, R240, R251, R259). -/
def Mod.masterCycle (m : Mod) : Mod :=
  if !m.mastering then m
  else
    let m := (m.setCyc (fun c => { c with twinRole := m.twinRoleNow })).put Reg.CYC_STATUS_TIME_LEADER (b2n (!m.cyc.leaderSet))
    let m := if m.cyc.leaderSet then m else m.put Reg.CYC_STATUS_SYNC_LOCKED 1
    (m.cycleDecisions.announceDecided).sendPoll 0

/-- The work of a cycle start. -/
def Mod.cycleWork (m : Mod) : Mod :=
  let m := (m.applyAnnounce.forcedChannels).cycleBoundary
  let m := if m.cycleIndex = 0 then m.taskSwap else m
  let m := (m.switchBoundary.forceCycle).endHolds
  let m := (m.timeStep.leaderJump.twinCycle.twinMessages).learnExclusions
  let m := m.macroStart.gwCycle.masterCycle
  (((m.motionCycle.quiesceCycle).trialWatch.fcTryClose.endTests).porterCycle).fallbackWait

/-- BASIC_CYCLE_START; `mv` is the lowest supply voltage of the cycle that ends. -/
def Mod.basicCycleStart (m : Mod) (mv : Nat) : Mod :=
  if !(m.cyc.started || m.cyc.masterNext) then m
  else
    let fresh := m.cyc.masterNext && m.cyc.fresh
    (((m.becomeMaster.trialCycle).supplyCycle mv).nextCycle fresh).cycleWork

def execBasicCycleStart (mv : BitVec 18) (s : State) : Outcome := run s (fun m => m.basicCycleStart mv.toNat)

end Sys2Proof.Machine
end

