-- ==== Sys2Proof/Machine/Ledger.lean ====
section
/-!
DEFINITION. The Ledger's commands (R174 to R192): commits, the mirror and the MRAM devices.
-/

namespace Sys2Proof.Machine

/-- The Ledger makes no commit: it has not restored yet (R186), it is inhibited at LOW (R184), failed (R193), or held off by an
unreadable record (R587). -/
def Mod.commitsStopped (m : Mod) : Bool :=
  !m.lgr.restored || m.lgr.inhibited || m.get Reg.LGR_STATUS_STATE == 4 || m.upd.unreadable

/-- At least 250 µs have passed since the start of the previous commit (R174). -/
def Mod.commitSpaced (m : Mod) : Bool := m.lgr.lastStart.all (fun t => t + 250000 ≤ m.now)

/-- COMMIT_START (R174, R175): all pending requests, when no commit runs, commits are not inhibited and the spacing has
passed. A switch commit that had to wait goes first and is exempt from the spacing (R219). -/
def Mod.commitStart (m : Mod) : Mod :=
  if m.lgr.commit.isSome || m.commitsStopped then m
  else if m.chg.switchDue then m.switchCommit
  else if !m.commitSpaced || m.lgr.requests.isEmpty then m
  else m.startCommit m.lgr.requests m.requestedState false

def execCommitStart (s : State) : Outcome := run s Mod.commitStart

/-- COMMIT_POINT (R175): the running commit's map record is complete. -/
def Mod.commitPointNow (m : Mod) : Mod :=
  match m.lgr.commit with
  | none => m
  | some c => m.commitPoint c

def execCommitPoint (s : State) : Outcome := run s Mod.commitPointNow

/-- COMMIT_LATE (R177): the running commit exceeds its bound by more than 50 µs; it runs on. -/
def Mod.commitLate (m : Mod) : Mod := if m.lgr.commit.isSome then m.raise 0x60 1 else m

def execCommitLate (s : State) : Outcome := run s Mod.commitLate

/-- COMMIT_WITHOUT_RELEASES (R179): FRC or RT changed outside a release. -/
def Mod.commitLoose (m : Mod) : Mod :=
  if m.lgr.commit.isSome || m.commitsStopped || !m.commitSpaced || !m.lgr.looseDue then m
  else if m.lgr.requests.isEmpty then m.startCommit [] [] false
  else m.startCommit m.lgr.requests m.requestedState false

def execCommitWithoutReleases (s : State) : Outcome := run s Mod.commitLoose

/-! ### The mirror (R190 to R192) -/

/-- The standby writes a mirrored commit into its MRAM with its own copy choices; a mirrored record with a new PROGRAM_ID
makes the standby's loaded halves active (R225). It acknowledges when its map record is complete. -/
def Mod.mirrorReceive (m : Mod) (c : MirrorCommit) : Mod :=
  if m.unit != stSTANDBY then m
  else
    let m := m.put Reg.LGR_STATUS_MIRROR miRECEIVING
    let gs := c.granules
    let copies := gs.map (fun g => (g.1, m.nextCopy g.1))
    let a := gs.foldl (fun b g => b.wrBytes (copyAddr (m.nextCopy g.1) g.1) (sliceB g.2 0 256)) m
    let old := if c.full then [] else (m.lgr.current.map (·.copies)).getD []
    let rec_ : MapRec := ⟨b2n c.triad, false, c.layoutIds, c.programIds, c.timeSec, c.timeNs, c.releases,
      copies.foldl (fun l x => alSet l x.1 x.2) old, c.commit⟩
    let slot := a.nextSlot (a.get Reg.LGR_SLOT_SLOT)
    let a := (a.setLgr (fun l => { l with maps := alSet l.maps slot rec_, commits := c.commit, current := some rec_ })).put
      Reg.LGR_SLOT_SLOT slot
    let a := match a.chg.standby with
      | some _ =>
        if (List.range 3).any (fun p => c.programIds.getD p 0 != a.programId p) then
          let b := (List.range 3).foldl (fun x p =>
            if c.programIds.getD p 0 != x.programId p then x.put Reg.LANE_STATUS_ACTIVE_HALF (1 - x.half p) p else x) a
          { b with chg := { b.chg with previous := b.chg.current, current := b.chg.pendingSet, pendingSet := none, standby := none } }
        else a
      | none => a
    a

/-- MIRROR_RECEIVE (R190): the granules and map of the active unit's commit. -/
def execMirrorReceive (c : MirrorCommit) (s : State) : Outcome := run s (fun m => m.mirrorReceive c)

/-- MIRROR_ACK (R190, R191): the standby has completed its map record of commit `n`; `fullApplied`: of a full copy. -/
def Mod.mirrorAck (m : Mod) (n : Nat) (fullApplied : Bool) : Mod :=
  let st := m.get Reg.LGR_STATUS_MIRROR
  if st = miNOPEER ∨ st = miRECEIVING then m
  else
    let m := m.setLgr (fun l => { l with acked := max l.acked n, fullApplied := l.fullApplied || fullApplied })
    let lag := m.lgr.commits - m.lgr.acked
    let m := m.put Reg.LGR_MIRROR_LAG_LAG (min 0xFF lag)
    if st = miFULL ∧ m.lgr.fullApplied then
      -- the recorded granules go with the latest map as one commit; lag 2 or less is IN_SYNC
      let m := match m.lgr.current with
        | some r =>
          if m.lgr.recorded.isEmpty then m
          else (m.emit (.mirror (m.mirrorOf ⟨[], [], [], m.now, r.sec, r.ns, false⟩ r m.lgr.recorded false))).setLgr
            (fun l => { l with recorded := [] })
        | none => m
      if lag ≤ 2 then (m.put Reg.LGR_STATUS_MIRROR miSYNC).put Reg.TWN_STATUS_SYNC_LOST 0 else m
    else m

def execMirrorAck (commit : Nat) (fullApplied : Bool) (s : State) : Outcome := run s (fun m => m.mirrorAck commit fullApplied)

/-! ### MRAM devices (R193) -/

/-- MRAM_ECC_CORRECTED (R193). -/
def execMramEccCorrected (dev : Fin 4) (addr : Addr) (s : State) : Outcome :=
  run s (fun m => m.raise (0x62 + dev.val) 8 addr.toNat)

/-- MRAM_ECC_UNCORRECTABLE (R186, R193): the granule copy that holds the address cannot be read any more. -/
def Mod.mramUncorrectable (m : Mod) (dev a : Nat) : Mod :=
  let o := a - mramBase
  let m := m.raise (0x62 + dev) 9 a
  if mramBase + 0x100000 ≤ a ∧ a < mramBase + 0x1100000 ∧ (o - 0x100000) % 0x200000 < 0x196800 then
    m.setLgr (fun l => { l with bad := (l.bad ++ [o / 256 * 256]).dedup })
  else m

def execMramEccUncorrectable (dev : Fin 4) (addr : Addr) (s : State) : Outcome :=
  run s (fun m => m.mramUncorrectable dev.val addr.toNat)

/-- MRAM_DEVICE_FAIL (R193): the Ledger has FAILED. -/
def execMramDeviceFail (dev : Fin 4) (s : State) : Outcome :=
  run s (fun m => (m.put Reg.LGR_STATUS_STATE 4).raise (0x62 + dev.val) 10)

/-! ### Register effects -/

/-- LGR_CTL.COLD_START (R194): every map record invalid, so that the next start is cold. -/
def Mod.ledgerColdStart (m : Mod) : Mod :=
  (m.setLgr (fun l => { l with maps := [] })).event 0x0480 svNOTICE []

end Sys2Proof.Machine
end

