-- ==== Sys2Proof/Machine/Security.lean ====
section
/-!
DEFINITION. The secure element (R552 to R559): the commands of SEC_CMD, owner commands, the tamper trip, and the ends of
sessions and of the arming.
-/

namespace Sys2Proof.Machine

def Mod.setSec (m : Mod) (f : SecState → SecState) : Mod := { m with sec := f m.sec }

/-- Address of the mailbox (R553, R565). -/
def Mod.mbox (m : Mod) : Nat := mcDram + m.get Reg.SEC_MBOX_OFFSET * 1024
def Mod.mboxRd (m : Mod) (o n : Nat) : Nat := m.rdLE (m.mbox + o) n
def Mod.mboxBytes (m : Mod) (o n : Nat) : List Byte := m.rdBytes (m.mbox + o) n

/-- SEC_CMD.OP codes (R565). -/
def scNONCE : Nat := 1
def scOWNER : Nat := 2
def scCSR : Nat := 3
def scCERT : Nat := 4

/-- Results of SEC_STATUS.RESULT (R565). -/
def srDONE : Nat := 0
def srSIGNATURE : Nat := 1
def srSERIAL : Nat := 2
def srNONCE : Nat := 3
def srSTATE : Nat := 4
def srFORMAT : Nat := 5

/-- The command that SEC runs ends with `result`. -/
def Mod.secEnd (m : Mod) (result : Nat) : Mod :=
  ((m.put Reg.SEC_STATUS_RESULT result).put Reg.SEC_STATUS_BUSY 0).put Reg.SEC_CMD_GO 0

/-- The management core passes command `op` to SEC, or SEC runs it since a write of GO; while it runs another one, none. -/
def Mod.secMay (m : Mod) (op : Nat) : Bool :=
  m.unit != stBOOT && (!m.flag Reg.SEC_STATUS_BUSY || m.get Reg.SEC_CMD_OP == op)

/-- SEC performs command `op`. -/
def Mod.secRun (m : Mod) (op : Nat) (f : Mod → Mod) : Mod := if m.secMay op then f (m.put Reg.SEC_CMD_OP op) else m

/-- An answer of SEC in the mailbox: at most 1 KiB. -/
def Mod.mboxAnswer (m : Mod) (l : List Byte) : Mod := (m.wrBytes m.mbox (l.take 1024)).secEnd srDONE

/-! ### Answers -/

/-- The signature of a message under the device key, 96 bytes; without a device key, zeros. -/
def Mod.deviceSig (m : Mod) (msg : List Byte) : List Byte :=
  match m.sec.deviceKey with
  | some k => sliceB (Config.deviceSign k msg) 0 96
  | none => List.replicate 96 0

/-- GET_NONCE (R552, R553): a fresh nonce, valid for 600 s, and its signature. -/
def Mod.getNonce (m : Mod) : Mod :=
  let n := sliceB (Config.nonce m.sec.noncesMade) 0 16
  let m := m.setSec (fun s => { s with nonces := s.nonces ++ [(n, m.now + 600000000000)], noncesMade := s.noncesMade + 1 })
  m.mboxAnswer (n ++ m.deviceSig n)

def execGetNonce (s : State) : Outcome := run s (fun m => m.secRun scNONCE Mod.getNonce)

/-- GET_CSR (R559). -/
def Mod.getCsr (m : Mod) : Mod :=
  match m.sec.deviceKey with
  | some k => m.mboxAnswer (Config.deviceCsr k)
  | none => m.secEnd srSTATE

def execGetCsr (s : State) : Outcome := run s (fun m => m.secRun scCSR Mod.getCsr)

/-- GET_CERT (R565). -/
def Mod.getCert (m : Mod) : Mod := m.mboxAnswer m.sec.deviceCert

def execGetCert (s : State) : Outcome := run s (fun m => m.secRun scCERT Mod.getCert)

/-! ### Owner commands (R553) -/

/-- Bytes of PARAM that an operation uses. -/
def paramLen (op : Nat) : Nat := if op = 3 then 1 else if op = 4 then 2 else if op = 5 then 12 else 0

/-- Operations that carry DATA. -/
def opHasData (op : Nat) : Bool := op == 1 || op == 2 || op == 7

/-- Values of PARAM. -/
def Mod.paramOk (m : Mod) (op : Nat) : Bool :=
  match op with
  | 3 => m.mboxRd 0x20 1 ≤ 1
  | 4 => m.mboxRd 0x20 1 < 8 && m.mboxRd 0x21 1 < 2
  | 5 => m.mboxRd 0x28 4 ≤ 86400
  | _ => true

def Mod.mboxDataLen (m : Mod) : Nat := m.mboxRd 0x40 2
def Mod.mboxData (m : Mod) : List Byte := m.mboxBytes 0x50 m.mboxDataLen
/-- Owner certificate of ENROL and TRANSFER, before the BINDING. -/
def Mod.mboxCert (m : Mod) : List Byte := m.mboxBytes 0x50 (m.mboxDataLen - 96)

/-- The layout of R553; a certificate in DATA is well formed. -/
def Mod.ownerFormat (m : Mod) : Bool :=
  let op := m.mboxRd 6 2
  let len := m.mboxDataLen
  m.mboxRd 0 4 == 0x444D434F && m.mboxRd 4 2 == 1 && 1 ≤ op && op ≤ 7 && len ≤ 800 &&
    (m.mboxBytes 0x42 14).all (· == 0) && (m.mboxBytes (0x20 + paramLen op) (32 - paramLen op)).all (· == 0) && m.paramOk op &&
    (if opHasData op then
      (if op = 7 then (Config.certKey m.mboxData).isSome else 96 < len && (Config.certKey m.mboxCert).isSome)
     else len == 0)

/-- Key that signs the command: that of the certificate in DATA for ENROL, else the owner's. -/
def Mod.signerKey (m : Mod) : Option (List Byte) := if m.mboxRd 6 2 = 1 then Config.certKey m.mboxCert else m.ownerKey

/-- Bytes before SIG, and SIG. -/
def Mod.ownerSigned (m : Mod) : Bool :=
  let n := 0x50 + m.mboxDataLen
  match m.signerKey with
  | some k => Config.ecdsaVerify k (m.mboxBytes 0 n) (m.mboxBytes n 96)
  | none => false

def Mod.serialNumber (m : Mod) : Nat := m.get Reg.SYS_SERIAL_HI_SERIAL_HI * 2 ^ 32 + m.get Reg.SYS_SERIAL_LO_SERIAL_LO

/-- The nonce of the command is outstanding and has not expired. -/
def Mod.nonceOk (m : Mod) : Bool := m.sec.nonces.any (fun x => x.1 == m.mboxBytes 0x10 16 && m.now < x.2)

/-- State that an operation needs. -/
def Mod.ownerState (m : Mod) : Bool :=
  match m.mboxRd 6 2 with
  | 1 => m.sec.ownerCert.isNone
  | 7 => m.sec.deviceKey.isSome
  | _ => m.sec.ownerCert.isSome

/-- The result of the checks of an owner command. -/
def Mod.ownerCheck (m : Mod) : Nat :=
  if !m.ownerFormat then srFORMAT
  else if !m.ownerSigned then srSIGNATURE
  else if m.mboxRd 8 8 != m.serialNumber then srSERIAL
  else if !m.nonceOk then srNONCE
  else if !m.ownerState then srSTATE
  else srDONE

/-- A refused owner command: signature, serial, nonce and state checks raise OWNER_COMMAND_REFUSED. -/
def Mod.ownerRefused (m : Mod) (result : Nat) : Mod :=
  let op := m.mboxRd 6 2
  (if result = srFORMAT then m else m.raise 0x150 2 0 [op]).secEnd result

/-- An executed owner command: its nonce is used up, and OWNER_COMMAND is written. -/
def Mod.ownerDone (m : Mod) (f : Mod → Mod) : Mod :=
  let n := m.mboxBytes 0x10 16
  let words := [m.mboxRd 6 2, m.mboxRd 0x20 4]
  let m := (f m).setSec (fun s => { s with nonces := s.nonces.filter (fun x => x.1 != n) })
  (m.event 0x0F80 svNOTICE words).secEnd srDONE

/-- The owner command with OP `op` lies in the mailbox, and SEC runs it. -/
def Mod.ownerCommand (m : Mod) (op : Nat) (f : Mod → Mod) : Mod :=
  m.secRun scOWNER (fun a =>
    if a.mboxRd 6 2 ≠ op then m
    else if a.ownerCheck = srDONE then a.ownerDone f else a.ownerRefused a.ownerCheck)

/-- Owner certificate and BINDING from DATA. -/
def Mod.setOwner (m : Mod) : Mod :=
  let cert := m.mboxCert
  let bind := m.mboxBytes (0x50 + (m.mboxDataLen - 96)) 96
  (m.setSec (fun s => { s with ownerCert := some cert, binding := bind })).put Reg.SEC_STATUS_OWNER 1

/-- After an erasure ENROL makes SEC generate a new device key pair (R559). -/
def Mod.makeDeviceKey (m : Mod) : Mod :=
  if m.sec.deviceKey.isSome then m
  else (m.setSec (fun s => { s with deviceKey := some (s.keysMade + 1), keysMade := s.keysMade + 1 })).put Reg.SEC_STATUS_DEVICE_KEY 1

/-- ENROL (R553, R555, R559): the key is read again. -/
def Mod.enrol (m : Mod) : Mod := m.setOwner.makeDeviceKey

def execEnrol (s : State) : Outcome :=
  run s (fun m =>
    let a := m.ownerCommand 1 Mod.enrol
    if m.sec.ownerCert.isNone && a.sec.ownerCert.isSome then a.startTransaction else a)

/-- TRANSFER. -/
def execTransfer (s : State) : Outcome := run s (fun m => m.ownerCommand 2 Mod.setOwner)

/-- UPDATE_LOCK. -/
def Mod.updateLock (m : Mod) : Mod := m.put Reg.SEC_OWNER_LOCK_UPD_LOCK (m.mboxRd 0x20 1)

def execUpdateLock (s : State) : Outcome := run s (fun m => m.ownerCommand 3 Mod.updateLock)

/-- DEBUG_UNLOCK (R557 step 1): armed for 600 s, and DEBUG_ARMED is recorded. -/
def Mod.debugUnlock (m : Mod) : Mod :=
  let scope := m.mboxRd 0x20 1 + 8 * m.mboxRd 0x21 1
  let m := (m.setSec (fun s => { s with armedUntil := some (m.now + 600000000000) })).put Reg.SEC_STATUS_DEBUG_ARMED 1
  ((m.put Reg.DBG_STATUS_ARMED 1).put Reg.DBG_STATUS_SCOPE scope).event 0x1080 svNOTICE [scope]

def execDebugUnlock (s : State) : Outcome := run s (fun m => m.ownerCommand 4 Mod.debugUnlock)

/-- SESSION (R556): each port carries at most one. -/
def Mod.openSession (m : Mod) (svc : Nat) : Mod :=
  let r : SessionRec := ⟨svc, m.mboxRd 0x20 4, m.mboxRd 0x24 4, m.now + m.mboxRd 0x28 4 * 1000000000⟩
  m.setSec (fun s => { s with sessions := s.sessions.filter (fun x => x.svc != svc) ++ [r] })

/-- A service port of the variant (R1, R609). -/
def Mod.svcPresent (m : Mod) (svc : Nat) : Bool := svc == 0 || (svc == 1 && !m.is3110)

def execSession (svc : Svc) (s : State) : Outcome :=
  run s (fun m => if m.svcPresent svc.val then m.ownerCommand 5 (fun a => a.openSession svc.val) else m)

/-- UNLATCH (R544). -/
def Mod.unlatch (m : Mod) : Mod :=
  ((m.setLgr (fun l => { l with safeLatch := false })).put Reg.SYS_STATE_SAFE_LATCH 0).loose moduleGranules

def execUnlatch (s : State) : Outcome := run s (fun m => m.ownerCommand 6 Mod.unlatch)

/-- INSTALL_CERT (R559). -/
def Mod.installCert (m : Mod) : Mod :=
  let cert := m.mboxData
  (m.setSec (fun s => { s with deviceCert := cert })).put Reg.SEC_STATUS_ERASED 0

def execInstallCert (s : State) : Outcome := run s (fun m => m.ownerCommand 7 Mod.installCert)

/-! ### Tamper, arming and sessions (R556 to R559) -/

/-- Step 3 of R557: the device private key, the owner certificate and binding, the sessions and the Ledger secret region. -/
def Mod.erase (m : Mod) (armed : Bool) : Mod :=
  let m := m.setSec (fun s => { s with deviceKey := none, ownerCert := none, binding := [], sessions := [] })
  let m := ((m.put Reg.SEC_STATUS_ERASED 1).put Reg.SEC_STATUS_DEVICE_KEY 0).put Reg.SEC_STATUS_OWNER 0
  (m.clear (mramBase + 0x3F00000) 0x100000).event 0x0F81 svINFO [b2n armed]

/-- A tamper trip: secrets are erased; then, if the unit was armed, the connector is live, else TAMPER is raised. -/
def Mod.trip (m : Mod) (armed : Bool) : Mod :=
  let m := ((m.put Reg.SEC_STATUS_TAMPER 1).put Reg.DBG_STATUS_COVER_OPEN 1).erase armed
  if armed then m.put Reg.DBG_STATUS_PORT_LIVE 1 else m.raise 0x150 1

def execTamperTrip (s : State) : Outcome := run s (fun m => m.trip (m.flag Reg.SEC_STATUS_DEBUG_ARMED))

/-- DEBUG_ARM_EXPIRY. A connector that is live keeps its scope. -/
def Mod.armExpiry (m : Mod) : Mod :=
  let m := ((m.setSec (fun s => { s with armedUntil := none })).put Reg.SEC_STATUS_DEBUG_ARMED 0).put Reg.DBG_STATUS_ARMED 0
  if m.flag Reg.DBG_STATUS_PORT_LIVE then m else m.put Reg.DBG_STATUS_SCOPE 0

def execDebugArmExpiry (s : State) : Outcome := run s Mod.armExpiry

/-- SESSION_END. -/
def execSessionEnd (svc : Svc) (s : State) : Outcome :=
  run s (fun m => m.setSec (fun x => { x with sessions := x.sessions.filter (fun r => r.svc != svc.val) }))

/-- A write of SEC_CMD: a GO starts OP. What cannot be a command ends at once with the format result. -/
def Mod.secCmdWrite (m : Mod) (go : Bool) (op : Nat) : Mod :=
  if m.flag Reg.SEC_STATUS_BUSY then m
  else
    let m := m.put Reg.SEC_CMD_OP op
    if !go then m
    else if op = 0 ∨ 4 < op then m.secEnd srFORMAT
    else if op = 2 ∧ (m.mboxRd 6 2 = 0 ∨ 7 < m.mboxRd 6 2) then m.secEnd srFORMAT
    else (m.put Reg.SEC_STATUS_BUSY 1).put Reg.SEC_CMD_GO 1

end Sys2Proof.Machine
end

