-- ==== Sys2Proof/Machine/Power.lean ====
section
/-!
DEFINITION. Power, hold-up and temperature (R599 to R614), the resets that follow from them (R67, R543), SYS_CMD.RESET (R562),
the lamp test and IDENTIFY (R611), and the walking test of the backplane (R617).
-/

namespace Sys2Proof.Machine

/-- TIME of the valid record with the highest SEQ (R513). -/
def Daybook.time (db : Daybook) : Nat :=
  match db.slots.foldl (fun b x => match b with
    | none => some x.2
    | some (r : Record) => if r.seq < x.2.seq then some x.2 else some r) none with
  | some r => r.ev.sec * 10 ^ 18 + r.ev.ns * 10 ^ 9
  | none => 0

/-- A meaning that restarts the SoC with the time of the Daybook. -/
def runTime (s : State) (f : Nat → Mod → Mod) : Outcome := run s (fun m => f s.daybook.time m)

/-! ### The supply enters its range (R543, R602) -/

/-- A Porter without power keeps its non-volatile settings and banks (R294, R321). -/
def Mod.porterCold (m : Mod) (s : Nat) : Mod :=
  let m := m.setPrt s (fun t => { PrtState.reset with
    current := t.current, staged := t.staged, nvMode := t.nvMode, nvUnit := t.nvUnit, nvCascade := t.nvCascade
    nvExclude := t.nvExclude, nvGuard := t.nvGuard, nvWindowMs := t.nvWindowMs, nvLimit := t.nvLimit })
  let t := m.prtSt s
  let m := (((m.put Reg.PRT_CTL_MODE t.nvMode s).put Reg.PRT_CTL_UNIT t.nvUnit s).put Reg.PRT_CTL_CASCADE t.nvCascade s).put
    Reg.PRT_CTL_EXCLUDE_EN t.nvExclude s
  let m := ((m.put Reg.PRT_GUARD_GUARD t.nvGuard s).put Reg.PRT_LATE_CFG_WINDOW_MS t.nvWindowMs s).put Reg.PRT_LATE_CFG_LIMIT t.nvLimit s
  m.put Reg.PRT_STATUS_DIR_STAGED (b2n t.staged.isSome) s

/-- Register fields of the Porters and of the DIO island. -/
def islandField (k : Nat) : Bool := k / 32 / 0x10000 == 7 || k / 32 / 0x10000 == 12

/-- Every circuit of the module is without power: the Porters and the DIO island lose what is not non-volatile. -/
def Mod.islandsCold (m : Mod) : Mod :=
  let m : Mod := { m with regs := m.regs.filter (fun e => !islandField e.1) }
  ((m.porterCold 0).porterCold 1).dioDirs.setDio (fun _ => .reset)

/-- The secure element has been without power: its nonces, a command, the arming and the live connector are gone. -/
def Mod.secCold (m : Mod) : Mod :=
  let m := m.setSec (fun s => { s with nonces := [], armedUntil := none })
  let m := (((m.put Reg.SEC_STATUS_DEBUG_ARMED 0).put Reg.SEC_STATUS_BUSY 0).put Reg.SEC_STATUS_RESULT 0).put Reg.DBG_STATUS_ARMED 0
  ((m.put Reg.DBG_STATUS_SCOPE 0).put Reg.DBG_STATUS_PORT_LIVE 0).put Reg.DBG_STATUS_ENABLED 0

/-- SUPPLY_ON: the SoC starts from its power-on state, the Porters load, and the island starts; the bank charges from empty, and
its capacitance is measured. A trip that the tamper circuit latched is acted on. -/
def Mod.supplyOn (t : Nat) (mv cap : Nat) (tamper : Bool) (m : Mod) : Mod :=
  let m := ((m.restart (some t) Reg.SYS_RESET_CAUSE_POWER_ON).islandsCold).secCold
  let m : Mod := { m with env := ⟨false, false, false, false, false, false⟩ }
  let m := (m.put Reg.SYS_HOLDUP_STATE 0).put Reg.SYS_HOLDUP_BANK_DV 0
  let m := ((m.put Reg.SYS_HOLDUP_CAP_10UF cap).put Reg.SYS_HOLDUP_DEGRADED (b2n (cap < 132))).put Reg.SYS_SUPPLY_MV_MV mv
  let m := ((m.put Reg.SYS_TEMP_JUNCTION_C 0).put Reg.SYS_TEMP_BOARD_C 0).dioStart
  let m := (m.setPrtState 0 psLOADING).setPrtState 1 psLOADING
  let m := m.bankMeasured
  if tamper then m.trip false else m

def execSupplyOn (mv : BitVec 18) (cap10uF : Nat) (tamperLatched : Bool) (s : State) : Outcome :=
  runTime s (fun t m => m.supplyOn t mv.toNat cap10uF tamperLatched)

/-! ### Hold-up (R599, R600, R603) -/

def hoCHARGING : Nat := 0
def hoCHARGED : Nat := 1
def hoDISCHARGING : Nat := 2
def hoLOW : Nat := 3

def Mod.holdup (m : Mod) : Nat := m.get Reg.SYS_HOLDUP_STATE
def Mod.setHoldup (m : Mod) (st dv : Nat) : Mod := (m.put Reg.SYS_HOLDUP_STATE st).put Reg.SYS_HOLDUP_BANK_DV dv

/-- SUPPLY_INTERRUPTION. -/
def Mod.supplyInterruption (m : Mod) (dv : Nat) : Mod :=
  if m.holdup = hoCHARGED ∨ m.holdup = hoCHARGING then
    let m := ((m.setHoldup hoDISCHARGING dv).count Reg.SYS_HOLDUP_INTERRUPTIONS 1).setUpd (fun u => { u with sagAt := some m.now })
    m.powerFault 0x170 1
  else m

def execSupplyInterruption (dv : BitVec 12) (s : State) : Outcome := run s (fun m => m.supplyInterruption dv.toNat)

/-- SUPPLY_RETURN. -/
def execSupplyReturn (dv : BitVec 12) (s : State) : Outcome :=
  run s (fun m => if m.holdup = hoDISCHARGING then m.setHoldup hoCHARGING dv.toNat else m)

/-- HOLDUP_CHARGED. -/
def execHoldupCharged (dv : BitVec 12) (s : State) : Outcome :=
  run s (fun m => if m.holdup = hoCHARGING then m.setHoldup hoCHARGED dv.toNat else m)

/-- New commits are inhibited; releases that wait for one are not committed (R184). -/
def Mod.inhibitCommits (m : Mod) : Mod :=
  let m := (m.setLgr (fun l => { l with inhibited := true })).raise 0x60 6
  let m := if m.get Reg.LGR_STATUS_STATE = 0 then m.put Reg.LGR_STATUS_STATE 3 else m
  let waiting := m.lgr.requests
  let m := m.setLgr (fun l => { l with requests := [] })
  waiting.foldl (fun a x => a.requestCommit x.1 x.2) m

/-- The hold-up reaches LOW: HOLDUP_LOW, commits inhibited, and the reset sequence starts. -/
def Mod.reachLow (m : Mod) : Mod :=
  let m : Mod := { m.put Reg.SYS_HOLDUP_STATE hoLOW with env := { m.env with low := true } }
  (m.powerFault 0x171 3).inhibitCommits

/-- HOLDUP_LOW. -/
def execHoldupLow (dv : BitVec 12) (s : State) : Outcome :=
  run s (fun m => if m.holdup = hoDISCHARGING then (m.setHoldup hoDISCHARGING dv.toNat).reachLow else m)

/-- MATE_OPEN. -/
def execMateOpen (s : State) : Outcome :=
  run s (fun m =>
    let a : Mod := { m with env := { m.env with mateOpen := true } }
    if m.holdup = hoLOW then a else a.reachLow)

/-- Nothing that the reset sequence waits for (R600): no pending Daybook record and no commit that is being written. -/
def Mod.lowDone (m : Mod) : Bool := m.env.low && m.fc.reports.isEmpty && m.dbk.fifo.isEmpty && m.lgr.commit.isNone

/-- SUPPLY_RESET (R600): a power cycle of R67; the Porters and the DIO island run on. -/
def Mod.supplyReset (t : Nat) (m : Mod) : Mod :=
  if m.lowDone then (m.restart (some t) Reg.SYS_RESET_CAUSE_SUPPLY_LOW).put Reg.SYS_HOLDUP_STATE hoCHARGING else m

def execSupplyReset (s : State) : Outcome := runTime s Mod.supplyReset

/-- HARDWARE_RESET_LEVEL (R603): after the supply reset the hardware holds every circuit in reset. -/
def Mod.hardwareReset (m : Mod) : Mod :=
  if m.unit = stBOOT ∧ m.flag Reg.SYS_RESET_CAUSE_SUPPLY_LOW then
    let m : Mod := { m.islandsCold with env := { m.env with hwHold := true } }
    m.secCold
  else m

def execHardwareResetLevel (s : State) : Outcome := run s Mod.hardwareReset

/-- SUPPLY_OVERVOLTAGE. -/
def execSupplyOvervoltage (mv : BitVec 18) (s : State) : Outcome :=
  run s (fun m => if 165000 < mv.toNat then m.powerFault 0x170 2 else m)

/-! ### Temperature (R614) -/

/-- A measurement in SYS_TEMP; an indication whose threshold minus 5 °C is no longer reached may be raised again. -/
def Mod.temps (m : Mod) (junction board : Nat) : Mod :=
  let j := sext 8 junction
  let m := (m.put Reg.SYS_TEMP_JUNCTION_C junction).put Reg.SYS_TEMP_BOARD_C board
  let m := if sext 8 (m.get Reg.SYS_TEMP_PEAK_C) < j then m.put Reg.SYS_TEMP_PEAK_C junction else m
  { m with env := { m.env with overRaised := m.env.overRaised && 105 ≤ j, critRaised := m.env.critRaised && 115 ≤ j } }

/-- OVERTEMP: the junction rises through 110 °C. -/
def Mod.overtemp (m : Mod) (junction board : Nat) : Mod :=
  let m := m.temps junction board
  if 110 ≤ sext 8 junction ∧ m.env.overRaised = false then
    ({ m with env := { m.env with overRaised := true } } : Mod).powerFault 0x172 5
  else m

def execOvertemp (junction board : BitVec 8) (s : State) : Outcome := run s (fun m => m.overtemp junction.toNat board.toNat)

/-- TEMP_CRITICAL: the junction rises through 120 °C. -/
def Mod.tempCritical (m : Mod) (junction board : Nat) : Mod :=
  let m := m.temps junction board
  if 120 ≤ sext 8 junction ∧ m.env.critRaised = false then
    ({ m with env := { m.env with critRaised := true } } : Mod).powerFault 0x172 6
  else m

def execTempCritical (junction board : BitVec 8) (s : State) : Outcome := run s (fun m => m.tempCritical junction.toNat board.toNat)

/-- THERMAL_RESET: a power cycle of R67, with the SoC held in reset. -/
def Mod.thermalReset (t : Nat) (m : Mod) : Mod :=
  if m.env.thermalHold then m
  else
    let m := m.restart (some t) Reg.SYS_RESET_CAUSE_THERMAL
    { m with env := { m.env with thermalHold := true } }

def execThermalReset (s : State) : Outcome := runTime s Mod.thermalReset

/-- THERMAL_RESET_RELEASE: the module starts in BOOT; its monotonic counter starts with it. -/
def Mod.thermalRelease (t : Nat) (m : Mod) : Mod :=
  if m.env.thermalHold then
    let d := m.now
    let m : Mod := { m with
      now := 0, modTime := t, env := { m.env with thermalHold := false }
      sec := { m.sec with nonces := m.sec.nonces.map (fun x => (x.1, x.2 - d)), armedUntil := m.sec.armedUntil.map (· - d) } }
    (m.powerFault 0x172 7).bankMeasured
  else m

def execThermalResetRelease (s : State) : Outcome := runTime s Mod.thermalRelease

/-! ### LEDs and the walking test -/

/-- LAMP_TEST_END. -/
def execLampTestEnd (s : State) : Outcome := run s (fun m => m.put Reg.SYS_LED_LAMP_TEST 0)

/-- The walking test may run: in CONFIG or SAFE. -/
def Mod.walkAllowed (m : Mod) : Bool := m.unit == stCONFIG || m.unit == stSAFE

/-- TEST_LBB.GO on the window that WINDOW names; on a window without VALID, RD, WR and MEMORY_LIKE no test runs. -/
def Mod.walkStart (m : Mod) : Mod :=
  let w := m.get Reg.TEST_LBB_WINDOW
  if m.flag Reg.LBB_WINw_CFG_VALID w && m.flag Reg.LBB_WINw_CFG_RD w && m.flag Reg.LBB_WINw_CFG_WR w &&
      m.flag Reg.LBB_WINw_CFG_MEMORY_LIKE w then
    ((m.put Reg.TEST_LBB_RUNNING 1).put Reg.TEST_LBB_ERRORS 0).put Reg.TEST_LBB_PASS 0
  else m

/-- LBB_WALK_TEST_END: `errors` mismatches. -/
def Mod.walkEnd (m : Mod) (errors : Nat) : Mod :=
  if m.flag Reg.TEST_LBB_RUNNING then
    ((m.put Reg.TEST_LBB_RUNNING 0).put Reg.TEST_LBB_ERRORS (min 255 errors)).put Reg.TEST_LBB_PASS (b2n (errors == 0))
  else m

def execLbbWalkTestEnd (errors : Nat) (s : State) : Outcome := run s (fun m => m.walkEnd errors)

/-! ### SYS_CMD (R543, R562) -/

/-- A write of SYS_CMD with the key and RESET: a module reset; in DEBUG it is refused. -/
def Mod.sysCmd (m : Mod) (value : Nat) : Mod :=
  if bitsOf value 0 16 = 0xA5A5 ∧ bitOf value 16 then m.restart none Reg.SYS_RESET_CAUSE_CMD else m

end Sys2Proof.Machine
end

