-- ==== Sys2Proof/Machine/RegWrite.lean ====
section
/-!
DEFINITION. A write of a register word by a bus initiator: the initiator check (R13, R625), the refusals of single registers,
the judgement field by field (R635), configuration transactions (R545 to R547), and what the written fields do.
-/

namespace Sys2Proof.Machine

/-! ### The initiator check (R13, R625) -/

/-- Blocks that R625 counts among the safe-side blocks. -/
def safeSide (b : Nat) : Bool := (2 ≤ b && b ≤ 0xD) || b == 0xF
/-- Blocks of the management core. -/
def mcOwned (b : Nat) : Bool := b == 0xE || b == 0x10 || b == 0x11 || b == 0x13

/-- The management core writes a safe-side word outside BOOT and CONFIG: the fault intake, and FC_CTL without RELEASE. -/
def mcAlways (o v : Nat) : Bool :=
  o == Reg.FC_INTAKE_LO_MSG_LO.off || o == Reg.FC_INTAKE_HI_MSG_HI.off || (o == Reg.FC_CTL_ACK.off && !bitOf v 1)

/-- Whether `who` may write the value `v` to the register at offset `o`. -/
def Mod.mayWrite (m : Mod) (who : Initiator) (o v : Nat) : Bool :=
  let b := blockOf o
  match who with
  | .pair p => !m.split p.val && ((b == 0 && o != Reg.SYS_PROFILE_PROFILE.off) || b == 1 || safeSide b)
  | .mc =>
    (b == 0 && o != Reg.SYS_PROFILE_PROFILE.off) || (b == 1 && o < Reg.TIM_TRIGn_CTL_ENABLE.off) || mcOwned b ||
      (safeSide b && (m.unit == stBOOT || m.unit == stCONFIG || mcAlways o v))
  | .debug => m.flag Reg.DBG_STATUS_PORT_LIVE && b == 0x12
  | _ => false

/-- A write refused by the initiator check: a bus error, with the fault of the firewall (R43) or of the debug port (R626). -/
def Mod.writeRefused (m : Mod) (who : Initiator) (o : Nat) : Mod :=
  let m := match who with
    | .split p _ => m.raise (laneSource p.val 5) 10 (regBase + o)
    | .debug => m.raise 0x160 1 (regBase + o)
    | _ => m
  m.answer .busError

/-! ### Refusals of single registers -/

/-- CYC steers module time, so that software may not (R516). -/
def Mod.timeSteered (m : Mod) : Bool :=
  m.flag Reg.TIM_CTL_SOURCE && (!m.flag Reg.CYC_STATUS_TIME_LEADER || m.unit == stSTANDBY)

/-- Instance of a register with stride `s`. -/
def instOf (o base s : Nat) : Nat := (o - base) / s

/-- `o` is the word of one of the `n` instances of a register at `base` with stride `s`. -/
def isInst (o base s n : Nat) : Bool := base ≤ o && (o - base) % s == 0 && (o - base) / s < n

/-- Writes that a register's own rule answers with a bus error (R70, R194, R273, R388, R515, R516, R528, R562, R584, R617). -/
def Mod.vetoed (m : Mod) (o v : Nat) : Bool :=
  (o == Reg.CYC_SCHED_SELECT_CASE.off && m.flag Reg.CYC_SCHED_SELECT_PENDING) ||
  (isInst o Reg.LANE_CTL_FORCE_MISMATCH.off 0x1000 3 && bitOf v 2 &&
    !m.forceMismatchOk (instOf o Reg.LANE_CTL_FORCE_MISMATCH.off 0x1000)) ||
  (o == Reg.LGR_CTL_COLD_START.off && bitOf v 1 && m.unit != stCONFIG) ||
  (isInst o Reg.CAN_RX_ACK_ENTRY.off 0x1000 8 && m.triad) ||
  (o == Reg.TIM_CTL_STEP.off && bitOf v 0 && (m.timeSteered || 1000000000 ≤ m.get Reg.TIM_STEP_NS_NS)) ||
  ((o == Reg.TIM_STEP_SEC_HI_SEC_HI.off || o == Reg.TIM_STEP_SEC_LO_SEC_LO.off || o == Reg.TIM_STEP_NS_NS.off) &&
    m.flag Reg.TIM_CTL_STEP) ||
  (o == Reg.TIM_RATE_PPB_PPB.off && (m.timeSteered || decide (100000 < (sext 32 v).natAbs))) ||
  (o == Reg.SYS_CMD_RESET.off && bitsOf v 0 16 == 0xA5A5 && bitOf v 16 && m.unit == stDEBUG) ||
  (o == Reg.UPD_CTL_CONFIRM.off && bitOf v 1 && m.confirmRefused) ||
  (o == Reg.TEST_LBB_GO.off && bitOf v 2 && !m.walkAllowed)

/-! ### Configuration transactions (R545 to R547) -/

/-- The writer is inside its own open or pending transaction. -/
def Mod.insideTxn (m : Mod) (who : Initiator) : Bool :=
  match m.cfg.txn, who with
  | some x, .pair p => x.owner == .pair p.val || (x.owner == .triad && x.lists.any (fun l => l.1 == p.val))
  | some x, .mc => x.owner == .mc
  | _, _ => false

/-- The task whose body writes; 48 for the runtime outside a body. -/
def Mod.txnTask (m : Mod) (p : Nat) : Nat := ((m.caller p).map (·.desc.index)).getD 48

def Mod.txnOpen (m : Mod) (x : Txn) : Mod :=
  let m := (m.setCfg (fun c => { c with txn := some x })).put Reg.CFG_TXN_STATUS_STATE 1
  ((m.put Reg.CFG_TXN_STATUS_OWNER (ownerCode x.owner)).put Reg.CFG_TXN_STATUS_WRITES 0).put Reg.CFG_TXN_BEGIN_BEGIN 1

def Mod.txnBusy (m : Mod) : Mod := (m.raise 0x130 3).answer .busError

/-- CFG_TXN_BEGIN (R545). In TRIAD the pairs open one transaction together in their parts of one release. -/
def Mod.txnBegin (m : Mod) (who : Initiator) : Mod :=
  let idle := m.get Reg.CFG_TXN_STATUS_STATE == 0
  match who with
  | .pair p =>
    let t := m.txnTask p.val
    match m.cfg.txn with
    | some x =>
      if x.owner == .triad && x.task == t && !x.lists.any (fun l => l.1 == p.val) then
        m.setCfg (fun c => { c with txn := some { x with lists := x.lists ++ [(p.val, [], false, false)] } })
      else m.txnBusy
    | none =>
      if !idle then m.txnBusy
      else if m.triad then m.txnOpen ⟨.triad, [], [(p.val, [], false, false)], false, t, false⟩
      else m.txnOpen ⟨.pair p.val, [], [], false, t, false⟩
  | .mc => if idle then m.txnOpen ⟨.mc, [], [], false, 48, false⟩ else m.txnBusy
  | _ => m

/-- CFG_TXN_COMMIT with COMMIT 1 (R547): the management core's is carried out at once, a pair's at the commit point of the
release in which it began; one that began outside a release has no commit point and is carried out at once. -/
def Mod.txnCommitWrite (m : Mod) (who : Initiator) (persist : Bool) : Mod :=
  match m.cfg.txn, who with
  | some x, .mc => if x.owner == .mc then m.txnCommit .mc x.writes persist x.overflow else m
  | some x, .pair p =>
    if !m.insideTxn who || x.task != m.txnTask p.val then m
    else if x.owner == .triad then
      let ls := x.lists.map (fun l => if l.1 == p.val then (l.1, l.2.1, true, persist) else l)
      let m := m.setCfg (fun c => { c with txn := some { x with lists := ls } })
      if ls.all (fun l => l.2.2.1) then m.put Reg.CFG_TXN_STATUS_STATE 2 else m
    else if x.task = 48 then m.txnCommit x.owner x.writes persist x.overflow
    else (m.setCfg (fun c => { c with txn := some { x with persist := persist } })).put Reg.CFG_TXN_STATUS_STATE 2
  | _, _ => m

/-- CFG_TXN_ABORT with ABORT 1: the writer's shadow is discarded. -/
def Mod.txnAbort (m : Mod) (who : Initiator) : Mod :=
  if !m.insideTxn who then m
  else match m.cfg.txn, who with
    | some x, .pair p =>
      let ls := x.lists.filter (fun l => l.1 != p.val)
      if ls.isEmpty then m.txnClose 3 else m.setCfg (fun c => { c with txn := some { x with lists := ls } })
    | _, _ => m.txnClose 3

/-- A write of a word with shadowed fields inside the writer's transaction (R546): the shadow holds 1,024 register writes. -/
def Mod.shadowWrite (m : Mod) (x : Txn) (who : Initiator) (o v : Nat) : Mod × Bool :=
  let full := fun (n : Nat) => decide (1024 ≤ n)
  let past := (m.setCfg (fun c => { c with txn := some { x with overflow := true } }), false)
  match x.owner, who with
  | .triad, .pair p =>
    let n := ((x.lists.find? (fun l => l.1 == p.val)).map (fun l => l.2.1.length)).getD 0
    if full n then past
    else
      let ls := x.lists.map (fun l => if l.1 == p.val then (l.1, l.2.1 ++ [⟨o, v⟩], l.2.2) else l)
      ((m.setCfg (fun c => { c with txn := some { x with lists := ls } })).put Reg.CFG_TXN_STATUS_WRITES
        (max (n + 1) (m.get Reg.CFG_TXN_STATUS_WRITES)), true)
  | _, _ =>
    if full x.writes.length then past
    else ((m.setCfg (fun c => { c with txn := some { x with writes := x.writes ++ [⟨o, v⟩] } })).put Reg.CFG_TXN_STATUS_WRITES
      (x.writes.length + 1), true)

/-! ### The judgement field by field (R635) -/

/-- A field that may not be written here is written with another value. -/
def Mod.fieldRefused (m : Mod) (inside : Bool) (v i j : Nat) (f : Fld) : Bool :=
  bitsOf v f.lo f.width != m.get f i j && ((f.acc == .tx && !inside) || (f.acc == .rwl && m.cfg.locked))

/-- Whether the whole write is refused, and whether a TX field counts as written. -/
def Mod.wordRefused (m : Mod) (inside : Bool) (r : RegRow) (v i j : Nat) : Bool × Bool :=
  let bad := r.flds.filter (m.fieldRefused inside v i j)
  (!bad.isEmpty, bad.any (fun f => f.acc == .tx))

/-- The word has a field that goes into the shadow inside a transaction. -/
def Mod.wordShadowed (m : Mod) (r : RegRow) : Bool := r.flds.any (fun f => f.acc == .tx || (f.acc == .rwl && !m.cfg.locked))

/-! ### What the written fields do -/

/-- Words whose RW fields are not stored by a write: reads of them show something else. -/
def notStored (o : Nat) : Bool :=
  o == Reg.FC_INTAKE_LO_MSG_LO.off || o == Reg.FC_INTAKE_HI_MSG_HI.off || o == Reg.DBK_ARCH_SEQ_HI_ARCH_HI.off ||
    o == Reg.SEC_CMD_OP.off || o == Reg.DBG_CTL_PAIR_EN.off || o == Reg.CYC_SCHED_SELECT_CASE.off

/-- Fields of the word at `o` that take effect at once: RW and LIVE take the value, W1C bits written with 1 clear. -/
def Mod.putNow (m : Mod) (o v : Nat) : Mod :=
  let m := if notStored o then m else m.putWord o v (fun a => a == .rw || a == .live)
  match findReg o with
  | none => m
  | some (r, i, j) => r.flds.foldl (fun a f => if f.acc == .w1c && bitsOf v f.lo f.width != 0 then a.put f 0 i j else a) m

/-- SYS_TXN_PEAK.CLR (R24). -/
def Mod.txnPeakClear (m : Mod) : Mod :=
  ((m.put Reg.SYS_TXN_PEAK_PAIR0 0).put Reg.SYS_TXN_PEAK_PAIR1 0).put Reg.SYS_TXN_PEAK_PAIR2 0 |>.put Reg.SYS_TXN_PEAK_POOL_MIN 36

/-- SYS and TIM. `old` is the state before the write. -/
def Mod.effectSys (m old : Mod) (o v : Nat) : Mod :=
  if o = Reg.SYS_LED_LAMP_TEST.off then (if bitOf v 31 then m.put Reg.SYS_LED_LAMP_TEST 1 else m)
  else if o = Reg.SYS_TXN_PEAK_CLR.off then (if bitOf v 31 then m.txnPeakClear else m)
  else if o = Reg.SYS_CMD_RESET.off then m.sysCmd v
  else if o = Reg.TIM_CTL_STEP.off then (if bitOf v 0 then m.put Reg.TIM_CTL_STEP 1 else m)
  else if o = Reg.TIM_RATE_PPB_PPB.off then m.rateSet (old.get Reg.TIM_RATE_PPB_PPB)
  else if o = Reg.TIM_UTC_OFFSET_OFFSET.off then
    m.event 0x0082 svNOTICE [old.get Reg.TIM_UTC_OFFSET_OFFSET, m.get Reg.TIM_UTC_OFFSET_OFFSET]
  else if isInst o Reg.TIM_TRIGn_CTL_ENABLE.off 0x10 8 then m.trigArm (instOf o Reg.TIM_TRIGn_CTL_ENABLE.off 0x10)
  else m

/-- LANE, SCL, TASK and LGR. -/
def Mod.effectControl (m : Mod) (o v : Nat) : Mod :=
  if isInst o Reg.LANE_CTL_FORCE_MISMATCH.off 0x1000 3 then
    (if bitOf v 2 then m.mismatch (instOf o Reg.LANE_CTL_FORCE_MISMATCH.off 0x1000) 6 0 else m)
  else if isInst o Reg.LANE_MISMATCH_INFO_VALID.off 0x1000 3 then
    (if bitOf v 31 then m.put Reg.LANE_MISMATCH_INFO_GROUP 0 (instOf o Reg.LANE_MISMATCH_INFO_VALID.off 0x1000) else m)
  else if isInst o Reg.SCL_SKEW_PEAKn_CLR.off 4 3 then
    (if bitOf v 31 then m.skewPeakClear (instOf o Reg.SCL_SKEW_PEAKn_CLR.off 4) else m)
  else if o = Reg.LGR_CTL_COLD_START.off then (if bitOf v 1 then m.ledgerColdStart else m)
  else if o = Reg.LGR_MIRROR_LAG_CLR.off then (if bitOf v 31 then m.put Reg.LGR_MIRROR_LAG_PEAK 0 else m)
  else if o = Reg.LGR_COMMIT_TIME_CLR.off then (if bitOf v 31 then m.put Reg.LGR_COMMIT_TIME_PEAK_US 0 else m)
  else if o = Reg.LGR_MIGRATE_TIME_CLR.off then (if bitOf v 31 then m.migrateTimeClear else m)
  else match findReg o with
    | some (r, p, t) => if r.off = Reg.TASK_Tn_EXEC_PEAK_CLR.off ∧ bitOf v 31 then m.execPeakClear p t else m
    | none => m

/-- CYC, TWN, CAN and LBB. -/
def Mod.effectNet (m : Mod) (o v : Nat) : Mod :=
  if o = Reg.CYC_CTL_RETURN.off then (if bitOf v 5 then m.returnWrite else m)
  else if o = Reg.CYC_SCHED_SELECT_CASE.off then m.selectCase (bitsOf v 0 5)
  else if o = Reg.TWN_CTL_SWAP.off then (if bitOf v 1 then m.swapWrite else m)
  else if isInst o Reg.CAN_CTL_RECOVER.off 0x1000 8 then
    (if bitOf v 4 then m.canRecover (instOf o Reg.CAN_CTL_RECOVER.off 0x1000) else m)
  else if isInst o Reg.CAN_RX_ACK_ENTRY.off 0x1000 8 then m.canAck (instOf o Reg.CAN_RX_ACK_ENTRY.off 0x1000) (bitsOf v 0 7)
  else if isInst o Reg.LBB_PREFETCH_DISCARDw_CLR.off 0x10 16 then
    (if bitOf v 31 then m.put Reg.LBB_PREFETCH_DISCARDw_WORDS 0 (instOf o Reg.LBB_PREFETCH_DISCARDw_CLR.off 0x10) else m)
  else m

/-- FC and CFG. -/
def Mod.effectCfg (m : Mod) (who : Initiator) (o v : Nat) : Mod :=
  if o = Reg.FC_CTL_ACK.off then
    let m := if bitOf v 1 then m.setFc (fun f => { f with releaseReq := true }) else m
    if bitOf v 0 then m.fcAck else m
  else if o = Reg.FC_INTAKE_LO_MSG_LO.off then m.setFc (fun f => { f with stagedLo := v })
  else if o = Reg.FC_INTAKE_HI_MSG_HI.off then m.intakeWrite who v
  else if o = Reg.CFG_TXN_BEGIN_BEGIN.off then (if bitOf v 0 then m.txnBegin who else m)
  else if o = Reg.CFG_TXN_COMMIT_COMMIT.off then (if bitOf v 0 then m.txnCommitWrite who (bitOf v 1) else m)
  else if o = Reg.CFG_TXN_ABORT_ABORT.off then (if bitOf v 0 then m.txnAbort who else m)
  else m

/-- UPD_CTL (R591): CANCEL, CONFIRM, FALLBACK_NOW and ACTIVATE in that order. `svc`: the service port of the session. -/
def Mod.effectUpd (m : Mod) (svc v : Nat) : Mod :=
  let m := if bitOf v 3 then m.updCancel else m
  let m := if bitOf v 1 then m.confirmWrite else m
  let m := if bitOf v 2 then m.updFallback 2 else m
  if bitOf v 0 then m.activateWrite svc else m

/-- TEST_CTL (R616): STOP and GO on LINK, within a session that holds TEST. -/
def Mod.effectTest (m : Mod) (svc v : Nat) : Mod :=
  if !m.svcHas svc pmTEST then m
  else
    let m := if bitOf v 30 then m.testStop (m.get Reg.TEST_CTL_LINK) else m
    if bitOf v 31 then m.testStart (m.get Reg.TEST_CTL_LINK) (m.get Reg.TEST_CTL_LOOP) (if svc = 2 then none else some svc) else m

/-- UPD, SEC, DBG and TEST. -/
def Mod.effectMc (m : Mod) (svc o v : Nat) : Mod :=
  if o = Reg.UPD_CTL_ACTIVATE.off then m.effectUpd svc v
  else if o = Reg.SEC_CMD_GO.off then m.secCmdWrite (bitOf v 31) (bitsOf v 0 8)
  else if o = Reg.DBG_CTL_PAIR_EN.off then m.debugEnable v
  else if o = Reg.TEST_CTL_GO.off then m.effectTest svc v
  else if o = Reg.TEST_LBB_GO.off then (if bitOf v 2 then m.walkStart else m)
  else m

/-- The effect of a write that has been accepted. -/
def Mod.writeEffect (m old : Mod) (who : Initiator) (svc o v : Nat) : Mod :=
  let b := blockOf o
  if b ≤ 1 then m.effectSys old o v
  else if b ≤ 5 then m.effectControl o v
  else if b ≤ 0xB then m.effectNet o v
  else if b ≤ 0xF then m.effectCfg who o v
  else m.effectMc svc o v

/-! ### The write -/

/-- A write that passed the initiator check, to register `r` at `o`. -/
def Mod.writeJudged (m : Mod) (who : Initiator) (svc o v : Nat) (r : RegRow) (i j : Nat) : Mod :=
  let inside := m.insideTxn who
  match m.wordRefused inside r v i j with
  | (true, tx) => (if tx then m.raise 0x130 1 (regBase + o) else m).answer .busError
  | (false, _) =>
    let go := fun (x : Mod) => ((x.answer .ok).putNow o v).writeEffect m who svc o v
    if m.wordShadowed r then
      if inside then
        match m.cfg.txn with
        | some x => (match m.shadowWrite x who o v with
          | (a, true) => go a
          | (a, false) => a.answer .busError)
        | none => go m
      else go (m.putWord o v (fun a => a == .rwl && !m.cfg.locked))
    else go m

/-- A fault of the interconnect or of a memory: it sets its bit of SYS_FABRIC_ERR (R22, R25). -/
def Mod.fabricFault (m : Mod) (source kind addr : Nat) (bit : Fld) : Mod := (m.raise source kind addr).put bit 1

/-- An access to an unmapped address (R622). -/
def Mod.decodeError (m : Mod) (addr : Nat) : Mod :=
  (m.fabricFault 1 4 addr Reg.SYS_FABRIC_ERR_DECODE_ERROR).answer .busError

/-- A write of the word `v` by `who` to the register at offset `o` from 0x01_0000_0000. `svc`: the service port whose session
makes the management core write, 2 if none is named. -/
def Mod.busWrite (m : Mod) (who : Initiator) (o v : Nat) (svc : Nat := 2) : Mod :=
  if o % 4 ≠ 0 then m.answer .busError
  else if m.absentReg o then m.answer .ok
  else match findReg o with
    | none => m.decodeError (regBase + o)
    | some (r, i, j) =>
      if !m.mayWrite who o v then m.writeRefused who o
      else if m.porterDown o && !isPrtStatus o then m.answer .busError
      else if m.vetoed o v then m.answer .busError
      else m.writeJudged who svc o v r i j

/-- Such a write with what it does to the Daybook: DBK_ARCH_SEQ_HI applies both halves (R526). -/
def Mod.busWriteDb (m : Mod) (d : Daybook) (who : Initiator) (o v : Nat) : Mod × Daybook :=
  let a := m.busWrite who o v
  if o = Reg.DBK_ARCH_SEQ_HI_ARCH_HI.off ∧ a.resp = some .ok then a.archSeqApply d v else (a, d)

end Sys2Proof.Machine
end

