-- ==== Sys2Proof/Machine/Fabric.lean ====
section
/-!
DEFINITION. The interconnect (R14 to R25): regions (R621), access rights (R38, R42, R43, R624, R626), transactions of the
initiators, crossings, island resets, timeouts and ECC faults.
-/

namespace Sys2Proof.Machine

/-! ### Regions (R621) -/

inductive Region where
  | rom
  | tcm (q : Nat)
  | image
  | net
  | table
  | mram
  | secret
  | dram (q : Nat)
  | staging
  | mcDram
  | reserved
  | regs
  | canRam
  | f2
  deriving DecidableEq, Repr

/-- First address, size and region of the physical map. -/
def regionMap : List (Nat × Nat × Region) :=
  [(0, 0x10000, .rom), (0x10000000, 0x400000, .tcm 0), (0x10400000, 0x400000, .tcm 1), (0x10800000, 0x400000, .tcm 2),
   (0x20000000, 0x800000, .image), (0x30000000, 0x800000, .net), (0x38000000, 0x400000, .table),
   (0x40000000, 0x3F00000, .mram), (0x43F00000, 0x100000, .secret), (0x80000000, 0x10000000, .dram 0),
   (0x90000000, 0x10000000, .dram 1), (0xA0000000, 0x10000000, .dram 2), (0xB0000000, 0x20000000, .staging),
   (0xD0000000, 0x20000000, .mcDram), (0xF0000000, 0x10000000, .reserved), (0x100000000, 0x140000, .regs),
   (0x100140000, 0x20000, .canRam), (0x200000000, 0x1000000, .f2)]

/-- Region that holds the `n` bytes at `a`; none where a byte is unmapped or lies in another region. -/
def regionOf (a n : Nat) : Option Region :=
  (regionMap.find? (fun r => r.1 ≤ a && a + n ≤ r.1 + r.2.1)).map (·.2.2)

/-! ### Rights (R624) -/

/-- What the fabric does with an access. -/
inductive Verdict where
  | granted
  /-- A bus error alone: the region is reached, but not in this way. -/
  | refused
  /-- The initiator may not reach the region: a bus error and DECODE_ERROR (R622). -/
  | barred
  /-- FIREWALL_VIOLATION (R43). -/
  | firewall
  /-- DEBUG_ACCESS_REFUSED (R626). -/
  | debug
  deriving DecidableEq, Repr

def opFetches : BusOp → Bool
  | .fetch _ => true
  | _ => false
/-- A load: neither a write nor a fetch. -/
def opReads (op : BusOp) : Bool := !opWrites op && !opFetches op

def grantIf (b : Bool) : Verdict := if b then .granted else .refused

/-- The `n` bytes at `a` lie in the `len` bytes at `start`. -/
def within (a n start len : Nat) : Bool := start ≤ a && a + n ≤ start + len

/-- Offset range of core `c` in the DRAM area of its SPLIT pair, and the exchange area (R42). -/
def coreDram (c o n : Nat) : Bool := within o n (0x7000000 * c) 0x7000000
def inExchange (o : Nat) : Bool := 0xE000000 ≤ o

/-- A lockstep pair (R38, R80, R122, R181, R370, R624). -/
def Mod.pairVerdict (m : Mod) (p : Nat) (op : BusOp) (a : Nat) : Region → Verdict
  | .rom => grantIf (!opWrites op)
  | .tcm q => if q ≠ p then .barred else grantIf (!opWrites op || stateBase p ≤ a)
  | .image => grantIf (opReads op || (opWrites op && shadowBase p ≤ a && a + opWidth op ≤ shadowBase p + 0x19800))
  | .net => grantIf (opReads op)
  | .table => grantIf (opReads op)
  | .mram => grantIf (opReads op)
  | .canRam => grantIf (opReads op)
  | .dram q => if q = p then .granted
    else if m.split q && inExchange (a - pairDram q) && opReads op then .granted else .barred
  | .regs => grantIf (!opFetches op)
  | .f2 => .granted
  | .secret => .barred
  | .staging => .barred
  | .mcDram => .barred
  | .reserved => .barred

/-- A core of a SPLIT pair behind its firewall (R42, R43, R624). -/
def Mod.splitVerdict (m : Mod) (p c : Nat) (op : BusOp) (a : Nat) (g : Region) : Verdict :=
  let own := match g with
    | .rom => !opWrites op
    | .tcm q => q == p && (within a (opWidth op) (halfBase p c) 0x1C0000 ||
        within a (opWidth op) (stateBase p + 0x40000 * c) 0x40000)
    | .dram q => q == p && (coreDram c (a - pairDram p) (opWidth op) || (inExchange (a - pairDram p) && !opFetches op))
    | _ => false
  if own then .granted
  else if !opReads op || !m.firewallReads p c a (opWidth op) then .firewall
  else match g with
    | .secret => .barred
    | .staging => .barred
    | .mcDram => .barred
    | .reserved => .barred
    | _ => .granted

/-- The management core (R624). -/
def Mod.mcVerdict (m : Mod) (op : BusOp) (a : Nat) : Region → Verdict
  | .rom => grantIf (!opWrites op)
  | .image => grantIf (opReads op)
  | .net => grantIf (opReads op)
  | .canRam => grantIf (opReads op)
  | .table => grantIf (opReads op || (opWrites op && (m.unit == stBOOT || m.unit == stCONFIG)))
  | .mram => if opReads op && 0x42000000 ≤ a && a < 0x42800000 then .granted else if opWrites op then .refused else .barred
  | .staging => .granted
  | .mcDram => .granted
  | .regs => grantIf (!opFetches op)
  | .f2 => .granted
  | .tcm _ => .barred
  | .dram _ => .barred
  | .secret => .barred
  | .reserved => .barred

/-- The debug connector (R626). -/
def Mod.debugVerdict (m : Mod) (op : BusOp) (a : Nat) (g : Region) : Verdict :=
  let scope := m.get Reg.DBG_STATUS_SCOPE
  let ok := m.flag Reg.DBG_STATUS_PORT_LIVE && (if opReads op then
      (match g with | .secret => false | .regs => blockOf (a - regBase) != 0x11 | _ => true)
    else if opFetches op then false
    else match g with
      | .tcm q => bitOf scope q
      | .dram q => bitOf scope q
      | .mcDram => bitOf scope 3
      | .regs => blockOf (a - regBase) == 0x12
      | _ => false)
  if ok then .granted else .debug

/-- An engine: it reads the memories, and writes where R624 names it. -/
def engineVerdict (who : Initiator) (op : BusOp) (g : Region) : Verdict :=
  if opReads op then (match g with | .secret => .barred | _ => .granted)
  else if opFetches op then .refused
  else match who, g with
    | .cyc, .image => .granted
    | .cyc, .net => .granted
    | .lgr, .tcm _ => .granted
    | .lgr, .image => .granted
    | .lgr, .mram => .granted
    | .lbb, .mcDram => .granted
    | _, _ => .barred

def Mod.verdict (m : Mod) (who : Initiator) (op : BusOp) (a : Nat) (g : Region) : Verdict :=
  match who with
  | .pair p => if m.split p.val then .barred else m.pairVerdict p.val op a g
  | .split p c => if m.split p.val then m.splitVerdict p.val c.val op a g else .barred
  | .mc => m.mcVerdict op a g
  | .debug => m.debugVerdict op a g
  | _ => engineVerdict who op g

/-! ### Memory behind the fabric -/

/-- The pair whose caches hold the access: its own DRAM area (R34, R38). -/
def cachedBy (who : Initiator) (g : Region) : Option Nat :=
  match who, g with
  | .pair p, .dram q => if p.val = q then some q else none
  | .split p _, .dram q => if p.val = q then some q else none
  | _, _ => none

/-- The bytes of an access as its initiator sees them; what a pair reads of its DRAM area stays in its caches. -/
def Mod.loadBytes (m : Mod) (d : Daybook) (c : Option Nat) (a n : Nat) : Mod × List Byte :=
  match c with
  | none => (m, (List.range n).map (fun i => m.memByte d (a + i)))
  | some p =>
    let one := fun (x : Nat) => match alGet (m.lane p).cache x with
      | some e => e
      | none => ⟨m.rd8 x, false⟩
    let l := (List.range n).map (fun i => (a + i, one (a + i)))
    (m.setLane p (fun s => { s with cache := l.foldl (fun k x => alSet k x.1 x.2) s.cache }), l.map (fun x => x.2.value))

def Mod.storeBytes (m : Mod) (c : Option Nat) (a : Nat) (l : List Byte) : Mod :=
  match c with
  | none => m.wrBytes a l
  | some p => m.setLane p (fun s => { s with cache := (l.zipIdx).foldl (fun k b => alSet k (a + b.2) ⟨b.1, true⟩) s.cache })

/-- Tasks whose bitmap takes a write of pair `p` into its state region (R172): the task that runs, or outside a body those whose
INIT entries the runtime runs. -/
def Mod.writingTasks (m : Mod) (p : Nat) : List Nat :=
  match m.caller p with
  | some r => [r.desc.index]
  | none => ((((m.prog p).map (·.tasks)).getD []).filter (fun e => e.init != 0)).map (·.index)

/-- Dirty bits of a write into the state region. -/
def Mod.stateDirty (m : Mod) (p a n : Nat) : Mod :=
  let o := a - stateBase p
  (m.writingTasks p).foldl (fun x t => (x.markDirty p t (o / 256)).markDirty p t ((o + n - 1) / 256)) m

/-- Who holds a reservation: width of LR and core. -/
def resCode (who : Initiator) (n : Nat) : Nat :=
  match who with
  | .split _ c => n + 16 * c.val
  | _ => n
def resPair (who : Initiator) : Option Nat :=
  match who with
  | .pair p => some p.val
  | .split p _ => some p.val
  | _ => none

/-- A write ends the reservations of others that it meets. -/
def Mod.breakReservations (m : Mod) (who : Initiator) (a n : Nat) : Mod :=
  (List.range 3).foldl (fun x q => x.setLane q (fun s => { s with reservation := s.reservation.filter (fun r =>
    !(overlap a n r.1 (r.2 % 16)) || (resPair who == some q && r.2 / 16 == resCode who 0 / 16)) })) m

/-- A write that the fabric has granted; none while it stalls on a protected vote set (R82). -/
def Mod.fabricStore (m : Mod) (who : Initiator) (g : Region) (a n v : Nat) : Option Mod :=
  let stalls := match who, g with
    | .pair p, .image => m.shadowStalls p.val a n
    | _, _ => false
  if stalls then none
  else
    let m := (m.breakReservations who a n).storeBytes (cachedBy who g) a (leBytes n v)
    some (match who, g with
      | .pair p, .tcm _ => m.stateDirty p.val a n
      | _, _ => m)

/-- A write that stalls waits for the record to close. -/
def Mod.stallStore (m : Mod) (who : Initiator) (a n v : Nat) : Mod :=
  match who with
  | .pair p => m.setScl (fun s => { s with stalled := s.stalled ++ [(p.val, a, n, v)] })
  | _ => m

/-- LR and SC use the pair's reservation; the A extension knows words and doublewords. -/
def atomicForm (op : BusOp) (a : Nat) : Bool :=
  match op with
  | .read _ => true
  | .write _ _ => true
  | .fetch _ => true
  | _ => 4 ≤ opWidth op && a % opWidth op == 0

/-- A granted access to a memory. -/
def Mod.memAccess (m : Mod) (d : Daybook) (who : Initiator) (op : BusOp) (g : Region) (a : Nat) : Mod :=
  let n := opWidth op
  let c := cachedBy who g
  let load := fun (x : Mod) => x.loadBytes d c a n
  let store := fun (x : Mod) (v : Nat) (r : Resp) =>
    match x.fabricStore who g a n v with
    | some y => y.answer r
    | none => x.stallStore who a n v
  match op with
  | .read _ => match load m with | (x, l) => x.answer (.data (leNat l))
  | .fetch _ => match load m with | (x, l) => x.answer (.data (leNat l))
  | .write _ v => store m v.toNat .ok
  | .amo _ o v => match load m with | (x, l) => store x (amoResult o n (leNat l) v.toNat) (.data (leNat l))
  | .lr _ =>
    match load m with
    | (x, l) =>
      let x := match resPair who with
        | some p => x.setLane p (fun s => { s with reservation := some (a, resCode who n) })
        | none => x
      x.answer (.data (leNat l))
  | .sc _ v =>
    match resPair who with
    | none => m.answer (.data 1)
    | some p =>
      let held := (m.lane p).reservation == some (a, resCode who n)
      let m := m.setLane p (fun s => { s with reservation := none })
      if held then store m v.toNat (.data 0) else m.answer (.data 1)

/-- A granted access to the register region (R10, R623); a pair in TRIAD reads LBB_REQ through the matcher (R434). -/
def Mod.regAccess (m : Mod) (d : Daybook) (who : Initiator) (op : BusOp) (o : Nat) : Mod × Daybook :=
  if o % 4 ≠ 0 then (m.answer .busError, d)
  else match op with
    | .read .b4 =>
      if (findReg o).isNone && !m.absentReg o then (m.decodeError (regBase + o), d)
      else
        match who, m.triad && o == 0xB0408 with
        | .pair p, true =>
          match m.matched p.val (regBase + o) 4 (fun x => (x, some (x.readWord d o))) with
          | (x, some v) => (x.answer (.data v), d)
          | (x, none) => (x.answer .busError, d)
        | _, _ =>
          let m := m.latchRead d o
          (m.answer (.data (m.readWord d o)), d)
    | .write .b4 v => m.busWriteDb d who o (v.toNat % 2 ^ 32)
    | _ => (m.answer .busError, d)

/-- Fabric transactions of a pair show in SYS_TXN_PEAK (R24): accesses beyond its own TCM that its caches do not serve. -/
def Mod.trackPeak (m : Mod) (who : Initiator) (g : Region) (a n : Nat) : Mod :=
  match resPair who with
  | none => m
  | some p =>
    let local_ := match g with
      | .tcm _ => true
      | .dram q => q == p && (List.range n).all (fun i => (alGet (m.lane p).cache (a + i)).isSome)
      | _ => false
    if local_ then m
    else m.peak (match p with | 0 => Reg.SYS_TXN_PEAK_PAIR0 | 1 => Reg.SYS_TXN_PEAK_PAIR1 | _ => Reg.SYS_TXN_PEAK_PAIR2)
      (m.inFlight p + 1)

/-- An access to an unmapped address: DECODE_ERROR (R622), but where the firewall (R43) or the debug port's rule (R626) stops
it before (notes/assumptions/26.md). -/
def Mod.unmapped (m : Mod) (who : Initiator) (op : BusOp) (a : Nat) : Mod :=
  match who with
  | .debug => (m.raise 0x160 1 a).answer .busError
  | .split p c =>
    if m.split p.val && (!opReads op || !m.firewallReads p.val c.val a (opWidth op)) then
      (m.raise (laneSource p.val 5) 10 a).answer .busError
    else m.decodeError a
  | _ => m.decodeError a

/-- FABRIC_ACCESS: one transaction. The F2 window's transactions are F2_ACCESS; here only the initiator's right shows. -/
def Mod.fabric (m : Mod) (d : Daybook) (who : Initiator) (op : BusOp) (a : Nat) : Mod × Daybook :=
  match regionOf a (opWidth op) with
  | none => (m.unmapped who op a, d)
  | some g =>
    let m := m.trackPeak who g a (opWidth op)
    match m.verdict who op a g with
    | .refused => (m.answer .busError, d)
    | .barred => (m.decodeError a, d)
    | .firewall => ((match who with
      | .split p _ => m.raise (laneSource p.val 5) 10 a
      | _ => m).answer .busError, d)
    | .debug => ((m.raise 0x160 1 a).answer .busError, d)
    | .granted =>
      match g with
      | .regs => m.regAccess d who op (a - regBase)
      | .f2 => (if m.f2May who op (a - f2Base) then m else m.answer .busError, d)
      | _ => (if atomicForm op a then m.memAccess d who op g a else m.answer .busError, d)

def execFabricAccess (who : Initiator) (op : BusOp) (addr : Addr) (s : State) : Outcome :=
  runDb s (fun m d => m.fabric d who op addr.toNat)

/-- DEBUG_ACCESS (R626). -/
def execDebugAccess (op : BusOp) (addr : Addr) (s : State) : Outcome :=
  runDb s (fun m d => m.fabric d .debug op addr.toNat)

/-- REGISTER_WRITE: a word written at a physical address. -/
def execRegisterWrite (who : Initiator) (addr : Addr) (value : Word32) (s : State) : Outcome :=
  runDb s (fun m d => m.fabric d who (.write .b4 (value.setWidth 64)) addr.toNat)

/-! ### Timeouts and ECC (R21, R22, R25) -/

/-- TXN_TIMEOUT; F2 window accesses time out under R428. -/
def execTxnTimeout (who : Initiator) (addr : Addr) (s : State) : Outcome :=
  run s (fun m => if f2Base ≤ addr.toNat ∧ addr.toNat < f2Base + 0x1000000 then m
    else
      let _ := who
      (m.fabricFault 1 1 addr.toNat Reg.SYS_FABRIC_ERR_TXN_TIMEOUT).answer .busError)

def Mod.eccCorrected (m : Mod) (x : EccMem) (a : Nat) : Mod :=
  match x with
  | .sram => m.fabricFault 2 1 a Reg.SYS_FABRIC_ERR_SRAM_CE
  | .dram => m.fabricFault 3 1 a Reg.SYS_FABRIC_ERR_DRAM_CE
def Mod.eccUncorrectable (m : Mod) (x : EccMem) (a : Nat) : Mod :=
  match x with
  | .sram => m.fabricFault 2 2 a Reg.SYS_FABRIC_ERR_SRAM_UE
  | .dram => m.fabricFault 3 2 a Reg.SYS_FABRIC_ERR_DRAM_UE

def execEccCorrected (x : EccMem) (addr : Addr) (s : State) : Outcome := run s (fun m => m.eccCorrected x addr.toNat)
def execEccUncorrectable (x : EccMem) (addr : Addr) (s : State) : Outcome := run s (fun m => m.eccUncorrectable x addr.toNat)

/-! ### Crossings (R14 to R18) -/

def islandCode : Island → Nat
  | .lane p => p.val
  | .scl => 3
  | .lgr => 4
  | .cyc => 5
  | .prt s => 6 + s.val
  | .can => 8
  | .gw => 9
  | .lbb => 10
  | .dio => 11
  | .mc => 12
  | .sec => 13

def Mod.crossing (m : Mod) (a b : Nat) : Crossing :=
  (m.crossings.find? (fun x => x.src == a && x.dst == b)).getD ⟨a, b, [], [], 16⟩
def Mod.setCrossing (m : Mod) (x : Crossing) : Mod :=
  { m with crossings := m.crossings.filter (fun y => !(y.src == x.src && y.dst == x.dst)) ++ [x] }

/-- The sender issues what it holds while it has credits. -/
def Crossing.issue (x : Crossing) : Crossing :=
  let k := min x.credits x.held.length
  { x with fifo := x.fifo ++ x.held.take k, held := x.held.drop k, credits := x.credits - k }

/-- The receiver reads an entry and returns its credit; it discards one with a parity error. A credit beyond 16 is out of
range. -/
def Mod.crossRead (m : Mod) (x : Crossing) : Mod × Crossing :=
  let m := match x.fifo with
    | (_, false) :: _ => m.fabricFault 1 2 0 Reg.SYS_FABRIC_ERR_CROSSING_PARITY
    | _ => m
  let x := { x with fifo := x.fifo.drop 1 }
  if 16 ≤ x.credits then (m.fabricFault 1 3 0 Reg.SYS_FABRIC_ERR_CREDIT_ERROR, x) else (m, { x with credits := x.credits + 1 })

def Mod.crossReads (m : Mod) (x : Crossing) : Nat → Mod × Crossing
  | 0 => (m, x)
  | n + 1 =>
    match m.crossRead x with
    | (m', x') => m'.crossReads x' n

/-- CROSSING_ENTRY: an entry from `a` to `b`, after which the receiver reads `reads` entries. -/
def Mod.crossingEntry (m : Mod) (a b : Nat) (e : BitVec 64 × Bool) (reads : Nat) : Mod :=
  if a = b then m
  else
    let x := m.crossing a b
    match m.crossReads ({ x with held := x.held ++ [e] } : Crossing).issue reads with
    | (m', y) => m'.setCrossing y.issue

def execCrossingEntry (src dst : Island) (data : BitVec 64) (parityOk : Bool) (reads : Nat) (s : State) : Outcome :=
  run s (fun m => m.crossingEntry (islandCode src) (islandCode dst) (data, parityOk) reads)

/-- The crossings between CYC and Porter `s` are flushed; what was in transfer counts as a receive error of the Porter's
internal port. -/
def Mod.flushCrossing (m : Mod) (s : Nat) : Mod :=
  let mine := fun (x : Crossing) => (x.src == 5 && x.dst == 6 + s) || (x.src == 6 + s && x.dst == 5)
  let busy := m.crossings.any (fun x => mine x && !(x.fifo.isEmpty && x.held.isEmpty))
  let m := { m with crossings := m.crossings.filter (fun x => !mine x) }
  if busy then m.count Reg.PRT_Pp_ERRORS_RX_ERRORS 1 s 26 else m

/-- ISLAND_RESET (R18). -/
def Mod.islandReset (m : Mod) : Island → Mod
  | .cyc => (m.flushCrossing 0).flushCrossing 1
  | .prt s => (m.flushCrossing s.val).porterReset s.val
  | _ => m

def execIslandReset (i : Island) (s : State) : Outcome := run s (fun m => m.islandReset i)

end Sys2Proof.Machine
end

