-- ==== Sys2Proof/Machine/Registers.lean ====
section
/-!
DEFINITION. The commands that write one register: each is a write of its word by the named initiator, judged as every
register write is.
-/

namespace Sys2Proof.Machine

/-- A write of the word at offset `o`. -/
def regWrite (who : Initiator) (o : Nat) (value : Word32) (s : State) (svc : Nat := 2) : Outcome :=
  run s (fun m => m.busWrite who o value.toNat svc)

/-- MODULE_RESET: SYS_CMD (R543, R562). -/
def execModuleReset (who : Initiator) (value : Word32) (s : State) : Outcome := regWrite who 0x40C value s
/-- SYS_TXN_PEAK_CLR (R24). -/
def execSysTxnPeakClr (who : Initiator) (value : Word32) (s : State) : Outcome := regWrite who 0x404 value s
/-- FABRIC_ERR_CLEAR (R25). -/
def execFabricErrClear (who : Initiator) (value : Word32) (s : State) : Outcome := regWrite who 0x408 value s
/-- FORCE_MISMATCH: LANE_CTL (R70). -/
def execForceMismatch (who : Initiator) (p : Pair) (value : Word32) (s : State) : Outcome :=
  regWrite who (0x20004 + 0x1000 * p.val) value s
/-- MISMATCH_INFO_CLEAR (R75). -/
def execMismatchInfoClear (who : Initiator) (p : Pair) (value : Word32) (s : State) : Outcome :=
  regWrite who (0x20400 + 0x1000 * p.val) value s
/-- SKEW_PEAK_CLR (R107). -/
def execSkewPeakClr (who : Initiator) (p : Pair) (value : Word32) (s : State) : Outcome := regWrite who (0x30420 + 4 * p.val) value s
/-- COLD_START: LGR_CTL (R194). -/
def execColdStart (who : Initiator) (value : Word32) (s : State) : Outcome := regWrite who 0x50000 value s
/-- MIRROR_LAG_CLR (R198). -/
def execMirrorLagClr (who : Initiator) (value : Word32) (s : State) : Outcome := regWrite who 0x50014 value s
/-- COMMIT_TIME_CLR (R199). -/
def execCommitTimeClr (who : Initiator) (value : Word32) (s : State) : Outcome := regWrite who 0x50400 value s
/-- MIGRATE_TIME_CLR (R231). -/
def execMigrateTimeClr (who : Initiator) (value : Word32) (s : State) : Outcome := regWrite who 0x50408 value s
/-- EXEC_PEAK_CLR (R160). -/
def execExecPeakClr (who : Initiator) (p : Pair) (t : Task) (value : Word32) (s : State) : Outcome :=
  regWrite who (0x4010C + 0x1000 * p.val + 0x10 * t.val) value s
/-- RETURN: CYC_CTL (R261, R270). -/
def execReturn (who : Initiator) (value : Word32) (s : State) : Outcome := regWrite who 0x60000 value s
/-- SCHED_SELECT (R267, R273). -/
def execSchedSelect (who : Initiator) (value : Word32) (s : State) : Outcome := regWrite who 0x6000C value s
/-- SWAP: TWN_CTL (R355, R359). -/
def execSwap (who : Initiator) (value : Word32) (s : State) : Outcome := regWrite who 0x80000 value s
/-- RECOVER: CAN_CTL (R395, R397). -/
def execRecover (who : Initiator) (n : Ctrl) (value : Word32) (s : State) : Outcome := regWrite who (0x90000 + 0x1000 * n.val) value s
/-- CAN_RX_ACK_REGISTER (R388, R405). -/
def execCanRxAckRegister (who : Initiator) (n : Ctrl) (value : Word32) (s : State) : Outcome :=
  regWrite who (0x90404 + 0x1000 * n.val) value s
/-- PREFETCH_DISCARD_CLR (R446). -/
def execPrefetchDiscardClr (who : Initiator) (w : Fin 16) (value : Word32) (s : State) : Outcome :=
  regWrite who (0xB0104 + 0x10 * w.val) value s
/-- FC_INTAKE_WRITE: FC_INTAKE_HI (R488, R522). -/
def execFcIntakeWrite (who : Initiator) (value : Word32) (s : State) : Outcome := regWrite who 0xD0008 value s
/-- ACK: FC_CTL (R496, R521). -/
def execAck (who : Initiator) (value : Word32) (s : State) : Outcome := regWrite who 0xD0000 value s
/-- RELEASE: FC_CTL (R495, R521). -/
def execRelease (who : Initiator) (value : Word32) (s : State) : Outcome := regWrite who 0xD0000 value s
/-- ARCH_SEQ_WRITE: DBK_ARCH_SEQ_HI (R526). -/
def execArchSeqWrite (who : Initiator) (value : Word32) (s : State) : Outcome :=
  runDb s (fun m d => m.busWriteDb d who 0xE0404 value.toNat)
/-- STEP: TIM_CTL (R515, R528). -/
def execStep (who : Initiator) (value : Word32) (s : State) : Outcome := regWrite who 0x1000C value s
/-- RATE_SET: TIM_RATE_PPB (R516, R528). -/
def execRateSet (who : Initiator) (value : Word32) (s : State) : Outcome := regWrite who 0x10020 value s
/-- UTC_OFFSET_SET: TIM_UTC_OFFSET (R528). -/
def execUtcOffsetSet (who : Initiator) (value : Word32) (s : State) : Outcome := regWrite who 0x10024 value s
/-- TRIGGER_ARM: TIM_TRIGn_CTL (R517, R529). -/
def execTriggerArm (who : Initiator) (n : Fin 8) (value : Word32) (s : State) : Outcome := regWrite who (0x10100 + 0x10 * n.val) value s
/-- BEGIN (R545). -/
def execBegin (who : Initiator) (value : Word32) (s : State) : Outcome := regWrite who 0xF0000 value s
/-- COMMIT (R547, R548). -/
def execCommit (who : Initiator) (value : Word32) (s : State) : Outcome := regWrite who 0xF0004 value s
/-- ABORT (R563). -/
def execAbort (who : Initiator) (value : Word32) (s : State) : Outcome := regWrite who 0xF0008 value s
/-- UPD_CANCEL (R591). -/
def execUpdCancel (who : Initiator) (value : Word32) (s : State) : Outcome := regWrite who 0x100000 value s
/-- ACTIVATE (R576, R591). -/
def execActivate (who : Initiator) (svc : Svc) (value : Word32) (s : State) : Outcome := regWrite who 0x100000 value s svc.val
/-- CONFIRM (R584, R591). -/
def execConfirm (who : Initiator) (value : Word32) (s : State) : Outcome := regWrite who 0x100000 value s
/-- FALLBACK_NOW (R585, R591). -/
def execFallbackNow (who : Initiator) (value : Word32) (s : State) : Outcome := regWrite who 0x100000 value s
/-- TEST_START (R616, R620). -/
def execTestStart (who : Initiator) (svc : Svc) (value : Word32) (s : State) : Outcome := regWrite who 0x130000 value s svc.val
/-- TEST_STOP (R616, R620). -/
def execTestStop (who : Initiator) (svc : Svc) (value : Word32) (s : State) : Outcome := regWrite who 0x130000 value s svc.val
/-- LBB_WALK_TEST (R617, R620). -/
def execLbbWalkTest (who : Initiator) (value : Word32) (s : State) : Outcome := regWrite who 0x130500 value s
/-- LAMP_TEST (R611, R619). -/
def execLampTest (who : Initiator) (value : Word32) (s : State) : Outcome := regWrite who 0x40 value s
/-- IDENTIFY (R611, R619). -/
def execIdentify (who : Initiator) (value : Word32) (s : State) : Outcome := regWrite who 0x40 value s

end Sys2Proof.Machine
end

