-- ==== Sys2Proof/Machine/Dispatch.lean ====
section
/-! DEFINITION. The dispatch of a command to its meaning: one arm per row of spec/opcode_table.json. -/

namespace Sys2Proof.Machine

def exec (i : Instr) (s : State) : Host.Outcome State Fault Refusal :=
  match i with
  | .supplyOn mv cap10uF tamperLatched => Sys2Proof.Machine.execSupplyOn mv cap10uF tamperLatched s
  | .mcFirmwareRunning => Sys2Proof.Machine.execMcFirmwareRunning s
  | .pairReleaseFromReset p => Sys2Proof.Machine.execPairReleaseFromReset p s
  | .selftestComplete p pass => Sys2Proof.Machine.execSelftestComplete p pass s
  | .startTransactionCommit => Sys2Proof.Machine.execStartTransactionCommit s
  | .ledgerRestore => Sys2Proof.Machine.execLedgerRestore s
  | .startupFinalState => Sys2Proof.Machine.execStartupFinalState s
  | .moduleReset who value => Sys2Proof.Machine.execModuleReset who value s
  | .crossingEntry src dst data parityOk reads => Sys2Proof.Machine.execCrossingEntry src dst data parityOk reads s
  | .islandReset island => Sys2Proof.Machine.execIslandReset island s
  | .fabricAccess who op addr => Sys2Proof.Machine.execFabricAccess who op addr s
  | .txnTimeout who addr => Sys2Proof.Machine.execTxnTimeout who addr s
  | .eccCorrected m addr => Sys2Proof.Machine.execEccCorrected m addr s
  | .eccUncorrectable m addr => Sys2Proof.Machine.execEccUncorrectable m addr s
  | .sysTxnPeakClr who value => Sys2Proof.Machine.execSysTxnPeakClr who value s
  | .fabricErrClear who value => Sys2Proof.Machine.execFabricErrClear who value s
  | .mfcache p value => Sys2Proof.Machine.execMfcache p value s
  | .comparatorMismatch p group addr => Sys2Proof.Machine.execComparatorMismatch p group addr s
  | .delayParityError p => Sys2Proof.Machine.execDelayParityError p s
  | .comparatorInvalid p code => Sys2Proof.Machine.execComparatorInvalid p code s
  | .pairResetComplete p => Sys2Proof.Machine.execPairResetComplete p s
  | .restoreBegin p => Sys2Proof.Machine.execRestoreBegin p s
  | .restoreComplete p crcOk checkpointOk => Sys2Proof.Machine.execRestoreComplete p crcOk checkpointOk s
  | .injectionTest p latency => Sys2Proof.Machine.execInjectionTest p latency s
  | .stateEccUncorrectable p addr => Sys2Proof.Machine.execStateEccUncorrectable p addr s
  | .tcmEccCorrected p addr => Sys2Proof.Machine.execTcmEccCorrected p addr s
  | .l2EccCorrected p addr => Sys2Proof.Machine.execL2EccCorrected p addr s
  | .l2EccUncorrectable p addr => Sys2Proof.Machine.execL2EccUncorrectable p addr s
  | .splitCoreFault p core => Sys2Proof.Machine.execSplitCoreFault p core s
  | .forceMismatch who p value => Sys2Proof.Machine.execForceMismatch who p value s
  | .mismatchInfoClear who p value => Sys2Proof.Machine.execMismatchInfoClear who p value s
  | .debugEnable value => Sys2Proof.Machine.execDebugEnable value s
  | .cyclicLatch p t => Sys2Proof.Machine.execCyclicLatch p t s
  | .eventTrigger p t d => Sys2Proof.Machine.execEventTrigger p t d s
  | .bodyReturn p t execUs => Sys2Proof.Machine.execBodyReturn p t execUs s
  | .digestArrival p t enginesAgree => Sys2Proof.Machine.execDigestArrival p t enginesAgree s
  | .releaseCopyComplete t copyOk => Sys2Proof.Machine.execReleaseCopyComplete t copyOk s
  | .skewWindowEnd t => Sys2Proof.Machine.execSkewWindowEnd t s
  | .skewPeakClr who p value => Sys2Proof.Machine.execSkewPeakClr who p value s
  | .deadlineExpiry p t => Sys2Proof.Machine.execDeadlineExpiry p t s
  | .budgetExceeded p t => Sys2Proof.Machine.execBudgetExceeded p t s
  | .taskTrap p t addr => Sys2Proof.Machine.execTaskTrap p t addr s
  | .relInfo p => Sys2Proof.Machine.execRelInfo p s
  | .timeAtLatch p => Sys2Proof.Machine.execTimeAtLatch p s
  | .monoAtLatch p => Sys2Proof.Machine.execMonoAtLatch p s
  | .forceInfo p => Sys2Proof.Machine.execForceInfo p s
  | .trigger p a0 => Sys2Proof.Machine.execTrigger p a0 s
  | .taskEnable p a0 a1 => Sys2Proof.Machine.execTaskEnable p a0 a1 s
  | .appFault p a0 a1 a2 => Sys2Proof.Machine.execAppFault p a0 a1 a2 s
  | .canRxAck p a0 a1 => Sys2Proof.Machine.execCanRxAck p a0 a1 s
  | .mcRequest p a0 a1 a2 => Sys2Proof.Machine.execMcRequest p a0 a1 a2 s
  | .commitStart => Sys2Proof.Machine.execCommitStart s
  | .commitPoint => Sys2Proof.Machine.execCommitPoint s
  | .commitLate => Sys2Proof.Machine.execCommitLate s
  | .commitWithoutReleases => Sys2Proof.Machine.execCommitWithoutReleases s
  | .mirrorReceive c => Sys2Proof.Machine.execMirrorReceive c s
  | .mirrorAck commit fullApplied => Sys2Proof.Machine.execMirrorAck commit fullApplied s
  | .coldStart who value => Sys2Proof.Machine.execColdStart who value s
  | .mirrorLagClr who value => Sys2Proof.Machine.execMirrorLagClr who value s
  | .commitTimeClr who value => Sys2Proof.Machine.execCommitTimeClr who value s
  | .migrateTimeClr who value => Sys2Proof.Machine.execMigrateTimeClr who value s
  | .mramEccCorrected dev addr => Sys2Proof.Machine.execMramEccCorrected dev addr s
  | .mramEccUncorrectable dev addr => Sys2Proof.Machine.execMramEccUncorrectable dev addr s
  | .mramDeviceFail dev => Sys2Proof.Machine.execMramDeviceFail dev s
  | .loadAndArm => Sys2Proof.Machine.execLoadAndArm s
  | .cancel => Sys2Proof.Machine.execCancel s
  | .changeLoadingComplete => Sys2Proof.Machine.execChangeLoadingComplete s
  | .changeSetAck => Sys2Proof.Machine.execChangeSetAck s
  | .changeAckTimeout => Sys2Proof.Machine.execChangeAckTimeout s
  | .quiescenceReached => Sys2Proof.Machine.execQuiescenceReached s
  | .quiesceTimeout => Sys2Proof.Machine.execQuiesceTimeout s
  | .migrationEnd => Sys2Proof.Machine.execMigrationEnd s
  | .migrateLate => Sys2Proof.Machine.execMigrateLate s
  | .basicCycleStart mv => Sys2Proof.Machine.execBasicCycleStart mv s
  | .forceSet => Sys2Proof.Machine.execForceSet s
  | .forceClear => Sys2Proof.Machine.execForceClear s
  | .forceClearAll => Sys2Proof.Machine.execForceClearAll s
  | .execPeakClr who p t value => Sys2Proof.Machine.execExecPeakClr who p t value s
  | .groupPoll g => Sys2Proof.Machine.execGroupPoll g s
  | .outputSlot ch entry => Sys2Proof.Machine.execOutputSlot ch entry s
  | .localExchange answered => Sys2Proof.Machine.execLocalExchange answered s
  | .dataFrameReceived ch entry h records arrivalNs => Sys2Proof.Machine.execDataFrameReceived ch entry h records arrivalNs s
  | .dueTime ch entry => Sys2Proof.Machine.execDueTime ch entry s
  | .admitWaitExpiry => Sys2Proof.Machine.execAdmitWaitExpiry s
  | .channelLost ch => Sys2Proof.Machine.execChannelLost ch s
  | .channelRestored ch => Sys2Proof.Machine.execChannelRestored ch s
  | .return_ who value => Sys2Proof.Machine.execReturn who value s
  | .schedSelect who value => Sys2Proof.Machine.execSchedSelect who value s
  | .masterPollReceived ch port h b => Sys2Proof.Machine.execMasterPollReceived ch port h b s
  | .timeLeaderLost => Sys2Proof.Machine.execTimeLeaderLost s
  | .discoveryReply ch port h b => Sys2Proof.Machine.execDiscoveryReply ch port h b s
  | .inauguration ch rear b delayNs => Sys2Proof.Machine.execInauguration ch rear b delayNs s
  | .inaugurationTimeout => Sys2Proof.Machine.execInaugurationTimeout s
  | .backboneLinkChange ch rear up => Sys2Proof.Machine.execBackboneLinkChange ch rear up s
  | .porterFrame side port f => Sys2Proof.Machine.execPorterFrame side port f s
  | .windowCloseTruncate side port => Sys2Proof.Machine.execWindowCloseTruncate side port s
  | .porterLoadComplete side => Sys2Proof.Machine.execPorterLoadComplete side s
  | .anchorMissed side => Sys2Proof.Machine.execAnchorMissed side s
  | .freeRunTimeout side => Sys2Proof.Machine.execFreeRunTimeout side s
  | .coldHoldTimeout side => Sys2Proof.Machine.execColdHoldTimeout side s
  | .porterReset side => Sys2Proof.Machine.execPorterReset side s
  | .cascadeLinkUp side delayNs => Sys2Proof.Machine.execCascadeLinkUp side delayNs s
  | .directoryStaged side => Sys2Proof.Machine.execDirectoryStaged side s
  | .linkDown side port => Sys2Proof.Machine.execLinkDown side port s
  | .listenTimeout => Sys2Proof.Machine.execListenTimeout s
  | .coldstartRoleDecision echoA echoB => Sys2Proof.Machine.execColdstartRoleDecision echoA echoB s
  | .heartbeatReceived lane b => Sys2Proof.Machine.execHeartbeatReceived lane b s
  | .porterStatusReceived lane m => Sys2Proof.Machine.execPorterStatusReceived lane m s
  | .laneDown lane => Sys2Proof.Machine.execLaneDown lane s
  | .twinLinkLost => Sys2Proof.Machine.execTwinLinkLost s
  | .claimSlot => Sys2Proof.Machine.execClaimSlot s
  | .surrenderReceived ch b early => Sys2Proof.Machine.execSurrenderReceived ch b early s
  | .pollAbsence => Sys2Proof.Machine.execPollAbsence s
  | .claimAbandon => Sys2Proof.Machine.execClaimAbandon s
  | .claimGrant => Sys2Proof.Machine.execClaimGrant s
  | .takeoverRestoreComplete => Sys2Proof.Machine.execTakeoverRestoreComplete s
  | .swap who value => Sys2Proof.Machine.execSwap who value s
  | .swapQuiesced => Sys2Proof.Machine.execSwapQuiesced s
  | .swapTimeout => Sys2Proof.Machine.execSwapTimeout s
  | .canCycleStart n => Sys2Proof.Machine.execCanCycleStart n s
  | .canCellOccurrence n col => Sys2Proof.Machine.execCanCellOccurrence n col s
  | .canFrameSent n ts tdcv c => Sys2Proof.Machine.execCanFrameSent n ts tdcv c s
  | .arbitrationLost n => Sys2Proof.Machine.execArbitrationLost n s
  | .canBusError n c => Sys2Proof.Machine.execCanBusError n c s
  | .windowAbandoned n => Sys2Proof.Machine.execWindowAbandoned n s
  | .canFrameReceived n f c => Sys2Proof.Machine.execCanFrameReceived n f c s
  | .canIntegrated n => Sys2Proof.Machine.execCanIntegrated n s
  | .recover who n value => Sys2Proof.Machine.execRecover who n value s
  | .recoveryComplete n => Sys2Proof.Machine.execRecoveryComplete n s
  | .txdDominant n => Sys2Proof.Machine.execTxdDominant n s
  | .canRxAckRegister who n value => Sys2Proof.Machine.execCanRxAckRegister who n value s
  | .timestampCapture => Sys2Proof.Machine.execTimestampCapture s
  | .gatewayPhaseStart phase cards => Sys2Proof.Machine.execGatewayPhaseStart phase cards s
  | .gatewayPhaseEnd cards => Sys2Proof.Machine.execGatewayPhaseEnd cards s
  | .phaseLate => Sys2Proof.Machine.execPhaseLate s
  | .f2Access who op addr cards => Sys2Proof.Machine.execF2Access who op addr cards s
  | .f2Timeout => Sys2Proof.Machine.execF2Timeout s
  | .ackStuck => Sys2Proof.Machine.execAckStuck s
  | .busRequest => Sys2Proof.Machine.execBusRequest s
  | .busRequestRelease => Sys2Proof.Machine.execBusRequestRelease s
  | .busHold => Sys2Proof.Machine.execBusHold s
  | .inboundAccess write f2 data fabricOk => Sys2Proof.Machine.execInboundAccess write f2 data fabricOk s
  | .requestLinePoll levels => Sys2Proof.Machine.execRequestLinePoll levels s
  | .prefetch cards => Sys2Proof.Machine.execPrefetch cards s
  | .prefetchExpiry w => Sys2Proof.Machine.execPrefetchExpiry w s
  | .prefetchDiscardClr who w value => Sys2Proof.Machine.execPrefetchDiscardClr who w value s
  | .inputTransition c level => Sys2Proof.Machine.execInputTransition c level s
  | .overload c => Sys2Proof.Machine.execOverload c s
  | .thermalShutdown c => Sys2Proof.Machine.execThermalShutdown c s
  | .readbackMismatch c => Sys2Proof.Machine.execReadbackMismatch c s
  | .stuckOn c => Sys2Proof.Machine.execStuckOn c s
  | .dioWatchdogExpiry => Sys2Proof.Machine.execDioWatchdogExpiry s
  | .supplyLow g mv => Sys2Proof.Machine.execSupplyLow g mv s
  | .supplyLost g mv => Sys2Proof.Machine.execSupplyLost g mv s
  | .groupSupplyRise g mv => Sys2Proof.Machine.execGroupSupplyRise g mv s
  | .supplyRestored g => Sys2Proof.Machine.execSupplyRestored g s
  | .timedFiring c late => Sys2Proof.Machine.execTimedFiring c late s
  | .pulseEnd c => Sys2Proof.Machine.execPulseEnd c s
  | .islandRestart => Sys2Proof.Machine.execIslandRestart s
  | .faultIntake => Sys2Proof.Machine.execFaultIntake s
  | .fcIntakeWrite who value => Sys2Proof.Machine.execFcIntakeWrite who value s
  | .ack who value => Sys2Proof.Machine.execAck who value s
  | .release who value => Sys2Proof.Machine.execRelease who value s
  | .faultRecordTimeout => Sys2Proof.Machine.execFaultRecordTimeout s
  | .daybookWrite => Sys2Proof.Machine.execDaybookWrite s
  | .archivePass => Sys2Proof.Machine.execArchivePass s
  | .archSeqWrite who value => Sys2Proof.Machine.execArchSeqWrite who value s
  | .step who value => Sys2Proof.Machine.execStep who value s
  | .timeStep => Sys2Proof.Machine.execTimeStep s
  | .rateSet who value => Sys2Proof.Machine.execRateSet who value s
  | .utcOffsetSet who value => Sys2Proof.Machine.execUtcOffsetSet who value s
  | .triggerArm who n value => Sys2Proof.Machine.execTriggerArm who n value s
  | .triggerFire n => Sys2Proof.Machine.execTriggerFire n s
  | .begin_ who value => Sys2Proof.Machine.execBegin who value s
  | .commit who value => Sys2Proof.Machine.execCommit who value s
  | .abort who value => Sys2Proof.Machine.execAbort who value s
  | .registerWrite who addr value => Sys2Proof.Machine.execRegisterWrite who addr value s
  | .generationWritten => Sys2Proof.Machine.execGenerationWritten s
  | .keyRemoved => Sys2Proof.Machine.execKeyRemoved s
  | .keyReturned key => Sys2Proof.Machine.execKeyReturned key s
  | .generationDelivery svc image => Sys2Proof.Machine.execGenerationDelivery svc image s
  | .getNonce => Sys2Proof.Machine.execGetNonce s
  | .getCsr => Sys2Proof.Machine.execGetCsr s
  | .getCert => Sys2Proof.Machine.execGetCert s
  | .enrol => Sys2Proof.Machine.execEnrol s
  | .transfer => Sys2Proof.Machine.execTransfer s
  | .updateLock => Sys2Proof.Machine.execUpdateLock s
  | .debugUnlock => Sys2Proof.Machine.execDebugUnlock s
  | .session svc => Sys2Proof.Machine.execSession svc s
  | .unlatch => Sys2Proof.Machine.execUnlatch s
  | .installCert => Sys2Proof.Machine.execInstallCert s
  | .tamperTrip => Sys2Proof.Machine.execTamperTrip s
  | .debugArmExpiry => Sys2Proof.Machine.execDebugArmExpiry s
  | .sessionEnd svc => Sys2Proof.Machine.execSessionEnd svc s
  | .debugAccess op addr => Sys2Proof.Machine.execDebugAccess op addr s
  | .packageStage svc pkg => Sys2Proof.Machine.execPackageStage svc pkg s
  | .updStaged => Sys2Proof.Machine.execUpdStaged s
  | .updCancel who value => Sys2Proof.Machine.execUpdCancel who value s
  | .activate who svc value => Sys2Proof.Machine.execActivate who svc value s
  | .activationQuiesced => Sys2Proof.Machine.execActivationQuiesced s
  | .partStartCheck pass => Sys2Proof.Machine.execPartStartCheck pass s
  | .porterUpdateCheck forwarding => Sys2Proof.Machine.execPorterUpdateCheck forwarding s
  | .confirm who value => Sys2Proof.Machine.execConfirm who value s
  | .confirmWindowEnd => Sys2Proof.Machine.execConfirmWindowEnd s
  | .fallbackNow who value => Sys2Proof.Machine.execFallbackNow who value s
  | .dbkArchive on => Sys2Proof.Machine.execDbkArchive on s
  | .testStart who svc value => Sys2Proof.Machine.execTestStart who svc value s
  | .testStop who svc value => Sys2Proof.Machine.execTestStop who svc value s
  | .lbbWalkTest who value => Sys2Proof.Machine.execLbbWalkTest who value s
  | .lbbWalkTestEnd errors => Sys2Proof.Machine.execLbbWalkTestEnd errors s
  | .supplyInterruption dv => Sys2Proof.Machine.execSupplyInterruption dv s
  | .supplyReturn dv => Sys2Proof.Machine.execSupplyReturn dv s
  | .holdupCharged dv => Sys2Proof.Machine.execHoldupCharged dv s
  | .holdupLow dv => Sys2Proof.Machine.execHoldupLow dv s
  | .mateOpen => Sys2Proof.Machine.execMateOpen s
  | .supplyReset => Sys2Proof.Machine.execSupplyReset s
  | .supplyOvervoltage mv => Sys2Proof.Machine.execSupplyOvervoltage mv s
  | .overtemp junction board => Sys2Proof.Machine.execOvertemp junction board s
  | .tempCritical junction board => Sys2Proof.Machine.execTempCritical junction board s
  | .thermalReset => Sys2Proof.Machine.execThermalReset s
  | .lampTest who value => Sys2Proof.Machine.execLampTest who value s
  | .lampTestEnd => Sys2Proof.Machine.execLampTestEnd s
  | .identify who value => Sys2Proof.Machine.execIdentify who value s
  | .discoveryWindow => Sys2Proof.Machine.execDiscoveryWindow s
  | .changeSetReceived set => Sys2Proof.Machine.execChangeSetReceived set s
  | .porterResetEnd side => Sys2Proof.Machine.execPorterResetEnd side s
  | .thermalResetRelease => Sys2Proof.Machine.execThermalResetRelease s
  | .hardwareResetLevel => Sys2Proof.Machine.execHardwareResetLevel s
  | .fackReleased => Sys2Proof.Machine.execFackReleased s
  | .readbackMatch c => Sys2Proof.Machine.execReadbackMatch c s
  | .invalidCleared c => Sys2Proof.Machine.execInvalidCleared c s
  | .testFrameReceived lane isEcho bitErrors => Sys2Proof.Machine.execTestFrameReceived lane isEcho bitErrors s

end Sys2Proof.Machine
end

