-- ==== Sys2Proof/Machine/Step.lean ====
section
/-!
DEFINITION. One step of the block: the command at the front of the queue runs; on an empty queue one nanosecond passes.
-/

namespace Sys2Proof.Machine

/-- One nanosecond of the monotonic counter, with module time advanced at its rate (R512, R516). Every other event of
time is a command of its own, which arrives at its instant (notes/assumptions/1.md). -/
def tick (s : State) : State :=
  { s with mod := { s.mod.fresh with now := s.mod.now + 1, modTime := s.mod.modTime + s.mod.timeRate } }

/-- Take the command at the front of the queue and run it on the rest; on an empty queue, `tick`. -/
def step (s : State) : Host.Outcome State Fault Refusal :=
  match s.pending with
  | [] => .next (tick s)
  | c :: rest => exec c { s with pending := rest }

/-- The state with the command that a table word spells in front of its queue; no word spells one. -/
def State.withFetchWord (s : State) (nbits w : Nat) : State :=
  match decodeTableWord nbits w with
  | none => s
  | some c => { s with pending := c :: s.pending }

end Sys2Proof.Machine
end

