-- ==== Sys2Proof/Safety.lean ====
section
/-!
DEFINITION. The terms in which statements speak of runs: what a command comes to, what it leaves alone, and the good
states of the Daybook.
-/

namespace Sys2Proof

open Sys2Proof.Machine

/-- Command `c` runs to its end: a next state with the same queue and the same Daybook, and `P` holds of the module in it. -/
def Completes (c : Instr) (s : State) (P : Mod → Prop) : Prop :=
  ∃ t, exec c s = .next t ∧ t.pending = s.pending ∧ t.daybook = s.daybook ∧ P t.mod

/-- The same for a command that may change the Daybook. -/
def CompletesDb (c : Instr) (s : State) (P : Mod → Daybook → Prop) : Prop :=
  ∃ t, exec c s = .next t ∧ t.pending = s.pending ∧ P t.mod t.daybook

/-- Every register field but those at the places `ks` holds what it held. -/
def RegsBut (ks : List Nat) (m m' : Mod) : Prop := ∀ (f : Fld) (i j : Nat), f.key i j ∉ ks → m'.get f i j = m.get f i j

/-- Every register field outside the blocks `bs` of R623 holds what it held. -/
def BlocksBut (bs : List Nat) (m m' : Mod) : Prop :=
  ∀ (f : Fld) (i j : Nat), f.key i j / 0x200000 ∉ bs → m'.get f i j = m.get f i j

/-- Every byte of memory reads as before. -/
def MemKept (m m' : Mod) : Prop := ∀ a, m'.rd8 a = m.rd8 a

/-- The parts of the module beside its registers. -/
inductive ModPart where
  | mem | now | modTime | free | out | resp | fc | dbk | tim | cfg | sec | lanes | scl | task | lgr | chg | cyc | inaug | prt | twn
  | can | gw | lbb | dio | crossings | upd | env
  deriving DecidableEq, Repr

/-- The part is the same in both. -/
def ModPart.same (m m' : Mod) : ModPart → Prop
  | .mem => MemKept m m'
  | .now => m'.now = m.now
  | .modTime => m'.modTime = m.modTime
  | .free => m'.free = m.free
  | .out => m'.out = m.out
  | .resp => m'.resp = m.resp
  | .fc => m'.fc = m.fc
  | .dbk => m'.dbk = m.dbk
  | .tim => m'.tim = m.tim
  | .cfg => m'.cfg = m.cfg
  | .sec => m'.sec = m.sec
  | .lanes => m'.lanes = m.lanes
  | .scl => m'.scl = m.scl
  | .task => m'.task = m.task
  | .lgr => m'.lgr = m.lgr
  | .chg => m'.chg = m.chg
  | .cyc => m'.cyc = m.cyc
  | .inaug => m'.inaug = m.inaug
  | .prt => m'.prt = m.prt
  | .twn => m'.twn = m.twn
  | .can => m'.can = m.can
  | .gw => m'.gw = m.gw
  | .lbb => m'.lbb = m.lbb
  | .dio => m'.dio = m.dio
  | .crossings => m'.crossings = m.crossings
  | .upd => m'.upd = m.upd
  | .env => m'.env = m.env

/-- Nothing changes but the register fields at the places `ks` and the parts `ps`. -/
def Frame (ks : List Nat) (ps : List ModPart) (m m' : Mod) : Prop := RegsBut ks m m' ∧ ∀ p, p ∉ ps → p.same m m'

/-- Nothing changes but register fields of the blocks `bs` and the parts `ps`. -/
def FrameIn (bs : List Nat) (ps : List ModPart) (m m' : Mod) : Prop := BlocksBut bs m m' ∧ ∀ p, p ∉ ps → p.same m m'

/-- A record was raised: the reports that waited, then one of `source` and `kind` with ADDRESS `addr`, stamped now. -/
def Raised (m m' : Mod) (source kind addr : Nat) : Prop :=
  ∃ l, m'.fc.reports = m.fc.reports ++ [m.stamp source kind 0 false addr l]

/-- Among what waits for the collector is such a report, stamped now. -/
def Reported (m m' : Mod) (source kind addr : Nat) : Prop :=
  ∃ l, m.stamp source kind 0 false addr l ∈ m'.fc.reports

/-- A counter field counted up by one and saturated. -/
def CountedUp (f : Fld) (i j : Nat) (m m' : Mod) : Prop := m'.get f i j = min (2 ^ f.width - 1) (m.get f i j + 1)

/-- The write that a register command is: who writes, the word offset from 0x01_0000_0000, and the value. -/
def registerWrite : Instr → Option (Initiator × Nat × Word32)
  | .moduleReset who v => some (who, 0x40C, v)
  | .sysTxnPeakClr who v => some (who, 0x404, v)
  | .fabricErrClear who v => some (who, 0x408, v)
  | .forceMismatch who p v => some (who, 0x20004 + 0x1000 * p.val, v)
  | .mismatchInfoClear who p v => some (who, 0x20400 + 0x1000 * p.val, v)
  | .skewPeakClr who p v => some (who, 0x30420 + 4 * p.val, v)
  | .coldStart who v => some (who, 0x50000, v)
  | .mirrorLagClr who v => some (who, 0x50014, v)
  | .commitTimeClr who v => some (who, 0x50400, v)
  | .migrateTimeClr who v => some (who, 0x50408, v)
  | .execPeakClr who p t v => some (who, 0x4010C + 0x1000 * p.val + 0x10 * t.val, v)
  | .return_ who v => some (who, 0x60000, v)
  | .schedSelect who v => some (who, 0x6000C, v)
  | .swap who v => some (who, 0x80000, v)
  | .recover who n v => some (who, 0x90000 + 0x1000 * n.val, v)
  | .canRxAckRegister who n v => some (who, 0x90404 + 0x1000 * n.val, v)
  | .prefetchDiscardClr who w v => some (who, 0xB0104 + 0x10 * w.val, v)
  | .fcIntakeWrite who v => some (who, 0xD0008, v)
  | .ack who v => some (who, 0xD0000, v)
  | .release who v => some (who, 0xD0000, v)
  | .archSeqWrite who v => some (who, 0xE0404, v)
  | .step who v => some (who, 0x1000C, v)
  | .rateSet who v => some (who, 0x10020, v)
  | .utcOffsetSet who v => some (who, 0x10024, v)
  | .triggerArm who n v => some (who, 0x10100 + 0x10 * n.val, v)
  | .begin_ who v => some (who, 0xF0000, v)
  | .commit who v => some (who, 0xF0004, v)
  | .abort who v => some (who, 0xF0008, v)
  | .updCancel who v => some (who, 0x100000, v)
  | .activate who _ v => some (who, 0x100000, v)
  | .confirm who v => some (who, 0x100000, v)
  | .fallbackNow who v => some (who, 0x100000, v)
  | .testStart who _ v => some (who, 0x130000, v)
  | .testStop who _ v => some (who, 0x130000, v)
  | .lbbWalkTest who v => some (who, 0x130500, v)
  | .lampTest who v => some (who, 0x40, v)
  | .identify who v => some (who, 0x40, v)
  | _ => none

/-- The writer stands outside a transaction of its own, and the word gives every TX field its value in force (R635). -/
abbrev Settled (m : Mod) (who : Initiator) (o v : Nat) : Prop :=
  m.insideTxn who = false ∧ ∀ x ∈ findReg o, ∀ f ∈ x.1.flds, f.acc = .tx → bitsOf v f.lo f.width = m.get f x.2.1 x.2.2

/-- NATIVE profile, no task release table in force, and no release in the sequencer. -/
abbrev NoTasks (m : Mod) : Prop := m.triad = false ∧ m.task.table = none ∧ m.task.releases = []

/-- What the restart of pair `p` does at once (R54 steps 1 and 2, R38): the pair is in RESTORE and its restart counts; its caches
and its reservation are gone, its DRAM area reads 0 and every other byte keeps its value. -/
def Restarts (p : Pair) (m m' : Mod) : Prop :=
  m'.lstate p.val = lnRESTORE ∧
  m'.get Reg.LANE_RESTARTS_TOTAL p.val = min (2 ^ Reg.LANE_RESTARTS_TOTAL.width - 1) (m.get Reg.LANE_RESTARTS_TOTAL p.val + 1) ∧
  (m'.lane p.val).cache = [] ∧ (m'.lane p.val).reservation = none ∧
  (∀ a, pairDram p.val ≤ a → a < pairDram p.val + 0x10000000 → m'.rd8 a = 0) ∧
  (∀ a, a < pairDram p.val ∨ pairDram p.val + 0x10000000 ≤ a → m'.rd8 a = m.rd8 a) ∧ BlocksBut [2, 3, 15] m m'

/-- The request `x` of the caller on pair `p` is queued behind those of its release, and the service answers 0. -/
def Queued (p : Pair) (r : Release) (q : Part) (x : Request) (m m' : Mod) : Prop :=
  m'.resp = some (.service 0 0 0) ∧
  (∃ r' ∈ m'.task.releases, r'.desc = r.desc ∧ r'.number = r.number ∧ ∃ q' ∈ r'.parts, q'.pair = p.val ∧ q'.requests = q.requests ++ [x]) ∧
  Frame [] [.resp, .task] m m'

/-- The DIO island at rest (R467, R475): no safe state is due to begin, and every driver stands as its conditions say. -/
abbrev IslandSettled (m : Mod) : Prop :=
  ∀ k : Chan, m.dioOut k.val = true → (m.flag Reg.DIO_CHc_STATUS_SAFE k.val = true ∨ m.dioCause k.val = false) ∧
    m.flag Reg.DIO_CHc_STATUS_DRIVE k.val = m.dioDrive k.val

/-- The register fields that follow the driver of channel `c`. -/
def driverKeys (c : Chan) : List Nat :=
  [Reg.DIO_CHc_STATUS_DRIVE.key c.val 0, Reg.DIO_CHc_STATUS_LEVEL.key c.val 0, Reg.DIO_CHc_COUNT_EDGES.key c.val 0,
    Reg.DIO_STATUS_STATE.key 0 0]

/-- The Daybook intake has room for an event that no rate table limits (R504, R506). -/
abbrev Room (m : Mod) : Prop := m.dbk.table = none ∧ m.dbk.fifo.length < 240

/-- An event stands last in the Daybook's intake, stamped now. -/
def Noted (m m' : Mod) (code severity : Nat) (snaps : List Nat) : Prop :=
  ∃ e, m'.dbk.fifo = m.dbk.fifo ++ [e] ∧ e.code = code ∧ e.severity = severity ∧ e.snaps = snaps ∧ e.mono = m.now ∧ e.cycle = m.cycle

/-- The OP code of R553 of an owner command. -/
def ownerOp : Instr → Option Nat
  | .enrol => some 1
  | .transfer => some 2
  | .updateLock => some 3
  | .debugUnlock => some 4
  | .session _ => some 5
  | .unlatch => some 6
  | .installCert => some 7
  | _ => none

/-- The register fields in which SEC shows the end of a command. -/
def secKeys : List Nat :=
  [Reg.SEC_STATUS_RESULT.key 0 0, Reg.SEC_STATUS_BUSY.key 0 0, Reg.SEC_CMD_GO.key 0 0, Reg.SEC_CMD_OP.key 0 0]

/-- SEC is free to run a command of the management core. -/
abbrev SecFree (m : Mod) : Prop := m.unit ≠ stBOOT ∧ m.get Reg.SEC_STATUS_BUSY = 0

/-- What every reset of the SoC leaves (R67, R543): BOOT with the one bit `cause` of SYS_RESET_CAUSE, every pair in RESET, nothing
outside the MRAM that is not 0, no fault record and no transaction; the MRAM, the commit number, SAFE_LATCH and the key stay. -/
def Restarted (cause : Fld) (m m' : Mod) : Prop :=
  m'.unit = stBOOT ∧ m'.get cause = 1 ∧
  (∀ f ∈ [Reg.SYS_RESET_CAUSE_POWER_ON, Reg.SYS_RESET_CAUSE_SUPPLY_LOW, Reg.SYS_RESET_CAUSE_CMD, Reg.SYS_RESET_CAUSE_UPDATE,
    Reg.SYS_RESET_CAUSE_THERMAL], f ≠ cause → m'.get f = 0) ∧
  (∀ p : Pair, m'.lstate p.val = lnRESET) ∧
  (∀ a, m'.rd8 a = if mramBase ≤ a ∧ a < mramBase + 0x4000000 then m.rd8 a else 0) ∧
  m'.lgr.commits = m.lgr.commits ∧ m'.lgr.safeLatch = m.lgr.safeLatch ∧ m'.cfg.key = m.cfg.key ∧ m'.cfg.txn = none ∧
  m'.fc.record = none

/-- The Daybook is in good order (R499, R500, R507, R508): slots below 65,536 in ascending order, every SEQ from 1 to the last
one and no SEQ twice, the archived limit not above the last SEQ, and the archive within its 1 GiB. -/
structure DaybookOk (d : Daybook) : Prop where
  ascending : d.slots.Pairwise (fun a b => a.1 < b.1)
  inRange : ∀ x ∈ d.slots, x.1 < daybookSlots
  seqs : ∀ x ∈ d.slots, 1 ≤ x.2.seq ∧ x.2.seq ≤ d.lastSeq
  once : d.slots.Pairwise (fun a b => a.2.seq ≠ b.2.seq)
  limit : d.archSeq ≤ d.lastSeq
  bounded : d.archive.length ≤ archiveRecords

/-- A record that `d` holds and `d'` holds no more gave way as R508 says: it was archived, or a record of at least its
severity took its slot. -/
def GaveWay (d d' : Daybook) : Prop :=
  ∀ k r, (k, r) ∈ d.slots → (k, r) ∈ d'.slots ∨ r.seq ≤ d.archSeq ∨ ∃ q, (k, q) ∈ d'.slots ∧ r.ev.severity ≤ q.ev.severity

end Sys2Proof
end

