-- ==== Sys2Proof/Certificates/Slice0/Obligations.lean ====
section
/-!
DEFINITION. The statements for the provers, each a closed proposition about the model. Where a statement rests on a choice
of the model, its docstring names the entry of notes/assumptions.
-/

open Sys2Proof Sys2Proof.Machine

/-! ### The block as a whole -/

/-- Step runs the command at the front of the queue on the state without it. On an empty queue one nanosecond passes (the
model's choice, notes/assumptions/1.md): the monotonic counter and module time advance, and nothing else changes. -/
def Obligations.StepRunsFront : Prop :=
  (∀ (c : Instr) (rest : List Instr) (s : State), s.pending = c :: rest → step s = exec c { s with pending := rest }) ∧
  (∀ s : State, s.pending = [] → ∃ t, step s = .next t ∧ t.pending = [] ∧ t.daybook = s.daybook ∧ t.mod.now = s.mod.now + 1 ∧
    t.mod.modTime = s.mod.modTime + s.mod.timeRate ∧ Frame [] [.now, .modTime] s.mod.fresh t.mod)

/-- Every step answers a next state, and the queue loses the command that ran and nothing else. -/
def Obligations.EveryStepAnswers : Prop := ∀ s : State, ∃ t, step s = .next t ∧ t.pending = s.pending.tail

/-- The machine right after reset: no command waits, STATE is BOOT, and every register field of the map reads its reset value,
every byte of memory 0 (the model's choice, notes/assumptions/3.md). The Daybook is empty and in good order, and the memory
has its canonical form. -/
def Obligations.ResetState : Prop :=
  State.reset.pending = [] ∧ State.reset.mod.unit = stBOOT ∧
  (∀ (f : Fld) (i j : Nat), State.reset.mod.get f i j = f.reset) ∧ (∀ a, State.reset.mod.rd8 a = 0) ∧
  Memory.wf State.reset.mod.mem ∧ State.reset.daybook.slots = [] ∧ DaybookOk State.reset.daybook ∧
  (∀ p : Pair, State.reset.mod.lstate p.val = lnRESET) ∧ State.reset.mod.now = 0

/-! ### The Daybook -/

/-- Every step keeps the Daybook in good order: its slots, its sequence numbers, its archived limit and its archive. -/
def Obligations.DaybookStaysOk : Prop :=
  ∀ s t : State, step s = .next t → DaybookOk s.daybook → DaybookOk t.daybook

/-- R508 over every step: a record leaves the Daybook only when it has been archived, or a record of at least its severity
takes its slot; at most one record comes in, with the next sequence number. -/
def Obligations.RecordsGiveWayOnly : Prop :=
  ∀ s t : State, step s = .next t → DaybookOk s.daybook →
    GaveWay s.daybook t.daybook ∧ s.daybook.archSeq ≤ t.daybook.archSeq ∧
    (t.daybook.lastSeq = s.daybook.lastSeq ∧ t.daybook.slots = s.daybook.slots ∨
      t.daybook.lastSeq = s.daybook.lastSeq + 1 ∧ ∃ k r, t.daybook.slots = alSet s.daybook.slots k r ∧ r.seq = t.daybook.lastSeq)

/-- Only DBK writes the slots: every command but DAYBOOK_WRITE leaves them and the last SEQ alone, and the archive changes by
ARCHIVE_PASS only. -/
def Obligations.OnlyDbkWritesSlots : Prop :=
  ∀ (c : Instr) (s t : State), exec c s = .next t →
    (c ≠ .daybookWrite → t.daybook.slots = s.daybook.slots ∧ t.daybook.lastSeq = s.daybook.lastSeq) ∧
    (c ≠ .archivePass → t.daybook.archive = s.daybook.archive)

/-! ### Register writes and the interconnect -/

/-- R13, R625: a register command from an initiator without the right to write there receives a bus error; no register field
and no memory byte changes. Only the firewall's fault (R43) and the debug port's (R626) may follow. -/
def Obligations.WriteWithoutRight : Prop :=
  ∀ (c : Instr) (who : Initiator) (o : Nat) (v : Word32) (s : State), registerWrite c = some (who, o, v) →
    s.mod.absentReg o = false → s.mod.mayWrite who o v.toNat = false →
    Completes c s (fun m => m.resp = some .busError ∧ Frame [] [.resp, .fc] s.mod.fresh m ∧
      ((∀ p k, who ≠ .split p k) → who ≠ .debug → m.fc = s.mod.fc) ∧
      (∀ p k, who = .split p k → Raised s.mod m (laneSource p.val 5) 10 (regBase + o)) ∧
      (who = .debug → Raised s.mod m 0x160 1 (regBase + o)))

/-- R635: outside a transaction of its writer, a word that gives a TX field another value, or an RWL field once the start
transaction has committed, receives a bus error as a whole; no register field changes, and TXN_WRITE_OUTSIDE (source 0x130,
KIND 1) is raised exactly if a TX field counts as written. -/
def Obligations.FieldsJudged : Prop :=
  ∀ (who : Initiator) (o : Nat) (v : Nat) (svc : Nat) (m : Mod) (r : RegRow) (i j : Nat) (f : Fld), o % 4 = 0 → m.absentReg o = false →
    findReg o = some (r, i, j) → m.mayWrite who o v = true → m.porterDown o = false → m.vetoed o v = false → m.insideTxn who = false →
    f ∈ r.flds → bitsOf v f.lo f.width ≠ m.get f i j → (f.acc = .tx ∨ f.acc = .rwl ∧ m.cfg.locked = true) →
    (m.busWrite who o v svc).resp = some .busError ∧ Frame [] [.resp, .fc] m (m.busWrite who o v svc) ∧
    ((∃ g ∈ r.flds, g.acc = .tx ∧ bitsOf v g.lo g.width ≠ m.get g i j) → Raised m (m.busWrite who o v svc) 0x130 1 (regBase + o)) ∧
    ((∀ g ∈ r.flds, g.acc = .tx → bitsOf v g.lo g.width = m.get g i j) → (m.busWrite who o v svc).fc = m.fc)

/-- R10: an access to a register that is narrower than a word or not aligned receives a bus error, whoever makes it. Only the
transaction peaks (R24) and SYS_FABRIC_ERR (R25) may change. -/
def Obligations.RegisterAccessForm : Prop :=
  ∀ (who : Initiator) (op : BusOp) (addr : Addr) (s : State), regBase ≤ addr.toNat → addr.toNat < regBase + 0x140000 →
    (opWidth op < 4 ∨ addr.toNat % 4 ≠ 0) →
    Completes (.fabricAccess who op addr) s (fun m => m.resp = some .busError ∧
      Frame [Reg.SYS_TXN_PEAK_PAIR0.key 0 0, Reg.SYS_TXN_PEAK_PAIR1.key 0 0, Reg.SYS_TXN_PEAK_PAIR2.key 0 0,
        Reg.SYS_FABRIC_ERR_DECODE_ERROR.key 0 0] [.resp, .fc] s.mod.fresh m)

/-- R181: a lockstep pair reads the Ledger MRAM, and a write there by any initiator but LGR receives a bus error and changes no
byte (DBK and SEC write it by their own commands; 0x43F0_0000 upward is SEC's own storage, which R624 lets no pair read). -/
def Obligations.MramRights : Prop :=
  (∀ (p : Pair) (w : Width) (addr : Addr) (s : State), s.mod.split p.val = false → mramBase ≤ addr.toNat →
    addr.toNat + w.bytes ≤ 0x43F00000 →
    Completes (.fabricAccess (.pair p) (.read w) addr) s (fun m => (∃ x, m.resp = some (.data x)) ∧ MemKept s.mod m)) ∧
  (∀ (who : Initiator) (op : BusOp) (addr : Addr) (s : State), who ≠ .lgr → opWrites op = true → mramBase ≤ addr.toNat →
    addr.toNat + opWidth op ≤ mramBase + 0x4000000 →
    Completes (.fabricAccess who op addr) s (fun m => m.resp = some .busError ∧ MemKept s.mod m))

/-- R514: a lockstep pair may write every TIM register and the management core every one but those of the triggers, in every
state; any other write to the block receives a bus error, and no register of the block changes. A split core reads as its
firewall lets it. -/
def Obligations.TimRights : Prop :=
  (∀ (p : Pair) (o v : Nat) (m : Mod), m.split p.val = false → blockOf o = 1 → m.mayWrite (.pair p) o v = true) ∧
  (∀ (o v : Nat) (m : Mod), blockOf o = 1 → (m.mayWrite .mc o v = true ↔ o < 0x10100)) ∧
  (∀ (who : Initiator) (o : Nat) (v : Word32) (s : State), blockOf o = 1 → (findReg o).isSome = true →
    (∀ p, who = .pair p → s.mod.split p.val = true) → (who = .mc → 0x10100 ≤ o) →
    Completes (.registerWrite who (BitVec.ofNat 40 (regBase + o)) v) s (fun m => m.resp = some .busError ∧ BlocksBut [0] s.mod m)) ∧
  (∀ (p : Pair) (c : Fin 2) (o : Nat) (s : State), s.mod.split p.val = true → blockOf o = 1 → (findReg o).isSome = true →
    Completes (.fabricAccess (.split p c) (.read .b4) (BitVec.ofNat 40 (regBase + o))) s (fun m =>
      if s.mod.firewallReads p.val c.val (regBase + o) 4 then m.resp = some (.data (s.mod.readWord s.daybook o))
      else m.resp = some .busError))

/-- A write to a clear bit does what the bit's rule says and nothing else: SYS_TXN_PEAK (R24), SYS_FABRIC_ERR (R25),
LANE_MISMATCH_INFO (R75), SCL_SKEW_PEAKn (R107), LGR_MIRROR_LAG (R198), LGR_COMMIT_TIME (R199), LGR_MIGRATE_TIME (R231),
TASK_Tn_EXEC_PEAK (R160) and LBB_PREFETCH_DISCARDw (R446). -/
def Obligations.RegisterClears : Prop :=
  (∀ (who : Initiator) (v : Word32) (s : State), s.mod.mayWrite who 0x404 v.toNat = true → bitOf v.toNat 31 = true →
    Completes (.sysTxnPeakClr who v) s (fun m => m.resp = some .ok ∧ m.get Reg.SYS_TXN_PEAK_PAIR0 = 0 ∧
      m.get Reg.SYS_TXN_PEAK_PAIR1 = 0 ∧ m.get Reg.SYS_TXN_PEAK_PAIR2 = 0 ∧ m.get Reg.SYS_TXN_PEAK_POOL_MIN = 36 ∧
      Frame [Reg.SYS_TXN_PEAK_PAIR0.key 0 0, Reg.SYS_TXN_PEAK_PAIR1.key 0 0, Reg.SYS_TXN_PEAK_PAIR2.key 0 0,
        Reg.SYS_TXN_PEAK_POOL_MIN.key 0 0] [.resp] s.mod.fresh m)) ∧
  (∀ (who : Initiator) (v : Word32) (s : State), s.mod.mayWrite who 0x408 v.toNat = true →
    Completes (.fabricErrClear who v) s (fun m => m.resp = some .ok ∧
      (∀ f ∈ [Reg.SYS_FABRIC_ERR_TXN_TIMEOUT, Reg.SYS_FABRIC_ERR_CROSSING_PARITY, Reg.SYS_FABRIC_ERR_CREDIT_ERROR,
        Reg.SYS_FABRIC_ERR_DECODE_ERROR, Reg.SYS_FABRIC_ERR_SRAM_CE, Reg.SYS_FABRIC_ERR_SRAM_UE, Reg.SYS_FABRIC_ERR_DRAM_CE,
        Reg.SYS_FABRIC_ERR_DRAM_UE], m.get f = if bitOf v.toNat f.lo then 0 else s.mod.get f) ∧
      Frame [Reg.SYS_FABRIC_ERR_TXN_TIMEOUT.key 0 0, Reg.SYS_FABRIC_ERR_CROSSING_PARITY.key 0 0,
        Reg.SYS_FABRIC_ERR_CREDIT_ERROR.key 0 0, Reg.SYS_FABRIC_ERR_DECODE_ERROR.key 0 0, Reg.SYS_FABRIC_ERR_SRAM_CE.key 0 0,
        Reg.SYS_FABRIC_ERR_SRAM_UE.key 0 0, Reg.SYS_FABRIC_ERR_DRAM_CE.key 0 0, Reg.SYS_FABRIC_ERR_DRAM_UE.key 0 0] [.resp]
        s.mod.fresh m)) ∧
  (∀ (who : Initiator) (p : Pair) (v : Word32) (s : State), s.mod.mayWrite who (0x20400 + 0x1000 * p.val) v.toNat = true →
    bitOf v.toNat 31 = true →
    Completes (.mismatchInfoClear who p v) s (fun m => m.resp = some .ok ∧ m.get Reg.LANE_MISMATCH_INFO_VALID p.val = 0 ∧
      Frame [Reg.LANE_MISMATCH_INFO_VALID.key p.val 0, Reg.LANE_MISMATCH_INFO_GROUP.key p.val 0] [.resp] s.mod.fresh m)) ∧
  (∀ (who : Initiator) (p : Pair) (v : Word32) (s : State), s.mod.mayWrite who (0x30420 + 4 * p.val) v.toNat = true →
    bitOf v.toNat 31 = true →
    Completes (.skewPeakClr who p v) s (fun m => m.resp = some .ok ∧ m.get Reg.SCL_SKEW_PEAKn_PEAK_US p.val = 0 ∧
      Frame [Reg.SCL_SKEW_PEAKn_PEAK_US.key p.val 0] [.resp] s.mod.fresh m)) ∧
  (∀ (who : Initiator) (v : Word32) (s : State), s.mod.mayWrite who 0x50014 v.toNat = true → bitOf v.toNat 31 = true →
    Completes (.mirrorLagClr who v) s (fun m => m.resp = some .ok ∧ m.get Reg.LGR_MIRROR_LAG_PEAK = 0 ∧
      Frame [Reg.LGR_MIRROR_LAG_PEAK.key 0 0] [.resp] s.mod.fresh m)) ∧
  (∀ (who : Initiator) (v : Word32) (s : State), s.mod.mayWrite who 0x50400 v.toNat = true → bitOf v.toNat 31 = true →
    Completes (.commitTimeClr who v) s (fun m => m.resp = some .ok ∧ m.get Reg.LGR_COMMIT_TIME_PEAK_US = 0 ∧
      Frame [Reg.LGR_COMMIT_TIME_PEAK_US.key 0 0] [.resp] s.mod.fresh m)) ∧
  (∀ (who : Initiator) (v : Word32) (s : State), s.mod.mayWrite who 0x50408 v.toNat = true → bitOf v.toNat 31 = true →
    Completes (.migrateTimeClr who v) s (fun m => m.resp = some .ok ∧ m.get Reg.LGR_MIGRATE_TIME_PEAK_US = 0 ∧
      Frame [Reg.LGR_MIGRATE_TIME_PEAK_US.key 0 0] [.resp] s.mod.fresh m)) ∧
  (∀ (who : Initiator) (p : Pair) (t : Task) (v : Word32) (s : State),
    s.mod.mayWrite who (0x4010C + 0x1000 * p.val + 0x10 * t.val) v.toNat = true → bitOf v.toNat 31 = true →
    Completes (.execPeakClr who p t v) s (fun m => m.resp = some .ok ∧ m.get Reg.TASK_Tn_EXEC_PEAK_PEAK_US (s.mod.own p.val) t.val = 0 ∧
      Frame [Reg.TASK_Tn_EXEC_PEAK_PEAK_US.key (s.mod.own p.val) t.val] [.resp] s.mod.fresh m)) ∧
  (∀ (who : Initiator) (w : Fin 16) (v : Word32) (s : State), s.mod.mayWrite who (0xB0104 + 0x10 * w.val) v.toNat = true →
    bitOf v.toNat 31 = true →
    Completes (.prefetchDiscardClr who w v) s (fun m => m.resp = some .ok ∧ m.get Reg.LBB_PREFETCH_DISCARDw_WORDS w.val = 0 ∧
      Frame [Reg.LBB_PREFETCH_DISCARDw_WORDS.key w.val 0] [.resp] s.mod.fresh m))

/-- An access timeout, and a correctable or uncorrectable error of an SRAM or DRAM, raises the fault of R22 with the address, sets
its bit of SYS_FABRIC_ERR (R25) and changes nothing else; the initiator of the access that timed out gets a bus error (R21).
The F2 window has timeouts of its own (R428). -/
def Obligations.FabricFaults : Prop :=
  (∀ (who : Initiator) (addr : Addr) (s : State), addr.toNat < 0x200000000 →
    Completes (.txnTimeout who addr) s (fun m => m.resp = some .busError ∧ Raised s.mod m 1 1 addr.toNat ∧
      m.get Reg.SYS_FABRIC_ERR_TXN_TIMEOUT = 1 ∧ Frame [Reg.SYS_FABRIC_ERR_TXN_TIMEOUT.key 0 0] [.resp, .fc] s.mod.fresh m)) ∧
  (∀ (addr : Addr) (s : State), Completes (.eccCorrected .sram addr) s (fun m => Raised s.mod m 2 1 addr.toNat ∧
    m.get Reg.SYS_FABRIC_ERR_SRAM_CE = 1 ∧ Frame [Reg.SYS_FABRIC_ERR_SRAM_CE.key 0 0] [.fc] s.mod.fresh m)) ∧
  (∀ (addr : Addr) (s : State), Completes (.eccCorrected .dram addr) s (fun m => Raised s.mod m 3 1 addr.toNat ∧
    m.get Reg.SYS_FABRIC_ERR_DRAM_CE = 1 ∧ Frame [Reg.SYS_FABRIC_ERR_DRAM_CE.key 0 0] [.fc] s.mod.fresh m)) ∧
  (∀ (addr : Addr) (s : State), Completes (.eccUncorrectable .sram addr) s (fun m => Raised s.mod m 2 2 addr.toNat ∧
    m.get Reg.SYS_FABRIC_ERR_SRAM_UE = 1 ∧ Frame [Reg.SYS_FABRIC_ERR_SRAM_UE.key 0 0] [.fc] s.mod.fresh m)) ∧
  (∀ (addr : Addr) (s : State), Completes (.eccUncorrectable .dram addr) s (fun m => Raised s.mod m 3 2 addr.toNat ∧
    m.get Reg.SYS_FABRIC_ERR_DRAM_UE = 1 ∧ Frame [Reg.SYS_FABRIC_ERR_DRAM_UE.key 0 0] [.fc] s.mod.fresh m))

/-- R16 to R18: with a credit an entry goes into the crossing's FIFO and takes the credit; without one the sender holds it and
nothing is dropped; a read of an entry with a parity error discards it, raises CROSSING_PARITY and returns the credit. A
reset of the CYC island flushes its crossings with the Porters and leaves both Porters running. -/
def Obligations.Crossings : Prop :=
  (∀ (a b : Island) (data : BitVec 64) (ok : Bool) (s : State), islandCode a ≠ islandCode b →
    0 < (s.mod.crossing (islandCode a) (islandCode b)).credits → (s.mod.crossing (islandCode a) (islandCode b)).held = [] →
    Completes (.crossingEntry a b data ok 0) s (fun m =>
      (m.crossing (islandCode a) (islandCode b)).fifo = (s.mod.crossing (islandCode a) (islandCode b)).fifo ++ [(data, ok)] ∧
      (m.crossing (islandCode a) (islandCode b)).credits + 1 = (s.mod.crossing (islandCode a) (islandCode b)).credits ∧
      (m.crossing (islandCode a) (islandCode b)).held = [] ∧ Frame [] [.crossings] s.mod.fresh m)) ∧
  (∀ (a b : Island) (data : BitVec 64) (ok : Bool) (s : State), islandCode a ≠ islandCode b →
    (s.mod.crossing (islandCode a) (islandCode b)).credits = 0 →
    Completes (.crossingEntry a b data ok 0) s (fun m =>
      (m.crossing (islandCode a) (islandCode b)).fifo = (s.mod.crossing (islandCode a) (islandCode b)).fifo ∧
      (m.crossing (islandCode a) (islandCode b)).held = (s.mod.crossing (islandCode a) (islandCode b)).held ++ [(data, ok)] ∧
      Frame [] [.crossings] s.mod.fresh m)) ∧
  (∀ (a b : Island) (data : BitVec 64) (s : State), islandCode a ≠ islandCode b →
    s.mod.crossing (islandCode a) (islandCode b) = ⟨islandCode a, islandCode b, [], [], 16⟩ →
    Completes (.crossingEntry a b data false 1) s (fun m =>
      m.crossing (islandCode a) (islandCode b) = ⟨islandCode a, islandCode b, [], [], 16⟩ ∧ Raised s.mod m 1 2 0 ∧
      m.get Reg.SYS_FABRIC_ERR_CROSSING_PARITY = 1 ∧
      Frame [Reg.SYS_FABRIC_ERR_CROSSING_PARITY.key 0 0] [.crossings, .fc] s.mod.fresh m)) ∧
  (∀ s : State, Completes (.islandReset .cyc) s (fun m =>
    (∀ x ∈ m.crossings, ¬((x.src = 5 ∧ (x.dst = 6 ∨ x.dst = 7)) ∨ ((x.src = 6 ∨ x.src = 7) ∧ x.dst = 5))) ∧
    Frame [Reg.PRT_Pp_ERRORS_RX_ERRORS.key 0 26, Reg.PRT_Pp_ERRORS_RX_ERRORS.key 1 26] [.crossings] s.mod.fresh m)) ∧
  (∀ (i : Island) (s : State), (∀ k, i ≠ .prt k) → Completes (.islandReset i) s (fun m => m.prt = s.mod.prt ∧
    ∀ k, m.prtState k = s.mod.prtState k))

/-- R26, R35, R172: a lockstep pair's write into its own state region lands there byte by byte and nowhere else; a register
write and an access of the debug connector (R626) with the right complete. -/
def Obligations.AccessesComplete : Prop :=
  (∀ (p : Pair) (w : Width) (d : BitVec 64) (addr : Addr) (s : State), s.mod.split p.val = false →
    stateBase p.val ≤ addr.toNat → addr.toNat + w.bytes ≤ stateBase p.val + 0x80000 →
    Completes (.fabricAccess (.pair p) (.write w d) addr) s (fun m => m.resp = some .ok ∧
      m.rdLE addr.toNat w.bytes = d.toNat % 256 ^ w.bytes ∧
      (∀ a, a < addr.toNat ∨ addr.toNat + w.bytes ≤ a → m.rd8 a = s.mod.rd8 a) ∧
      Frame [] [.mem, .resp, .lgr, .lanes] s.mod.fresh m)) ∧
  (∀ (v : Word32) (s : State), s.mod.get Reg.TIM_CTL_STEP = 0 →
    Completes (.registerWrite .mc (BitVec.ofNat 40 (regBase + 0x10014)) v) s (fun m => m.resp = some .ok ∧
      m.get Reg.TIM_STEP_SEC_LO_SEC_LO = v.toNat ∧ Frame [Reg.TIM_STEP_SEC_LO_SEC_LO.key 0 0] [.resp] s.mod.fresh m)) ∧
  (∀ (w : Width) (addr : Addr) (s : State), s.mod.get Reg.DBG_STATUS_PORT_LIVE = 1 → mramBase ≤ addr.toNat →
    addr.toNat + w.bytes ≤ 0x43F00000 →
    Completes (.debugAccess (.read w) addr) s (fun m => (∃ x, m.resp = some (.data x)) ∧ Frame [] [.resp] s.mod.fresh m)) ∧
  (∀ (op : BusOp) (addr : Addr) (s : State), s.mod.get Reg.DBG_STATUS_PORT_LIVE = 0 →
    Completes (.debugAccess op addr) s (fun m => m.resp = some .busError ∧ Raised s.mod m 0x160 1 addr.toNat ∧
      Frame [] [.resp, .fc] s.mod.fresh m))

/-! ### Processing pairs -/

/-- R53, R65: outside BOOT a pair released from reset enters SELFTEST, and a self-test that passes takes it to IDLE; no other
register field changes. R36: mfcache with 2 drops the pair's caches and writes nothing; with 1 it writes the dirty bytes and
no others and keeps the caches; with 3 it does both. -/
def Obligations.PairStart : Prop :=
  (∀ (p : Pair) (s : State), s.mod.lstate p.val = lnRESET → s.mod.unit ≠ stBOOT → s.mod.split p.val = false →
    Completes (.pairReleaseFromReset p) s (fun m => m.lstate p.val = lnSELFTEST ∧
      Frame [Reg.LANE_STATUS_STATE.key p.val 0] [] s.mod.fresh m)) ∧
  (∀ (p : Pair) (s : State), s.mod.lstate p.val = lnSELFTEST → s.mod.split p.val = false →
    Completes (.selftestComplete p true) s (fun m => m.lstate p.val = lnIDLE ∧
      Frame [Reg.LANE_STATUS_STATE.key p.val 0] [.lanes] s.mod.fresh m)) ∧
  (∀ (p : Pair) (s : State), Completes (.mfcache p 2) s (fun m => (m.lane p.val).cache = [] ∧ Frame [] [.lanes] s.mod.fresh m)) ∧
  (∀ (p : Pair) (v : BitVec 64) (s : State), v = 1 ∨ v = 3 → ((s.mod.lane p.val).cache.map (·.1)).Nodup →
    Completes (.mfcache p v) s (fun m => (∀ e ∈ (s.mod.lane p.val).cache, e.2.dirty = true → m.rd8 e.1 = e.2.value) ∧
      (∀ a, (∀ e ∈ (s.mod.lane p.val).cache, e.1 = a → e.2.dirty = false) → m.rd8 a = s.mod.rd8 a) ∧
      (∀ e ∈ (m.lane p.val).cache, e.2.dirty = false) ∧ (v = 3 → (m.lane p.val).cache = []) ∧ Frame [] [.lanes, .mem] s.mod.fresh m))

/-- R54, R48, R632, R70: a mismatch of a LOCKSTEP pair in IDLE or RUN, a parity error of its delay stage, an uncorrectable
error in its runtime region or its L2, and a forced mismatch restart the pair, as long as the fault does not escalate and
has not class FATAL in force; the fault is raised with its address, and LANE_MISMATCH_INFO keeps the first GROUP (R75). -/
def Obligations.PairRestarts : Prop :=
  (∀ (p : Pair) (g : Fin 5) (addr : Addr) (s : State), s.mod.split p.val = false →
    (s.mod.lstate p.val = lnIDLE ∨ s.mod.lstate p.val = lnRUN) → s.mod.escalatesNow (laneSource p.val 0) 1 = false →
    s.mod.classNow (laneSource p.val 0) 1 ≠ clFATAL →
    Completes (.comparatorMismatch p g addr) s (fun m => Restarts p s.mod m ∧ m.get Reg.LANE_STATUS_CMP_CODE p.val = 2 ∧
      (s.mod.get Reg.LANE_MISMATCH_INFO_VALID p.val = 0 →
        m.get Reg.LANE_MISMATCH_INFO_VALID p.val = 1 ∧ m.get Reg.LANE_MISMATCH_INFO_GROUP p.val = g.val) ∧
      Raised s.mod m (laneSource p.val 0) 1 (if g.val < 3 then addr.toNat else 0))) ∧
  (∀ (p : Pair) (s : State), s.mod.split p.val = false → (s.mod.lstate p.val = lnIDLE ∨ s.mod.lstate p.val = lnRUN) →
    s.mod.escalatesNow (laneSource p.val 0) 1 = false → s.mod.classNow (laneSource p.val 0) 1 ≠ clFATAL →
    Completes (.delayParityError p) s (fun m => Restarts p s.mod m ∧ m.get Reg.LANE_STATUS_CMP_CODE p.val = 2 ∧
      (s.mod.get Reg.LANE_MISMATCH_INFO_VALID p.val = 0 →
        m.get Reg.LANE_MISMATCH_INFO_VALID p.val = 1 ∧ m.get Reg.LANE_MISMATCH_INFO_GROUP p.val = 5) ∧
      Raised s.mod m (laneSource p.val 0) 1 0)) ∧
  (∀ (who : Initiator) (p : Pair) (v : Word32) (s : State), s.mod.mayWrite who (0x20004 + 0x1000 * p.val) v.toNat = true →
    Settled s.mod who (0x20004 + 0x1000 * p.val) v.toNat → bitOf v.toNat 2 = true → s.mod.split p.val = false →
    s.mod.unit = stCONFIG ∨ s.mod.unit = stSAFE → (s.mod.lstate p.val = lnIDLE ∨ s.mod.lstate p.val = lnRUN) →
    s.mod.escalatesNow (laneSource p.val 0) 1 = false → s.mod.classNow (laneSource p.val 0) 1 ≠ clFATAL →
    Completes (.forceMismatch who p v) s (fun m => Restarts p s.mod m ∧ m.get Reg.LANE_STATUS_CMP_CODE p.val = 2 ∧ m.resp = some .ok ∧
      Raised s.mod m (laneSource p.val 0) 1 0)) ∧
  (∀ (p : Pair) (addr : Addr) (s : State), s.mod.split p.val = false → (s.mod.lstate p.val = lnIDLE ∨ s.mod.lstate p.val = lnRUN) →
    stateBase p.val ≤ addr.toNat → addr.toNat < tcmBase p.val + 0x400000 → s.mod.classNow (laneSource p.val 3) 5 ≠ clFATAL →
    Completes (.stateEccUncorrectable p addr) s (fun m => Restarts p s.mod m ∧ Raised s.mod m (laneSource p.val 3) 5 addr.toNat)) ∧
  (∀ (p : Pair) (addr : Addr) (s : State), s.mod.split p.val = false → (s.mod.lstate p.val = lnIDLE ∨ s.mod.lstate p.val = lnRUN) →
    s.mod.classNow (laneSource p.val 4) 8 ≠ clFATAL →
    Completes (.l2EccUncorrectable p addr) s (fun m => Restarts p s.mod m ∧ Raised s.mod m (laneSource p.val 4) 8 addr.toNat))

/-- R54: the restart goes from reset to waiting, and from waiting to restoring when no running commit holds a release of the
pair; a restore whose checks pass writes the pair's dirty granules back and takes it to the state of R65. -/
def Obligations.RestartSteps : Prop :=
  (∀ (p : Pair) (r : Restart) (s : State), (s.mod.lane p.val).restart = some r → r.phase = .resetting →
    Completes (.pairResetComplete p) s (fun m => (m.lane p.val).restart = some { r with phase := .waiting } ∧
      Frame [] [.lanes] s.mod.fresh m)) ∧
  (∀ (p : Pair) (r : Restart) (s : State), (s.mod.lane p.val).restart = some r → r.phase = .waiting →
    s.mod.restoreWaits p.val r = false →
    Completes (.restoreBegin p) s (fun m => (m.lane p.val).restart = some { r with phase := .restoring, began := s.mod.now } ∧
      Frame [] [.lanes] s.mod.fresh m)) ∧
  (∀ (p : Pair) (r : Restart) (s : State), NoTasks s.mod → s.mod.fc.record = none → (s.mod.lane p.val).restart = some r →
    r.phase = .restoring → r.migration = false → r.takeover = false → s.mod.writeBackBad p.val = false →
    Completes (.restoreComplete p true true) s (fun m => (m.lane p.val).restart = none ∧
      m.lstate p.val = s.mod.restoredState p.val r ∧ m.get Reg.LANE_STATUS_CMP_CODE p.val = 1 ∧
      (∀ d ∈ m.lgr.dirty, d.1 ≠ p.val) ∧ (∀ a, a < stateBase p.val → m.rd8 a = s.mod.rd8 a) ∧
      Frame [Reg.LANE_STATUS_STATE.key p.val 0, Reg.LANE_STATUS_CMP_CODE.key p.val 0] [.lanes, .lgr, .mem] s.mod.fresh m))

/-- R60, R61: an invalid comparator code, a failed self-test, an injection that nothing detects, a restore whose program check
fails and an uncorrectable error in the active program half leave the pair FAILED with its cause. With no task in force,
NATIVE holds the outputs of that pair alone and nothing else changes. -/
def Obligations.PairFails : Prop :=
  (∀ (p : Pair) (code : Bool) (s : State), NoTasks s.mod → s.mod.split p.val = false → s.mod.canFail p.val = true →
    Completes (.comparatorInvalid p code) s (fun m => m.lstate p.val = lnFAILED ∧ m.get Reg.LANE_FAIL_CAUSE_CAUSE p.val = 2 ∧
      m.get Reg.LANE_FAIL_CAUSE_CYCLE p.val = s.mod.cycle % 2 ^ Reg.LANE_FAIL_CAUSE_CYCLE.width ∧
      m.get Reg.LANE_STATUS_CMP_CODE p.val = (if code then 3 else 0) ∧ Raised s.mod m (laneSource p.val 0) 2 0 ∧
      bitOf (m.get Reg.FC_STATUS_PAIR_HOLD) p.val = true ∧
      Frame [Reg.LANE_STATUS_STATE.key p.val 0, Reg.LANE_FAIL_CAUSE_CAUSE.key p.val 0, Reg.LANE_FAIL_CAUSE_CYCLE.key p.val 0,
        Reg.LANE_STATUS_CMP_CODE.key p.val 0, Reg.FC_STATUS_PAIR_HOLD.key 0 0] [.fc, .lanes] s.mod.fresh m)) ∧
  (∀ (p : Pair) (s : State), NoTasks s.mod → s.mod.lstate p.val = lnSELFTEST →
    Completes (.selftestComplete p false) s (fun m => m.lstate p.val = lnFAILED ∧ m.get Reg.LANE_FAIL_CAUSE_CAUSE p.val = 5 ∧
      Raised s.mod m (laneSource p.val 0) 9 0 ∧
      Frame [Reg.LANE_STATUS_STATE.key p.val 0, Reg.LANE_FAIL_CAUSE_CAUSE.key p.val 0, Reg.LANE_FAIL_CAUSE_CYCLE.key p.val 0,
        Reg.FC_STATUS_PAIR_HOLD.key 0 0] [.fc, .lanes] s.mod.fresh m)) ∧
  (∀ (p : Pair) (s : State), NoTasks s.mod → s.mod.split p.val = false → s.mod.get Reg.LANE_CTL_INJ_ENABLE p.val = 1 →
    (s.mod.lstate p.val = lnIDLE ∨ s.mod.lstate p.val = lnRUN) →
    Completes (.injectionTest p 0) s (fun m => m.lstate p.val = lnFAILED ∧ m.get Reg.LANE_FAIL_CAUSE_CAUSE p.val = 3 ∧
      m.get Reg.LANE_CMP_TEST_LAST_RESULT p.val = 0 ∧ Raised s.mod m (laneSource p.val 0) 3 0)) ∧
  (∀ (p : Pair) (ok : Bool) (r : Restart) (s : State), NoTasks s.mod → s.mod.fc.record = none → s.mod.lstate p.val ≠ lnFAILED →
    (s.mod.lane p.val).restart = some r → r.phase = .restoring →
    Completes (.restoreComplete p false ok) s (fun m => m.lstate p.val = lnFAILED ∧ m.get Reg.LANE_FAIL_CAUSE_CAUSE p.val = 4 ∧
      (m.lane p.val).restart = none ∧ Raised s.mod m (laneSource p.val 3) 4 0)) ∧
  (∀ (p : Pair) (addr : Addr) (s : State), NoTasks s.mod → s.mod.split p.val = false → s.mod.canFail p.val = true →
    halfBase p.val (s.mod.half p.val) ≤ addr.toNat → addr.toNat < halfBase p.val (s.mod.half p.val) + 0x1C0000 →
    Completes (.stateEccUncorrectable p addr) s (fun m => m.lstate p.val = lnFAILED ∧ m.get Reg.LANE_FAIL_CAUSE_CAUSE p.val = 4 ∧
      Raised s.mod m (laneSource p.val 3) 4 addr.toNat))

/-- R60 over every state: whatever the pair, the profile and the tasks, an invalid comparator code leaves a LOCKSTEP pair that can
fail in FAILED with cause COMPARATOR, and the other pairs' LANE states as they were. -/
def Obligations.FailedAlways : Prop :=
  ∀ (p : Pair) (code : Bool) (s : State), s.mod.split p.val = false → s.mod.canFail p.val = true →
    Completes (.comparatorInvalid p code) s (fun m => m.lstate p.val = lnFAILED ∧ m.get Reg.LANE_FAIL_CAUSE_CAUSE p.val = 2 ∧
      ∀ q : Pair, q ≠ p → m.lstate q.val = s.mod.lstate q.val)

/-- R49, R51, R63, R64: an injection that is detected counts and shows its latency; corrected errors of the TCM and the L2, at a
class below FATAL, are recorded and do nothing else; a fault of a split core resets that core alone and counts. -/
def Obligations.LaneTests : Prop :=
  (∀ (p : Pair) (k : Fin 3) (s : State), s.mod.split p.val = false → s.mod.get Reg.LANE_CTL_INJ_ENABLE p.val = 1 →
    (s.mod.lstate p.val = lnIDLE ∨ s.mod.lstate p.val = lnRUN) → k ≠ 0 →
    Completes (.injectionTest p k) s (fun m => m.get Reg.LANE_CMP_TEST_LAST_LATENCY p.val = k.val ∧
      m.get Reg.LANE_CMP_TEST_LAST_RESULT p.val = 1 ∧ m.get Reg.LANE_CMP_TEST_DEFERRED p.val = 0 ∧
      Frame [Reg.LANE_CMP_TEST_LAST_LATENCY.key p.val 0, Reg.LANE_CMP_TEST_LAST_RESULT.key p.val 0,
        Reg.LANE_CMP_TEST_DEFERRED.key p.val 0, Reg.LANE_CMP_TEST_PASS_COUNT.key p.val 0] [] s.mod.fresh m)) ∧
  (∀ (p : Pair) (addr : Addr) (s : State), s.mod.classNow (laneSource p.val 3) 6 ≠ clFATAL →
    Completes (.tcmEccCorrected p addr) s (fun m => Raised s.mod m (laneSource p.val 3) 6 addr.toNat ∧ Frame [] [.fc] s.mod.fresh m)) ∧
  (∀ (p : Pair) (addr : Addr) (s : State), s.mod.classNow (laneSource p.val 4) 7 ≠ clFATAL →
    Completes (.l2EccCorrected p addr) s (fun m => Raised s.mod m (laneSource p.val 4) 7 addr.toNat ∧ Frame [] [.fc] s.mod.fresh m)) ∧
  (∀ (p : Pair) (core : Fin 2) (s : State), s.mod.split p.val = true → s.mod.lstate p.val = lnRUN →
    Completes (.splitCoreFault p core) s (fun m => Raised s.mod m (laneSource p.val (1 + core.val)) 13 0 ∧
      m.get Reg.LANE_RESTARTS_TOTAL p.val = min (2 ^ Reg.LANE_RESTARTS_TOTAL.width - 1) (s.mod.get Reg.LANE_RESTARTS_TOTAL p.val + 1) ∧
      Frame [Reg.LANE_RESTARTS_TOTAL.key p.val 0] [.fc] s.mod.fresh m)) ∧
  (∀ (v : Word32) (s : State), s.mod.get Reg.DBG_STATUS_PORT_LIVE = 1 → s.mod.get Reg.DBG_CTL_PAIR_EN = 0 →
    s.mod.get Reg.DBG_STATUS_SCOPE = 8 → bitOf v.toNat 3 = true →
    Completes (.debugEnable v) s (fun m => m.resp = some .ok ∧ m.get Reg.DBG_CTL_MC_EN = 1 ∧ m.get Reg.DBG_STATUS_ENABLED = 1 ∧
      (∀ q : Pair, m.lstate q.val = s.mod.lstate q.val) ∧ m.unit = s.mod.unit))

/-! ### Releases of the control program -/

/-- R111, R112, R117: in NATIVE a cyclic latch that is due on a pair that runs starts the task's next release: it is numbered,
stamped with this cycle and instant and runs; TASK_Tn_STATUS.RELEASE_LO shows its number. R114, R115: so does a trigger of an
event task without a current release; with one, the trigger is kept pending. Memory outside the latch bank and the pair's
state region keeps its bytes. -/
def Obligations.Latches : Prop :=
  (∀ (p : Pair) (t : Task) (d : TaskDesc) (s : State), s.mod.triad = false → s.mod.running = true → s.mod.desc p.val t.val = some d →
    d.cyclic = true → s.mod.latchBlocked = false → s.mod.latchHeld p.val = false → s.mod.latchCycle d = true →
    s.mod.canLatch p.val = true → s.mod.rel p.val t.val = none → (s.mod.dyn p.val t.val).enableReq = none →
    (s.mod.dyn p.val t.val).skipNext = false → s.mod.get Reg.TASK_Tn_STATUS_ENABLED p.val t.val = 1 →
    Completes (.cyclicLatch p t) s (fun m => (∃ r ∈ m.task.releases, r.pair = p.val ∧ r.desc = d ∧ r.stage = .running ∧ r.trig = none ∧
        r.number = (s.mod.dyn p.val t.val).next ∧ r.cycle = s.mod.cycle ∧ r.mono = s.mod.now) ∧
      m.get Reg.TASK_Tn_STATUS_RELEASE_LO p.val t.val = (s.mod.dyn p.val t.val).next % 2 ^ Reg.TASK_Tn_STATUS_RELEASE_LO.width ∧
      Frame [Reg.TASK_Tn_STATUS_RELEASE_LO.key p.val t.val] [.task, .lgr, .mem, .out] s.mod.fresh m)) ∧
  (∀ (p : Pair) (t : Task) (g : TrigData) (d : TaskDesc) (s : State), s.mod.triad = false → s.mod.running = true →
    s.mod.desc p.val t.val = some d → d.cyclic = false → (d.triggers.any (fun e => e.src == g.src)) = true →
    s.mod.latchBlocked = false → s.mod.latchHeld p.val = false → s.mod.canLatch p.val = true → s.mod.rel p.val t.val = none →
    (s.mod.dyn p.val t.val).enableReq = none → s.mod.get Reg.TASK_Tn_STATUS_ENABLED p.val t.val = 1 →
    Completes (.eventTrigger p t g) s (fun m => (∃ r ∈ m.task.releases, r.pair = p.val ∧ r.desc = d ∧ r.stage = .running ∧
        r.trig = some g ∧ r.number = (s.mod.dyn p.val t.val).next ∧ r.mono = s.mod.now) ∧
      Frame [Reg.TASK_Tn_STATUS_RELEASE_LO.key p.val t.val] [.task, .lgr, .mem, .out] s.mod.fresh m)) ∧
  (∀ (p : Pair) (t : Task) (g : TrigData) (d : TaskDesc) (s : State), s.mod.triad = false → s.mod.running = true →
    s.mod.desc p.val t.val = some d → d.cyclic = false → (d.triggers.any (fun e => e.src == g.src)) = true →
    s.mod.lstate p.val ≠ lnFAILED → (s.mod.rel p.val t.val).isSome = true → (s.mod.dyn p.val t.val).pendingTrig = none →
    s.mod.get Reg.TASK_Tn_STATUS_ENABLED p.val t.val = 1 →
    Completes (.eventTrigger p t g) s (fun m => (m.dyn p.val t.val).pendingTrig = some g ∧ m.task.releases = s.mod.task.releases ∧
      Frame [] [.task] s.mod.fresh m))

/-- R135, R174: in NATIVE the return of a body records its execution time and requests the release's commit. R132, R133: an
expired deadline counts one overrun of the release, and under the FAULT policy raises OVERRUN, under SKIP lets the task's next
release be skipped. R135: a budget excess raises its fault once and the body goes on. R136: a trap ends the release with cause
TRAP, and the skip counts. -/
def Obligations.ReleaseEnds : Prop :=
  (∀ (p : Pair) (t : Task) (us : Nat) (r : Release) (s : State), s.mod.triad = false → s.mod.executing p.val t.val = some r →
    r.stage = .running → s.mod.cfg.txn = none → s.mod.lgr.inhibited = false →
    Completes (.bodyReturn p t us) s (fun m => m.lgr.requests = s.mod.lgr.requests ++ [(p.val, t.val)] ∧
      m.get Reg.TASK_Tn_EXEC_PEAK_PEAK_US p.val t.val =
        max (s.mod.get Reg.TASK_Tn_EXEC_PEAK_PEAK_US p.val t.val) (min 65535 us) % 65536 ∧
      Frame [Reg.TASK_Tn_EXEC_PEAK_PEAK_US.key p.val t.val] [.task, .lgr, .mem, .out] s.mod.fresh m)) ∧
  (∀ (p : Pair) (t : Task) (r : Release) (s : State), s.mod.triad = false → s.mod.rel p.val t.val = some r → r.overrun = false →
    Completes (.deadlineExpiry p t) s (fun m => CountedUp Reg.TASK_Tn_OVERRUNS_TOTAL p.val t.val s.mod m ∧
      (r.desc.faultPolicy = true → Raised s.mod m (0x51 + p.val) 1 0) ∧
      (r.desc.faultPolicy = false → m.fc = s.mod.fc ∧ (m.dyn p.val t.val).skipNext = true) ∧
      Frame [Reg.TASK_Tn_OVERRUNS_TOTAL.key p.val t.val] [.task, .fc] s.mod.fresh m)) ∧
  (∀ (p : Pair) (t : Task) (r : Release) (s : State), s.mod.executing p.val t.val = some r → s.mod.get Reg.TASK_CTL_BUDGET_CHECK = 1 →
    (∀ q ∈ r.parts, q.budgetRaised = false) →
    Completes (.budgetExceeded p t) s (fun m => Raised s.mod m (0x51 + s.mod.own p.val) 2 0 ∧ Frame [] [.task, .fc] s.mod.fresh m)) ∧
  (∀ (p : Pair) (t : Task) (addr : Addr) (r : Release) (s : State), s.mod.triad = false → s.mod.executing p.val t.val = some r →
    s.mod.cfg.txn = none → (s.mod.dyn p.val t.val).pendingTrig = none →
    Completes (.taskTrap p t addr) s (fun m => Reported s.mod m (0x51 + p.val) 4 addr.toNat ∧
      CountedUp Reg.TASK_Tn_SKIPS_TOTAL p.val t.val s.mod m ∧ m.get Reg.TASK_Tn_STATUS_SKIP_CAUSE p.val t.val = skTRAP ∧
      (∀ x ∈ m.task.releases, ¬(x.pair = p.val ∧ x.desc.index = t.val)) ∧ FrameIn [4, 14] [.task, .lgr, .mem, .out, .fc, .dbk] s.mod.fresh m))

/-- R83 to R87 for three voters in TRIAD: a first digest is stored and waits; a second one of another pair with the same value
opens the window and releases the record with the first as source, and Scales copies the source's vote set; R84, R174: a copy
that agrees lands byte by byte in the release staging area, and the release requests its commit. R88: the window's end without
a digest that is due raises LAG against the voter and counts it; with every digest in and the record released it raises nothing. -/
def Obligations.Voting : Prop :=
  (∀ (p : Pair) (t : Task) (r : Release) (v : VoteRec) (s : State), s.mod.triad = true → s.mod.task.releases = [r] → r.pair = 0 →
    r.desc.index = t.val → (∃ q ∈ r.parts, q.pair = p.val ∧ q.returned = true ∧ q.digested = false ∧ q.dropped = false) →
    s.mod.scl.votes = [v] → v.task = t.val → v.number = r.number → v.voters = [0, 1, 2] → v.digests = [] → v.released = none →
    v.window = none → v.final = false → s.mod.vstate p.val = vsVOTING → (s.mod.dyn 0 t.val).pendingTrig = none →
    Completes (.digestArrival p t true) s (fun m => m.fc = s.mod.fc ∧
      ∃ w ∈ m.scl.votes, w.task = t.val ∧ w.digests = [⟨p.val, s.mod.digestOf p.val r, s.mod.now⟩] ∧ w.released = none ∧ w.window = none)) ∧
  (∀ (p q : Pair) (t : Task) (r : Release) (v : VoteRec) (t0 : Nat) (s : State), s.mod.triad = true → s.mod.task.releases = [r] → r.pair = 0 →
    r.desc.index = t.val → (∃ x ∈ r.parts, x.pair = p.val ∧ x.returned = true ∧ x.digested = false ∧ x.dropped = false) →
    s.mod.scl.votes = [v] → v.task = t.val → v.number = r.number → v.voters = [0, 1, 2] → q ≠ p → t0 < s.mod.now →
    v.digests = [⟨q.val, s.mod.digestOf p.val r, t0⟩] → v.released = none → v.window = none → v.final = false → v.exempt = [] →
    s.mod.vstate p.val = vsVOTING → s.mod.vstate q.val = vsVOTING → (s.mod.dyn 0 t.val).pendingTrig = none →
    Completes (.digestArrival p t true) s (fun m => m.fc = s.mod.fc ∧ (t.val, q.val) ∈ m.scl.copies ∧
      ∃ w ∈ m.scl.votes, w.task = t.val ∧ w.released = some (q.val, s.mod.digestOf p.val r) ∧ w.window = some s.mod.now)) ∧
  (∀ (t : Task) (src : Pair) (r : Release) (s : State), s.mod.scl.copies.find? (fun c => c.1 == t.val) = some (t.val, src.val) →
    s.mod.rel 0 t.val = some r → r.late = false → s.mod.lgr.inhibited = false →
    Completes (.releaseCopyComplete t true) s (fun m => m.lgr.requests = s.mod.lgr.requests ++ [(0, t.val)] ∧
      (∀ c ∈ m.scl.copies, c.1 ≠ t.val) ∧
      (∀ o ∈ voteSet r.desc.outputs, m.rd8 (stagingBase + o) = s.mod.rd8 (shadowBase src.val + o)) ∧
      (∀ a, (∀ o ∈ voteSet r.desc.outputs, a ≠ stagingBase + o) → m.rd8 a = s.mod.rd8 a) ∧
      Frame [] [.mem, .scl, .task, .lgr] s.mod.fresh m)) ∧
  (∀ (t : Task) (v : VoteRec) (s : State), s.mod.voteOf t.val = some v → v.window.isSome = true → v.windowEnded = false →
    v.released.isSome = true → v.missing = [] → (s.mod.dyn 0 t.val).pendingTrig = none →
    Completes (.skewWindowEnd t) s (fun m => m.fc = s.mod.fc ∧ ∃ w ∈ m.scl.votes, w.task = t.val ∧ w.windowEnded = true)) ∧
  (∀ (t : Task) (p : Pair) (v : VoteRec) (s : State), s.mod.voteOf t.val = some v → v.window.isSome = true → v.windowEnded = false →
    v.released.isSome = true → v.missing = [p.val] → s.mod.vstate p.val = vsVOTING → s.mod.escalatesNow (0x41 + p.val) 1 = false →
    (s.mod.dyn 0 t.val).pendingTrig = none →
    Completes (.skewWindowEnd t) s (fun m => Raised s.mod m (0x41 + p.val) 1 0 ∧
      CountedUp Reg.SCL_LAG_COUNTn_TOTAL p.val 0 s.mod m ∧ m.vstate p.val = vsVOTING))

/-- R142, R143: REL_INFO, TIME_AT_LATCH, MONO_AT_LATCH and FORCE_INFO answer what the caller's release latched, and change nothing.
TRIGGER, TASK_ENABLE, APP_FAULT, CAN_RX_ACK and MC_REQUEST with valid arguments queue their request with the caller's release, which
holds up to 32; the request waits for the commit point. An invalid argument answers −1, a full queue −3. -/
def Obligations.Services : Prop :=
  (∀ (p : Pair) (r : Release) (s : State), s.mod.caller p.val = some r →
    Completes (.relInfo p) s (fun m => m.resp = some (.service 0 r.number (r.cycle + r.desc.index * 2 ^ 32)) ∧
      Frame [] [.resp] s.mod.fresh m) ∧
    Completes (.timeAtLatch p) s (fun m => m.resp = some (.service 0 r.sec r.ns) ∧ Frame [] [.resp] s.mod.fresh m) ∧
    Completes (.monoAtLatch p) s (fun m => m.resp = some (.service 0 r.mono 0) ∧ Frame [] [.resp] s.mod.fresh m) ∧
    Completes (.forceInfo p) s (fun m => m.resp = some (.service 0 r.forces (b2n r.orphan)) ∧ Frame [] [.resp] s.mod.fresh m)) ∧
  (∀ (p : Pair) (r : Release) (q : Part) (s : State), s.mod.caller p.val = some r →
    s.mod.task.releases.find? (fun x => x.pair == r.pair && x.desc.index == r.desc.index && x.number == r.number) = some r →
    r.parts.find? (fun x => x.pair == p.val) = some q →
    (q.requests.length < 32 →
      (∀ (t : Task) (d : TaskDesc), s.mod.desc p.val t.val = some d → 16 ≤ t.val → (d.triggers.any (fun e => e.src == 5)) = true →
        Completes (.trigger p (BitVec.ofNat 64 t.val)) s (Queued p r q (.trigger t.val) s.mod.fresh)) ∧
      (∀ (t : Task) (on : Bool), Completes (.taskEnable p (BitVec.ofNat 64 t.val) (BitVec.ofNat 64 (b2n on))) s
        (Queued p r q (.enable t.val on) s.mod.fresh)) ∧
      (∀ (n : Fin 512) (k : Fin 256) (c : Fin 4),
        Completes (.appFault p (BitVec.ofNat 64 n.val) (BitVec.ofNat 64 k.val) (BitVec.ofNat 64 c.val)) s
          (Queued p r q (.appFault n.val k.val c.val) s.mod.fresh)) ∧
      (∀ (n : Ctrl) (e : Fin 128), n.val < s.mod.canCount → Completes (.canRxAck p (BitVec.ofNat 64 n.val) (BitVec.ofNat 64 e.val)) s
        (Queued p r q (.canAck n.val e.val) s.mod.fresh)) ∧
      (∀ (op : Fin 5) (a1 a2 : BitVec 64), Completes (.mcRequest p (BitVec.ofNat 64 (op.val + 1)) a1 a2) s
        (Queued p r q (.mc (op.val + 1) a1.toNat a2.toNat) s.mod.fresh))) ∧
    (32 ≤ q.requests.length → ∀ (op : Fin 5) (a1 a2 : BitVec 64),
      Completes (.mcRequest p (BitVec.ofNat 64 (op.val + 1)) a1 a2) s (fun m => m.resp = some (.service (-3) 0 0) ∧
        Frame [] [.resp] s.mod.fresh m)) ∧
    (∀ (a0 a1 a2 : BitVec 64), 512 ≤ a0.toNat → Completes (.appFault p a0 a1 a2) s (fun m => m.resp = some (.service (-1) 0 0) ∧
      Frame [] [.resp] s.mod.fresh m)))
/-! ### The Ledger -/

/-- R174, R175, R179: a commit starts with all waiting requests, or, when FRC or RT changed outside a release, with none; at its
commit point the map record of the next slot is complete and current, its COMMIT one more than the last, and the Ledger is
IDLE with the commit's time and size shown. R177: a late commit raises COMMIT_LATE and runs on. The data a commit without
releases writes lie in the MRAM. -/
def Obligations.Commits : Prop :=
  (∀ s : State, s.mod.lgr.commit = none → s.mod.commitsStopped = false → s.mod.chg.switchDue = false → s.mod.lgr.requests ≠ [] →
    s.mod.commitSpaced = true →
    Completes .commitStart s (fun m => (∃ c, m.lgr.commit = some c ∧ c.rels = s.mod.lgr.requests ∧ c.started = s.mod.now ∧ c.switch = false) ∧
      m.lgr.requests = [] ∧ m.get Reg.LGR_STATUS_STATE = 1 ∧
      Frame [Reg.LGR_STATUS_STATE.key 0 0] [.mem, .lgr, .task] s.mod.fresh m)) ∧
  (∀ s : State, s.mod.lgr.commit = none → s.mod.commitsStopped = false → s.mod.lgr.looseDue = true → s.mod.lgr.requests = [] →
    s.mod.commitSpaced = true →
    Completes .commitWithoutReleases s (fun m => (∃ c, m.lgr.commit = some c ∧ c.rels = [] ∧ c.started = s.mod.now) ∧
      m.lgr.loose = [] ∧ m.lgr.looseDue = false ∧ m.get Reg.LGR_STATUS_STATE = 1 ∧ (∀ a, a < mramBase → m.rd8 a = s.mod.rd8 a) ∧
      Frame [Reg.LGR_STATUS_STATE.key 0 0] [.mem, .lgr] s.mod.fresh m)) ∧
  (∀ (c : Commit) (s : State), s.mod.lgr.commit = some c → c.rels = [] → c.switch = false → NoTasks s.mod →
    s.mod.get Reg.LGR_STATUS_MIRROR = miNOPEER → s.mod.task.mcQueue = [] → s.mod.get Reg.LGR_STATUS_STATE = 1 →
    s.mod.lgr.inhibited = false →
    Completes .commitPoint s (fun m => m.lgr.commit = none ∧ m.lgr.commits = s.mod.lgr.commits + 1 ∧
      m.lgr.current = some (s.mod.newMap c) ∧ (s.mod.newMap c).commit = s.mod.lgr.commits + 1 ∧
      alGet m.lgr.maps (s.mod.nextSlot (s.mod.get Reg.LGR_SLOT_SLOT)) = some (s.mod.newMap c) ∧
      m.get Reg.LGR_SLOT_SLOT = s.mod.nextSlot (s.mod.get Reg.LGR_SLOT_SLOT) ∧ m.get Reg.LGR_STATUS_STATE = 0 ∧
      m.get Reg.LGR_COMMIT_TIME_LAST_US = min 0xFFFF ((s.mod.now - c.started) / 1000) ∧
      Frame [Reg.LGR_SLOT_SLOT.key 0 0, Reg.LGR_STATUS_STATE.key 0 0, Reg.LGR_COMMIT_TIME_LAST_US.key 0 0,
        Reg.LGR_COMMIT_TIME_PEAK_US.key 0 0, Reg.LGR_COMMIT_SIZE_LAST_GRANULES.key 0 0, Reg.LGR_COMMIT_SIZE_PEAK_GRANULES.key 0 0]
        [.lgr] s.mod.fresh m)) ∧
  (∀ (c : Commit) (s : State), s.mod.lgr.commit = some c →
    Completes .commitLate s (fun m => Raised s.mod m 0x60 1 0 ∧ Frame [] [.fc] s.mod.fresh m))

/-- R124, R149, R169: after the commit point of a NATIVE release whose outputs are image bytes, every byte of its output extents
reads in the published output image as its task wrote it in the staging area, with the output forces applied; output bytes of
other blocks read as before. -/
def Obligations.PublicationAtCommit : Prop :=
  ∀ (p : Pair) (t : Task) (c : Commit) (r : Release) (s : State), s.mod.triad = false → s.mod.lgr.commit = some c →
    c.rels = [(p.val, t.val)] → c.switch = false → s.mod.rel p.val t.val = some r →
    (∀ e ∈ r.desc.outputs, e.type = 1 ∧ e.start + e.len ≤ 0x10000) → (∀ q ∈ r.parts, q.requests = []) → s.mod.cfg.txn = none →
    (s.mod.dyn p.val t.val).pendingTrig = none → s.mod.get Reg.LGR_STATUS_MIRROR = miNOPEER → s.mod.task.mcQueue = [] →
    s.mod.forcesOf 3 = [] →
    Completes .commitPoint s (fun m =>
      (∀ e ∈ r.desc.outputs, ∀ a ∈ extentBytes e, m.outByte a = s.mod.forced 2 a (s.mod.rd8 (shadowBase p.val + a))) ∧
      (∀ a, a < 0x10000 → (∀ e ∈ r.desc.outputs, ∀ b ∈ extentBytes e, b / 64 ≠ a / 64) → m.outByte a = s.mod.outByte a))

/-- R190 to R193, R178: the standby takes a mirrored commit into its next slot and makes it current; an acknowledgement sets the
lag, and after a full copy brings IN_SYNC; MRAM errors are raised by device, an uncorrectable one in a granule copy marks the
copy, and a failed device makes the Ledger FAILED; COLD_START in CONFIG makes every map record invalid (R194). -/
def Obligations.MirrorAndMram : Prop :=
  (∀ (c : MirrorCommit) (s : State), s.mod.unit = stSTANDBY → s.mod.chg.standby = none →
    Completes (.mirrorReceive c) s (fun m => m.get Reg.LGR_STATUS_MIRROR = miRECEIVING ∧ m.lgr.commits = c.commit ∧
      (∃ r, m.lgr.current = some r ∧ r.commit = c.commit ∧ r.programs = c.programIds ∧
        alGet m.lgr.maps (s.mod.nextSlot (s.mod.get Reg.LGR_SLOT_SLOT)) = some r) ∧
      m.get Reg.LGR_SLOT_SLOT = s.mod.nextSlot (s.mod.get Reg.LGR_SLOT_SLOT) ∧ (∀ a, a < mramBase → m.rd8 a = s.mod.rd8 a) ∧
      Frame [Reg.LGR_STATUS_MIRROR.key 0 0, Reg.LGR_SLOT_SLOT.key 0 0] [.mem, .lgr] s.mod.fresh m)) ∧
  (∀ (n : Nat) (full : Bool) (s : State), s.mod.get Reg.LGR_STATUS_MIRROR = miSYNC →
    Completes (.mirrorAck n full) s (fun m => m.lgr.acked = max s.mod.lgr.acked n ∧
      m.get Reg.LGR_MIRROR_LAG_LAG = min 0xFF (s.mod.lgr.commits - max s.mod.lgr.acked n) ∧
      Frame [Reg.LGR_MIRROR_LAG_LAG.key 0 0] [.lgr] s.mod.fresh m)) ∧
  (∀ (n : Nat) (s : State), s.mod.get Reg.LGR_STATUS_MIRROR = miFULL → s.mod.lgr.recorded = [] → s.mod.lgr.commits ≤ n + 2 →
    Completes (.mirrorAck n true) s (fun m => m.get Reg.LGR_STATUS_MIRROR = miSYNC ∧ m.get Reg.TWN_STATUS_SYNC_LOST = 0 ∧
      Frame [Reg.LGR_MIRROR_LAG_LAG.key 0 0, Reg.LGR_STATUS_MIRROR.key 0 0, Reg.TWN_STATUS_SYNC_LOST.key 0 0] [.lgr] s.mod.fresh m)) ∧
  (∀ (d : Fin 4) (addr : Addr) (s : State), Completes (.mramEccCorrected d addr) s (fun m =>
    Raised s.mod m (0x62 + d.val) 8 addr.toNat ∧ Frame [] [.fc] s.mod.fresh m)) ∧
  (∀ (d : Fin 4) (addr : Addr) (k g : Nat) (s : State), k < 8 → g < 6504 → copyAddr k g ≤ addr.toNat → addr.toNat < copyAddr k g + 256 →
    Completes (.mramEccUncorrectable d addr) s (fun m => Raised s.mod m (0x62 + d.val) 9 addr.toNat ∧
      copyAddr k g - mramBase ∈ m.lgr.bad ∧ (∀ b ∈ s.mod.lgr.bad, b ∈ m.lgr.bad) ∧ Frame [] [.fc, .lgr] s.mod.fresh m)) ∧
  (∀ (d : Fin 4) (s : State), Completes (.mramDeviceFail d) s (fun m => Raised s.mod m (0x62 + d.val) 10 0 ∧
    m.get Reg.LGR_STATUS_STATE = 4 ∧ Frame [Reg.LGR_STATUS_STATE.key 0 0] [.fc] s.mod.fresh m)) ∧
  (∀ (who : Initiator) (v : Word32) (s : State), s.mod.mayWrite who 0x50000 v.toNat = true → Settled s.mod who 0x50000 v.toNat →
    bitOf v.toNat 1 = true → s.mod.unit = stCONFIG →
    Completes (.coldStart who v) s (fun m => m.resp = some .ok ∧ m.lgr.maps = [] ∧
      FrameIn [14] [.resp, .lgr, .dbk, .fc] s.mod.fresh m))

/-! ### Online change and forces -/

/-- R203, R204, R226: a new request with LOAD_AND_ARM on an idle sequencer in RUN_ACTIVE, with no reason of R208 against it and no
named boundary, goes to LOADING with RESULT 0 in the descriptor and in TASK_CHG_STATUS; a new CANCEL in LOADING or ARMED ends the
change with RESULT 5. No byte but the descriptor's RESULT and REFUSE changes. -/
def Obligations.ChangeRequests : Prop :=
  (∀ s : State, (s.mod.rd8 (s.mod.chgDesc + 4)).toNat = 1 → s.mod.rdLE s.mod.chgDesc 4 ≠ s.mod.chg.seqSeen → s.mod.chgState = chIDLE →
    s.mod.rdLE (s.mod.chgDesc + 8) 4 = 0xFFFFFFFF → s.mod.triad = false → s.mod.unit = stACTIVE →
    (∀ p : Pair, s.mod.lstate p.val ≠ lnRESTORE ∧ s.mod.lstate p.val ≠ lnFAILED) → s.mod.lgr.requests = [] →
    s.mod.get Reg.SYS_STATE_TRIAL = 0 → s.mod.get Reg.UPD_STATE_STATE ≠ 1 → s.mod.mirrors = false →
    Completes .loadAndArm s (fun m => m.chgState = chLOADING ∧ m.get Reg.TASK_CHG_STATUS_RESULT = 0 ∧
      m.get Reg.TASK_CHG_STATUS_REFUSE = 0 ∧ m.get Reg.TASK_CHG_STATUS_POSTPONED = 0 ∧
      m.chg.seqSeen = s.mod.rdLE s.mod.chgDesc 4 ∧ m.chg.session = s.mod.rdLE (s.mod.chgDesc + 0x14) 4 ∧
      m.rd8 (s.mod.chgDesc + 5) = 0 ∧ m.rd8 (s.mod.chgDesc + 6) = 0 ∧
      (∀ a, a ≠ s.mod.chgDesc + 5 → a ≠ s.mod.chgDesc + 6 → m.rd8 a = s.mod.rd8 a) ∧
      Frame [Reg.TASK_CHG_STATUS_STATE.key 0 0, Reg.TASK_CHG_STATUS_RESULT.key 0 0, Reg.TASK_CHG_STATUS_REFUSE.key 0 0,
        Reg.TASK_CHG_STATUS_PAIRS.key 0 0, Reg.TASK_CHG_STATUS_POSTPONED.key 0 0] [.chg, .mem] s.mod.fresh m)) ∧
  (∀ s : State, (s.mod.rd8 (s.mod.chgDesc + 4)).toNat = 2 → s.mod.rdLE s.mod.chgDesc 4 ≠ s.mod.chg.seqSeen →
    s.mod.chgState = chLOADING ∨ s.mod.chgState = chARMED →
    Completes .cancel s (fun m => m.chgState = chIDLE ∧ m.get Reg.TASK_CHG_STATUS_RESULT = 5 ∧ m.chg.pendingSet = none ∧
      m.rd8 (s.mod.chgDesc + 5) = 5 ∧ (∀ a, a ≠ s.mod.chgDesc + 5 → a ≠ s.mod.chgDesc + 6 → m.rd8 a = s.mod.rd8 a) ∧
      Frame [Reg.TASK_CHG_STATUS_STATE.key 0 0, Reg.TASK_CHG_STATUS_RESULT.key 0 0, Reg.TASK_CHG_STATUS_REFUSE.key 0 0]
        [.chg, .mem] s.mod.fresh m))

/-- R206, R208, R225: the end of loading arms the change exactly if the set parses, its package signature verifies, no check of codes
8 to 11 refuses, a boundary fits R209 and it lies far enough ahead; otherwise the change is refused and the sequencer idle.
With a mirror the acknowledgement of the standby arms it, and without one within its time it is refused with code 13. The
standby acknowledges a set exactly if the set passes its checks there. -/
def Obligations.ChangeLoading : Prop :=
  (∀ s : State, s.mod.chgState = chLOADING → s.mod.chg.checked = false → s.mod.mirrors = false →
    Completes .changeLoadingComplete s (fun m =>
      (m.chgState = chARMED ∧ m.get Reg.TASK_CHG_STATUS_RESULT = 1 ∧ m.chg.pendingSet.isSome = true ∨
        m.chgState = chIDLE ∧ m.get Reg.TASK_CHG_STATUS_RESULT = 3 ∧ 7 ≤ m.get Reg.TASK_CHG_STATUS_REFUSE ∧
          Reported s.mod m 0x50 8 0) ∧
      (m.chgState = chARMED ↔ ∃ x c, parseSet s.mod.chg.payload s.mod.triad = some x ∧
        (s.mod.loadHalves x).setSigned (s.mod.loadHalves x).stagedBytes (s.mod.loadHalves x).stagedPkg s.mod.chg.payload = true ∧
        (s.mod.loadHalves x).setCode s.mod.chg.payload x = none ∧ ((s.mod.loadHalves x).keepSet x).plannedSwitch = some c ∧
        ((s.mod.loadHalves x).keepSet x).boundaryAhead = true))) ∧
  (∀ s : State, s.mod.chgState = chLOADING → s.mod.chg.checked = true →
    Completes .changeSetAck s (fun m => m.chgState = chARMED ∧ m.get Reg.TASK_CHG_STATUS_RESULT = 1 ∧ m.chg.acked = true ∧
      m.chg.pendingSet.isSome = true ∧ Frame [Reg.TASK_CHG_STATUS_STATE.key 0 0, Reg.TASK_CHG_STATUS_RESULT.key 0 0,
        Reg.TASK_CHG_STATUS_REFUSE.key 0 0] [.chg, .mem] s.mod.fresh m)) ∧
  (∀ s : State, s.mod.chgState = chLOADING → s.mod.chg.checked = true → s.mod.chg.acked = false →
    Completes .changeAckTimeout s (fun m => m.chgState = chIDLE ∧ m.get Reg.TASK_CHG_STATUS_RESULT = 3 ∧
      m.get Reg.TASK_CHG_STATUS_REFUSE = 13 ∧ Raised s.mod m 0x50 8 0 ∧
      Frame [Reg.TASK_CHG_STATUS_STATE.key 0 0, Reg.TASK_CHG_STATUS_RESULT.key 0 0, Reg.TASK_CHG_STATUS_REFUSE.key 0 0]
        [.chg, .mem, .fc] s.mod.fresh m)) ∧
  (∀ (set : List Byte) (g : Package) (q : PkgPart) (x : ChangeSet) (s : State), s.mod.unit = stSTANDBY →
    parsePackage (listLE set) (sliceB set) set.length = some g → g.parts = [q] →
    parseSet (sliceB set q.off q.len) s.mod.triad = some x →
    Completes (.changeSetReceived set) s (fun m =>
      if s.mod.setSigned (sliceB set) (some g) (sliceB set q.off q.len) = true ∧ s.mod.setCode (sliceB set q.off q.len) x = none then
        m.out = [.changeAck] ∧ m.chg.standby = some (sliceB set q.off q.len)
      else Frame [] [] s.mod.fresh m))

/-- R215, R216, R219: quiescence starts the migration; its time limit postpones the switch to the next macrocycle start, or abandons
the change with code 16 at POSTPONE_LIMIT; the end of the migration makes the other program half of the affected pair active and
starts the switch commit; a late migration raises MIGRATE_LATE and runs on. -/
def Obligations.ChangeSwitch : Prop :=
  (∀ s : State, s.mod.chgState = chHOLD → s.mod.quiescent = true →
    Completes .quiescenceReached s (fun m => m.chgState = chMIGRATING ∧ m.chg.migStarted = s.mod.now ∧
      Frame [Reg.TASK_CHG_STATUS_STATE.key 0 0] [.chg] s.mod.fresh m)) ∧
  (∀ s : State, s.mod.chgState = chHOLD → NoTasks s.mod → s.mod.chg.heldLatches = [] → s.mod.get Reg.TASK_CHG_STATUS_POSTPONED < 255 →
    Completes .quiesceTimeout s (fun m =>
      m.get Reg.TASK_CHG_STATUS_POSTPONED = s.mod.get Reg.TASK_CHG_STATUS_POSTPONED + 1 ∧
      (s.mod.get Reg.TASK_CHG_STATUS_POSTPONED + 1 < s.mod.chg.postponeLimit → m.chgState = chARMED ∧
        m.chg.switchCycle = s.mod.cycleAfter s.mod.chg.switchCycle s.mod.macroN ∧ m.fc = s.mod.fc) ∧
      (s.mod.chg.postponeLimit ≤ s.mod.get Reg.TASK_CHG_STATUS_POSTPONED + 1 → m.chgState = chIDLE ∧
        m.get Reg.TASK_CHG_STATUS_RESULT = 4 ∧ m.get Reg.TASK_CHG_STATUS_REFUSE = 16 ∧ Raised s.mod m 0x50 9 0))) ∧
  (∀ (p : Pair) (s : State), s.mod.chgState = chMIGRATING → NoTasks s.mod → s.mod.chg.pairs = [p.val] → s.mod.chg.table = none →
    s.mod.chg.heldLatches = [] → s.mod.lgr.commit = none → s.mod.lgr.inhibited = false → s.mod.get Reg.LGR_STATUS_STATE = 0 →
    s.mod.half p.val ≤ 1 →
    Completes .migrationEnd s (fun m => m.half p.val = 1 - s.mod.half p.val ∧ m.chgState = chSWITCH ∧
      m.get Reg.LGR_MIGRATE_TIME_LAST_US = min 0xFFFF ((s.mod.now - s.mod.chg.migStarted) / 1000) ∧
      m.get Reg.LGR_STATUS_STATE = 1 ∧ ∃ c, m.lgr.commit = some c ∧ c.switch = true ∧ c.rels = [])) ∧
  (∀ s : State, s.mod.chgState = chMIGRATING →
    Completes .migrateLate s (fun m => Raised s.mod m 0x60 11 0 ∧ Frame [] [.fc] s.mod.fresh m))

/-- R146 to R148, R151: the waiting request with the lowest SEQ is carried out while the batch of the cycle allows: a SET puts its
force into the entry that R148 names, or ends with its refusal code and FORCE_REFUSED; a CLEAR takes its force out; CLEAR_ALL
empties the table. RESULT and TASK_FORCE_LAST report it, FORCED shows whether a force stands, and no byte but RESULT changes. -/
def Obligations.Forcing : Prop :=
  (∀ (i e : Nat) (f : Force) (s : State), s.mod.nextRequest = some i → (s.mod.rd8 (s.mod.ringEntry i + 4)).toNat = 1 →
    0 < s.mod.task.forceBudget → s.mod.setResult (s.mod.ringForce i) = .ok (e, f) →
    Completes .forceSet s (fun m => (∃ g, alGet m.task.forces e = some g ∧ g.kind = f.kind ∧ g.addr = f.addr ∧ g.width = f.width ∧
        g.value = f.value) ∧ m.get Reg.SYS_STATE_FORCED = 1 ∧ m.rd8 (s.mod.ringEntry i + 5) = 1 ∧
      m.get Reg.TASK_FORCE_LAST_SEQ = s.mod.rdLE (s.mod.ringEntry i) 4 % 2 ^ 32 ∧
      (∀ a, a ≠ s.mod.ringEntry i + 5 → m.rd8 a = s.mod.rd8 a) ∧ FrameIn [0, 4, 14] [.mem, .task, .lgr, .dbk, .fc] s.mod.fresh m)) ∧
  (∀ (i k : Nat) (s : State), s.mod.nextRequest = some i → (s.mod.rd8 (s.mod.ringEntry i + 4)).toNat = 1 →
    0 < s.mod.task.forceBudget → s.mod.setResult (s.mod.ringForce i) = .error k →
    Completes .forceSet s (fun m => m.task.forces = s.mod.task.forces ∧ m.rd8 (s.mod.ringEntry i + 5) = BitVec.ofNat 8 k ∧
      (k ≠ 1 → Raised s.mod m 0x50 6 0))) ∧
  (∀ (i : Nat) (e : Nat × Force) (s : State), s.mod.nextRequest = some i → (s.mod.rd8 (s.mod.ringEntry i + 4)).toNat = 2 →
    0 < s.mod.task.forceBudget → s.mod.task.forces.find? (fun x => x.2.same (s.mod.ringForce i)) = some e →
    Completes .forceClear s (fun m => m.task.forces = alDel s.mod.task.forces e.1 ∧ m.rd8 (s.mod.ringEntry i + 5) = 1 ∧
      (∀ a, a ≠ s.mod.ringEntry i + 5 → m.rd8 a = s.mod.rd8 a) ∧ FrameIn [0, 4, 14] [.mem, .task, .lgr, .dbk, .fc] s.mod.fresh m)) ∧
  (∀ (i : Nat) (s : State), s.mod.nextRequest = some i → (s.mod.rd8 (s.mod.ringEntry i + 4)).toNat = 3 → 0 < s.mod.task.forceBudget →
    Completes .forceClearAll s (fun m => m.task.forces = [] ∧ m.get Reg.SYS_STATE_FORCED = 0 ∧ m.get Reg.TASK_STATUS_ORPHAN = 0 ∧
      m.rd8 (s.mod.ringEntry i + 5) = 1 ∧ (∀ a, a ≠ s.mod.ringEntry i + 5 → m.rd8 a = s.mod.rd8 a) ∧
      FrameIn [0, 4, 14] [.mem, .task, .lgr, .dbk, .fc] s.mod.fresh m))


/-! ### Power, hold-up, temperature and the resets of the SoC -/

/-- R599, R184, R614, R618: the hold-up follows its transitions, with SUPPLY_INTERRUPTION counted and raised; at LOW, and when
MATE# opens, HOLDUP_LOW is raised and new commits are inhibited with COMMIT_INHIBITED; an overvoltage, and a junction temperature that
rises through its threshold, raise their faults, the latter once. -/
def Obligations.HoldUp : Prop :=
  (∀ (dv : BitVec 12) (s : State), s.mod.get Reg.SYS_HOLDUP_STATE = hoCHARGED ∨ s.mod.get Reg.SYS_HOLDUP_STATE = hoCHARGING →
    Completes (.supplyInterruption dv) s (fun m => m.get Reg.SYS_HOLDUP_STATE = hoDISCHARGING ∧ m.get Reg.SYS_HOLDUP_BANK_DV = dv.toNat ∧
      CountedUp Reg.SYS_HOLDUP_INTERRUPTIONS 0 0 s.mod m ∧ Raised s.mod m 0x170 1 0 ∧
      Frame [Reg.SYS_HOLDUP_STATE.key 0 0, Reg.SYS_HOLDUP_BANK_DV.key 0 0, Reg.SYS_HOLDUP_INTERRUPTIONS.key 0 0] [.fc, .upd] s.mod.fresh m)) ∧
  (∀ (dv : BitVec 12) (s : State), s.mod.get Reg.SYS_HOLDUP_STATE = hoDISCHARGING →
    Completes (.supplyReturn dv) s (fun m => m.get Reg.SYS_HOLDUP_STATE = hoCHARGING ∧ m.get Reg.SYS_HOLDUP_BANK_DV = dv.toNat ∧
      Frame [Reg.SYS_HOLDUP_STATE.key 0 0, Reg.SYS_HOLDUP_BANK_DV.key 0 0] [] s.mod.fresh m)) ∧
  (∀ (dv : BitVec 12) (s : State), s.mod.get Reg.SYS_HOLDUP_STATE = hoCHARGING →
    Completes (.holdupCharged dv) s (fun m => m.get Reg.SYS_HOLDUP_STATE = hoCHARGED ∧ m.get Reg.SYS_HOLDUP_BANK_DV = dv.toNat ∧
      Frame [Reg.SYS_HOLDUP_STATE.key 0 0, Reg.SYS_HOLDUP_BANK_DV.key 0 0] [] s.mod.fresh m)) ∧
  (∀ (dv : BitVec 12) (s : State), s.mod.get Reg.SYS_HOLDUP_STATE = hoDISCHARGING → s.mod.lgr.requests = [] →
    Completes (.holdupLow dv) s (fun m => m.get Reg.SYS_HOLDUP_STATE = hoLOW ∧ m.get Reg.SYS_HOLDUP_BANK_DV = dv.toNat ∧
      m.lgr.inhibited = true ∧ Reported s.mod m 0x171 3 0 ∧ Reported s.mod m 0x60 6 0 ∧
      Frame [Reg.SYS_HOLDUP_STATE.key 0 0, Reg.SYS_HOLDUP_BANK_DV.key 0 0, Reg.LGR_STATUS_STATE.key 0 0] [.fc, .lgr, .env] s.mod.fresh m)) ∧
  (∀ s : State, s.mod.get Reg.SYS_HOLDUP_STATE ≠ hoLOW → s.mod.lgr.requests = [] →
    Completes .mateOpen s (fun m => m.get Reg.SYS_HOLDUP_STATE = hoLOW ∧ m.lgr.inhibited = true ∧ m.env.mateOpen = true ∧
      Reported s.mod m 0x171 3 0 ∧ Reported s.mod m 0x60 6 0 ∧
      Frame [Reg.SYS_HOLDUP_STATE.key 0 0, Reg.LGR_STATUS_STATE.key 0 0] [.fc, .lgr, .env] s.mod.fresh m)) ∧
  (∀ (mv : BitVec 18) (s : State), 165000 < mv.toNat →
    Completes (.supplyOvervoltage mv) s (fun m => Raised s.mod m 0x170 2 0 ∧ Frame [] [.fc] s.mod.fresh m)) ∧
  (∀ (j b : BitVec 8) (s : State), 110 ≤ j.toInt → s.mod.env.overRaised = false →
    Completes (.overtemp j b) s (fun m => Raised s.mod m 0x172 5 0 ∧ m.get Reg.SYS_TEMP_JUNCTION_C = j.toNat ∧
      m.get Reg.SYS_TEMP_BOARD_C = b.toNat ∧ m.env.overRaised = true ∧
      Frame [Reg.SYS_TEMP_JUNCTION_C.key 0 0, Reg.SYS_TEMP_BOARD_C.key 0 0, Reg.SYS_TEMP_PEAK_C.key 0 0] [.fc, .env] s.mod.fresh m)) ∧
  (∀ (j b : BitVec 8) (s : State), 120 ≤ j.toInt → s.mod.env.critRaised = false →
    Completes (.tempCritical j b) s (fun m => Raised s.mod m 0x172 6 0 ∧ m.get Reg.SYS_TEMP_JUNCTION_C = j.toNat ∧
      m.get Reg.SYS_TEMP_BOARD_C = b.toNat ∧ m.env.critRaised = true ∧
      Frame [Reg.SYS_TEMP_JUNCTION_C.key 0 0, Reg.SYS_TEMP_BOARD_C.key 0 0, Reg.SYS_TEMP_PEAK_C.key 0 0] [.fc, .env] s.mod.fresh m)) ∧
  (∀ (j b : BitVec 8) (s : State), s.mod.env.critRaised = true → 115 ≤ j.toInt →
    Completes (.tempCritical j b) s (fun m => m.fc = s.mod.fc ∧ m.env.critRaised = true))

/-- R67, R513, R543, R562, R600, R614: each reset of the SoC leaves BOOT with its own bit of SYS_RESET_CAUSE, every pair in RESET and every
byte outside the MRAM reading 0; the MRAM, the commit number, SAFE_LATCH and the key stay. A power cycle starts the monotonic counter
from 0 and takes module time from the Daybook, and a module reset keeps both. The supply loads the Porters; below 24.0 V, and
while the junction is hot, the module is held. -/
def Obligations.SocResets : Prop :=
  (∀ (who : Initiator) (v : Word32) (s : State), s.mod.mayWrite who 0x40C v.toNat = true → bitsOf v.toNat 0 16 = 0xA5A5 →
    bitOf v.toNat 16 = true → s.mod.unit ≠ stDEBUG →
    Completes (.moduleReset who v) s (fun m => m.resp = some .ok ∧ Restarted Reg.SYS_RESET_CAUSE_CMD s.mod m ∧ m.now = s.mod.now ∧
      m.modTime = s.mod.modTime ∧ m.prt = s.mod.prt)) ∧
  (∀ (mv : BitVec 18) (cap : Nat) (s : State),
    Completes (.supplyOn mv cap false) s (fun m => Restarted Reg.SYS_RESET_CAUSE_POWER_ON s.mod m ∧ m.now = 0 ∧
      m.modTime = s.daybook.time ∧ m.get Reg.SYS_SUPPLY_MV_MV = mv.toNat ∧ m.get Reg.SYS_HOLDUP_STATE = hoCHARGING ∧
      m.get Reg.SYS_HOLDUP_CAP_10UF = cap % 256 ∧ m.get Reg.SYS_HOLDUP_DEGRADED = b2n (cap < 132) ∧
      (∀ b : Side, m.prtState b.val = psLOADING) ∧
      (cap < 132 → ∃ r ∈ m.fc.reports, r.source = 0x171 ∧ r.kind = 4))) ∧
  (∀ (mv : BitVec 18) (cap : Nat) (s : State),
    Completes (.supplyOn mv cap true) s (fun m => m.unit = stBOOT ∧ m.get Reg.SEC_STATUS_TAMPER = 1 ∧
      ∃ r ∈ m.fc.reports, r.source = 0x150 ∧ r.kind = 1)) ∧
  (∀ s : State, s.mod.env.low = true → s.mod.fc.reports = [] → s.mod.dbk.fifo = [] → s.mod.lgr.commit = none →
    Completes .supplyReset s (fun m => Restarted Reg.SYS_RESET_CAUSE_SUPPLY_LOW s.mod m ∧ m.now = 0 ∧ m.modTime = s.daybook.time ∧
      m.prt = s.mod.prt)) ∧
  (∀ s : State, s.mod.unit = stBOOT → s.mod.get Reg.SYS_RESET_CAUSE_SUPPLY_LOW = 1 →
    Completes .hardwareResetLevel s (fun m => m.env.hwHold = true ∧ (∀ b : Side, m.prtState b.val = psRESET) ∧ m.dio = .reset ∧
      m.sec.nonces = [] ∧ FrameIn [7, 12, 17, 18] [.prt, .dio, .sec, .env] s.mod.fresh m)) ∧
  (∀ s : State, s.mod.env.thermalHold = false →
    Completes .thermalReset s (fun m => Restarted Reg.SYS_RESET_CAUSE_THERMAL s.mod m ∧ m.env.thermalHold = true ∧ m.now = 0 ∧
      m.modTime = s.daybook.time ∧ m.prt = s.mod.prt)) ∧
  (∀ s : State, s.mod.env.thermalHold = true →
    Completes .thermalResetRelease s (fun m => m.env.thermalHold = false ∧ m.now = 0 ∧ m.modTime = s.daybook.time ∧
      (∃ r l, m.fc.reports = s.mod.fc.reports ++ r :: l ∧ r.source = 0x172 ∧ r.kind = 7 ∧ r.mono = 0 ∧
        l.length = s.mod.get Reg.SYS_HOLDUP_DEGRADED ∧ ∀ x ∈ l, x.source = 0x171 ∧ x.kind = 4) ∧
      Frame [] [.now, .modTime, .fc, .env, .sec] s.mod.fresh m))

/-! ### Start-up -/

/-- R536, R543: the management core's start brings CONFIG and every pair into its self-test. R535, R538: the start transaction in CONFIG
raises NO_CONFIGURATION without a key, and KEY_INAUTHENTIC beside it with a key that does not authenticate; of an authentic key the
generation of CURRENT is applied, else that of the other slot, and the unit goes to STARTING with the RWL fields locked; with neither
it stays in CONFIG. -/
def Obligations.StartTransaction : Prop :=
  (∀ s : State, s.mod.unit = stBOOT → s.mod.heldInReset = false → s.mod.upd.boot.trial = false → s.mod.cfg.locked = false →
    s.mod.get Reg.UPD_STATE_PHASE ≠ 2 → (∀ p : Pair, s.mod.lstate p.val = lnRESET) →
    Completes .mcFirmwareRunning s (fun m => m.unit = stCONFIG ∧ (∀ p : Pair, m.lstate p.val = lnSELFTEST) ∧
      FrameIn [0, 2, 11, 12, 14] [.out, .fc, .dbk, .lgr, .lbb, .dio] s.mod.fresh m)) ∧
  (∀ s : State, s.mod.unit = stCONFIG → s.mod.cfg.key = none →
    Completes .startTransactionCommit s (fun m => m.unit = stCONFIG ∧ Raised s.mod m 0x130 9 0 ∧ m.get Reg.CFG_KEY_STATUS_PRESENT = 0 ∧
      FrameIn [15] [.fc] s.mod.fresh m)) ∧
  (∀ (k : TallyKey) (s : State), s.mod.unit = stCONFIG → s.mod.cfg.key = some k → k.authentic = false → s.mod.upd.boot.trial = false →
    Completes .startTransactionCommit s (fun m => m.unit = stCONFIG ∧ Reported s.mod m 0x130 7 0 ∧ Reported s.mod m 0x130 9 0 ∧
      m.get Reg.CFG_KEY_STATUS_PRESENT = 1 ∧ m.get Reg.CFG_KEY_STATUS_AUTH_OK = 0 ∧ FrameIn [15] [.fc] s.mod.fresh m)) ∧
  (∀ (k : TallyKey) (s : State), s.mod.unit = stCONFIG → s.mod.cfg.key = some k → k.authentic = true → s.mod.upd.boot.trial = false →
    s.mod.upd.boot.fallingBack = false →
    Completes .startTransactionCommit s (fun m =>
      (∀ v g, s.mod.pickGen k = some (v, g) → m.unit = stSTARTING ∧ m.cfg.locked = true ∧ m.cfg.gen = some g ∧
        m.cfg.startGen = g.number ∧ m.cfg.startSerial = k.serial ∧ m.get Reg.CYC_STATUS_ROLE = cyLISTENING) ∧
      (s.mod.pickGen k = none → m.unit = stCONFIG ∧ Reported s.mod m 0x130 9 0 ∧ FrameIn [15] [.fc] s.mod.fresh m)))

/-- R186, R542: the restore takes the map record of the highest COMMIT and brings back what its copies hold, byte for byte, or starts
cold with LEDGER_COLD where no record is valid; the inputs read 0. The final state of the start is the first one of R542 that
applies, and on entering RUN_ACTIVE every waiting pair runs. -/
def Obligations.RestoreAndFinalState : Prop :=
  (∀ s : State, s.mod.unit = stSTARTING → s.mod.lgr.restored = false → s.mod.selftestsDone = true →
    s.mod.upd.boot.fallingBack = false → s.mod.selectedMap = none →
    Completes .ledgerRestore s (fun m => m.lgr.restored = true ∧ m.lgr.current = none ∧ Reported s.mod m 0x60 2 0 ∧
      m.get Reg.LGR_STATUS_COLD = 1 ∧ (∀ a, a < 0x20000 → m.rd8 (inBank 0 + a) = 0))) ∧
  (∀ (slot : Nat) (r : MapRec) (s : State), s.mod.unit = stSTARTING → s.mod.lgr.restored = false → s.mod.selftestsDone = true →
    s.mod.upd.boot.fallingBack = false → s.mod.upd.boot.trial = false → s.mod.readsRecord = true → s.mod.selectedMap = some (slot, r) →
    slot < 8 →
    Completes .ledgerRestore s (fun m => m.lgr.restored = true ∧ m.lgr.current = some r ∧ m.get Reg.LGR_STATUS_COLD = 0 ∧
      m.get Reg.LGR_SLOT_SLOT = slot ∧ (∀ a, a < 0x20000 → m.rd8 (inBank 0 + a) = 0) ∧
      (s.mod.triad = false → s.mod.layoutChanged r = [] → s.mod.badSpaces (some r) = [] →
        ∀ (p : Pair) (g i c : Nat), s.mod.split p.val = false → g < 2048 → i < 256 → alGet r.copies (2048 * p.val + g) = some c →
          m.rd8 (stateBase p.val + 256 * g + i) = s.mod.rd8 (copyAddr c (2048 * p.val + g) + i)))) ∧
  (∀ s : State, s.mod.unit = stSTARTING → s.mod.lgr.restored = true → s.mod.get Reg.UPD_STATE_STATE ≠ 2 →
    (s.mod.triad = false ∨ s.mod.task.table = none) →
    Completes .startupFinalState s (fun m => m.unit =
        (if s.mod.lgr.safeLatch = true ∧ s.mod.hasTwin = true then stSURRENDERED
         else if s.mod.lgr.safeLatch = true ∨ s.mod.cfg.safeAtStart = true ∨ s.mod.twn.conflict = true ∨ s.mod.failedBarsStart = true then
           stSAFE
         else if s.mod.hasTwin = true ∧ s.mod.cyc.foreignPoll = true then stSTANDBY
         else if s.mod.cycRole = cyMASTER ∧ s.mod.cycleIndex = 0 then stACTIVE else stSTARTING) ∧
      (m.unit = stACTIVE → ∀ p : Pair, s.mod.split p.val = false → s.mod.lstate p.val = lnIDLE → m.lstate p.val = lnRUN)))

/-! ### The twin -/

/-- R338 to R340, R344, R191: a heartbeat of the peer resets its age and shows its state, a standby takes CURRENT from it, and one that
carries the unit's own UNIT raises UNIT_CONFLICT; a Porter's status message hands its faults to the collector with PEER set; a lane
that fails, and HB_LIMIT cycles without a heartbeat, raise their faults, and the mirror has no peer then. -/
def Obligations.TwinMessages : Prop :=
  (∀ (lane : Fin 2) (b : Heartbeat) (s : State), s.mod.hasTwin = true → b.unit ≠ s.mod.ownNode →
    Completes (.heartbeatReceived lane b) s (fun m => m.get Reg.TWN_HEARTBEAT_AGE_LINK_AGE = 0 ∧ m.get Reg.TWN_STATUS_PEER_PRESENT = 1 ∧
      m.get Reg.TWN_STATUS_LINK_LOST = 0 ∧ m.get Reg.TWN_STATUS_PEER_STATE = b.state % 16 ∧ m.get (laneOk lane.val) = 1 ∧
      m.twn.peerCommit = b.commit ∧
      ((s.mod.role = rlSTANDBY ∨ s.mod.role = rlCLAIMING) → m.get Reg.TWN_STATUS_CURRENT = b2n b.sync) ∧
      FrameIn [5, 8] [.out, .fc, .lgr, .twn] s.mod.fresh m)) ∧
  (∀ (lane : Fin 2) (b : Heartbeat) (s : State), s.mod.hasTwin = true → b.unit = s.mod.ownNode → s.mod.twn.conflict = false →
    Completes (.heartbeatReceived lane b) s (fun m => m.twn.conflict = true ∧ Raised s.mod m 0xD0 9 0 ∧ m.get (laneOk lane.val) = 1 ∧
      Frame [(laneOk lane.val).key 0 0] [.fc, .twn] s.mod.fresh m)) ∧
  (∀ (lane : Fin 2) (b : PorterStatusMsg) (s : State), s.mod.hasTwin = true →
    Completes (.porterStatusReceived lane b) s (fun m => m.get (laneOk lane.val) = 1 ∧
      m.fc.reports = s.mod.fc.reports ++ b.faults.map (fun w => s.mod.stamp (bitsOf w.toNat 54 10) (bitsOf w.toNat 46 8)
        (bitsOf w.toNat 40 2) true (bitsOf w.toNat 0 40) []) ∧
      (s.mod.get Reg.PRT_CTL_MODE lane.val = 1 → m.twn.peerPrt = b.prtStatus ∧ m.twn.peerExcluded = b.excluded) ∧
      Frame [(laneOk lane.val).key 0 0] [.fc, .twn] s.mod.fresh m)) ∧
  (∀ (lane : Fin 2) (s : State), s.mod.hasTwin = true →
    Completes (.laneDown lane) s (fun m => m.get (laneOk lane.val) = 0 ∧ Raised s.mod m (0xD1 + lane.val) 2 0 ∧
      Frame [(laneOk lane.val).key 0 0] [.fc] s.mod.fresh m)) ∧
  (∀ s : State, s.mod.hasTwin = true → s.mod.get Reg.TWN_STATUS_LINK_LOST = 0 →
    s.mod.get Reg.TWN_CTL_HB_LIMIT ≤ s.mod.get Reg.TWN_HEARTBEAT_AGE_LINK_AGE →
    Completes .twinLinkLost s (fun m => m.get Reg.TWN_STATUS_LINK_LOST = 1 ∧ m.get Reg.TWN_STATUS_PEER_PRESENT = 0 ∧
      Raised s.mod m 0xD0 1 0 ∧ m.get Reg.LGR_STATUS_MIRROR ≠ miFULL ∧ m.get Reg.LGR_STATUS_MIRROR ≠ miSYNC ∧
      FrameIn [5, 8] [.fc, .lgr] s.mod.fresh m))

/-- R341, R342, R345 to R349: in its claim slot a standby sends PRESENT or, while it claims, TAKE on both channels and counts it; a unit
that gives up sends SURRENDER. A surrender of the peer, or two cycles without a group 0 poll, make a standby that is CURRENT claim,
and raise CLAIM_WITHHELD on one that is neither CURRENT nor allowed to take over stale; 8 cycles without a poll end the claim. -/
def Obligations.Claims : Prop :=
  (∀ s : State, s.mod.hasTwin = true → s.mod.twn.surrender = none → s.mod.unit = stSTANDBY → s.mod.role ≠ rlCLAIMING →
    Completes .claimSlot s (fun m => m.out = [0, 1].map (fun ch => Out.frame ch s.mod.ownNode 0x3FF s.mod.caseNow s.mod.cycle
        (.claim (s.mod.claimBody false))) ∧ Frame [] [.out] s.mod.fresh m)) ∧
  (∀ s : State, s.mod.hasTwin = true → s.mod.twn.surrender = none → s.mod.unit = stSTANDBY → s.mod.role = rlCLAIMING →
    s.mod.twn.claimNextCycle = false →
    Completes .claimSlot s (fun m => CountedUp Reg.TWN_STATUS_CLAIMS 0 0 s.mod m ∧
      m.out = [0, 1].map (fun ch => Out.frame ch s.mod.ownNode 0x3FF s.mod.caseNow s.mod.cycle (.claim (s.mod.claimBody true))) ∧
      Frame [Reg.TWN_STATUS_CLAIMS.key 0 0] [.out] s.mod.fresh m)) ∧
  (∀ (r : Nat) (s : State), s.mod.hasTwin = true → s.mod.twn.surrender = some r → r ≠ 2 →
    Completes .claimSlot s (fun m => m.twn.surrender = none ∧
      m.out = [0, 1].map (fun ch => Out.frame ch s.mod.ownNode 0x3FF s.mod.caseNow s.mod.cycle
        (.surrender ⟨s.mod.ownNode, r, s.mod.twn.pollSeen, s.mod.lgr.commits⟩)) ∧ Frame [] [.out, .twn] s.mod.fresh m)) ∧
  (∀ (ch : Side) (b : SurrenderBody) (early : Bool) (s : State), s.mod.hasTwin = true → s.mod.unit = stSTANDBY → s.mod.role = rlSTANDBY →
    b.unit + s.mod.ownNode = 3 → s.mod.twn.surrenderSeen ≠ some s.mod.cycle →
    Completes (.surrenderReceived ch b early) s (fun m => Reported s.mod m 0xD0 6 0 ∧
      ((s.mod.get Reg.TWN_STATUS_CURRENT = 1 ∨ s.mod.get Reg.TWN_CTL_STALE_TAKEOVER = 1) → m.role = rlCLAIMING ∧
        m.get Reg.TWN_STATUS_CLAIMS = 0 ∧
        m.twn.claiming = some (if b.reason = 2 then pathSWAP else if early = true ∧ s.mod.ownNode = 2 then pathSAME else pathSURRENDER)) ∧
      (s.mod.get Reg.TWN_STATUS_CURRENT = 0 → s.mod.get Reg.TWN_CTL_STALE_TAKEOVER = 0 → Reported s.mod m 0xD0 5 0 ∧
        Frame [] [.fc, .twn] s.mod.fresh m))) ∧
  (∀ s : State, s.mod.hasTwin = true → s.mod.unit = stSTANDBY → s.mod.role = rlSTANDBY → s.mod.twn.polledNow = false →
    1 ≤ s.mod.twn.pollAge →
    Completes .pollAbsence s (fun m =>
      ((s.mod.get Reg.TWN_STATUS_CURRENT = 1 ∨ s.mod.get Reg.TWN_CTL_STALE_TAKEOVER = 1) → m.role = rlCLAIMING ∧
        m.get Reg.TWN_STATUS_CLAIMS = 0 ∧ m.twn.claiming = some pathSILENT) ∧
      (s.mod.get Reg.TWN_STATUS_CURRENT = 0 → s.mod.get Reg.TWN_CTL_STALE_TAKEOVER = 0 → Raised s.mod m 0xD0 5 0 ∧
        Frame [] [.fc] s.mod.fresh m))) ∧
  (∀ s : State, s.mod.unit = stSTANDBY → s.mod.role = rlCLAIMING → s.mod.twn.polledNow = false → 7 ≤ s.mod.twn.pollAge →
    Completes .claimAbandon s (fun m => m.role = rlSTANDBY ∧ m.twn.claiming = none ∧ m.get Reg.CYC_STATUS_ROLE = cyLISTENING ∧
      Frame [Reg.TWN_STATUS_ROLE.key 0 0, Reg.SYS_STATE_ROLE.key 0 0, Reg.CYC_STATUS_ROLE.key 0 0] [.twn, .cyc] s.mod.fresh m))

/-- R351, R355, R356: a granted claim makes the standby RUN_ACTIVE and the active twin, with TAKEOVER raised, and starts the restore of
its pairs; at its end they run. A swap request is accepted or refused with its code; the accepted swap, once every release is
committed and mirrored, hands over in the claim slot, where the unit becomes RUN_STANDBY and its pairs go into reset; past its
time it is refused with code 6. -/
def Obligations.TakeoverAndSwap : Prop :=
  (∀ (path : Nat) (s : State), s.mod.granted = some path → s.mod.unit = stSTANDBY →
    Completes .claimGrant s (fun m => m.unit = stACTIVE ∧ m.role = rlACTIVE ∧ m.twn.takingOver = true ∧ m.cyc.masterNext = true ∧
      CountedUp Reg.TWN_TAKEOVER_COUNT 0 0 s.mod m ∧ m.get Reg.TWN_TAKEOVER_PATH = path % 2 ^ Reg.TWN_TAKEOVER_PATH.width ∧
      Reported s.mod m 0xD0 3 0 ∧
      (∀ p : Pair, s.mod.split p.val = false → s.mod.lstate p.val = lnIDLE → m.lstate p.val = lnRESTORE))) ∧
  (∀ s : State, s.mod.twn.takingOver = true → s.mod.unit = stACTIVE →
    (∀ p ∈ s.mod.lockstepPairs, s.mod.lstate p ≠ lnSELFTEST) → (s.mod.triad = false ∨ s.mod.task.table = none) →
    Completes .takeoverRestoreComplete s (fun m => m.twn.takingOver = false ∧ m.twn.claiming = none ∧
      m.get Reg.TWN_TAKEOVER_US = min 0xFFFFF ((s.mod.now - s.mod.twn.refMono) / 1000) ∧
      (s.mod.twn.claiming = some pathSWAP → Reported s.mod m 0xD0 7 0) ∧
      (∀ p : Pair, s.mod.split p.val = false → (s.mod.lstate p.val = lnIDLE ∨ s.mod.lstate p.val = lnRESTORE ∧
        ∃ r, (s.mod.lane p.val).restart = some r ∧ r.takeover = true) → m.lstate p.val = lnRUN))) ∧
  (∀ (who : Initiator) (v : Word32) (s : State), s.mod.mayWrite who 0x80000 v.toNat = true → Settled s.mod who 0x80000 v.toNat →
    bitOf v.toNat 1 = true →
    Completes (.swap who v) s (fun m => m.resp = some .ok ∧
      (s.mod.swapCode = none → m.twn.swap = some (0, false) ∧ m.get Reg.TWN_CTL_SWAP = 1 ∧
        Frame [Reg.TWN_CTL_SWAP.key 0 0] [.resp, .twn] s.mod.fresh m) ∧
      (∀ c, s.mod.swapCode = some c → m.get Reg.TWN_STATUS_SWAP_REFUSE = c ∧ Raised s.mod m 0xD0 8 0 ∧
        Frame [Reg.TWN_STATUS_SWAP_REFUSE.key 0 0] [.resp, .fc] s.mod.fresh m))) ∧
  (∀ (n : Nat) (s : State), s.mod.twn.swap = some (n, true) → s.mod.twn.swapSent = false → s.mod.quiet = true →
    s.mod.get Reg.LGR_MIRROR_LAG_LAG = 0 →
    Completes .swapQuiesced s (fun m => m.twn.swapSent = true ∧ m.twn.surrender = some 2 ∧ Frame [] [.twn] s.mod.fresh m)) ∧
  (∀ s : State, s.mod.hasTwin = true → s.mod.twn.surrender = some 2 → s.mod.unit = stACTIVE → s.mod.upd.fallbackDue = none →
    Completes .claimSlot s (fun m => m.unit = stSTANDBY ∧ m.role = rlSTANDBY ∧ m.get Reg.CYC_STATUS_ROLE = cySTANDBY ∧
      m.get Reg.LGR_STATUS_MIRROR = miRECEIVING ∧ m.task.releases = [] ∧
      (∀ ch ∈ [0, 1], Out.frame ch s.mod.ownNode 0x3FF s.mod.caseNow s.mod.cycle
        (.surrender ⟨s.mod.ownNode, 2, s.mod.twn.pollSeen, s.mod.lgr.commits⟩) ∈ m.out) ∧
      (∀ p : Pair, m.lstate p.val = if s.mod.lstate p.val = lnFAILED then lnFAILED else lnRESET))) ∧
  (∀ (n : Nat) (s : State), s.mod.twn.swap = some (n, true) → s.mod.twn.swapSent = false → 4 ≤ n → s.mod.upd.fallbackDue = none →
    (s.mod.triad = false ∨ s.mod.task.table = none) →
    Completes .swapTimeout s (fun m => m.twn.swap = none ∧ m.get Reg.TWN_CTL_SWAP = 0 ∧ m.get Reg.TWN_STATUS_SWAP_REFUSE = 6 ∧
      Reported s.mod m 0xD0 8 0 ∧ m.unit = s.mod.unit))

/-! ### The cycle network -/

/-- R30, R243, R338, R515: a basic cycle start gives the cycle its number, from a master at once and from a follower unless the poll of this
cycle has given it already; the supply of the passed cycle shows, a pending step of module time takes effect, and a twin's heartbeats
go out on both lanes. R240, R244: a poll of groups 1 to 7 goes out on every channel whose table has it in this cycle, and an output slot
sends the records of its data sets. -/
def Obligations.CycleStartAndSlots : Prop :=
  (∀ (mv : BitVec 18) (s : State), s.mod.cyc.started = true → s.mod.cyc.masterNext = false →
    (s.mod.mastering = true ∨ s.mod.bcQ * 250000 ≤ 2 * (s.mod.now - s.mod.cyc.cycleStart)) → s.mod.upd.fallbackDue = none →
    s.mod.updState ≠ upTRIAL →
    Completes (.basicCycleStart mv) s (fun m => m.cycle = s.mod.cycleAfter s.mod.cycle 1 % 2 ^ 32 ∧ m.cyc.cycleStart = s.mod.now ∧
      m.get Reg.SYS_SUPPLY_MV_MV = mv.toNat ∧
      (s.mod.get Reg.TIM_CTL_STEP = 1 → m.get Reg.TIM_CTL_STEP = 0 ∧ m.get Reg.TIM_CTL_VALID = 1) ∧
      (s.mod.hasTwin = true → s.mod.cfg.atCycle = [] → s.mod.cfg.atMacro = [] →
        ∀ l ∈ [0, 1], ∃ b, Out.heartbeat l b ∈ m.out ∧ b.cycle = m.cycle))) ∧
  (∀ (mv : BitVec 18) (s : State), s.mod.cyc.started = false → s.mod.cyc.masterNext = false →
    Completes (.basicCycleStart mv) s (fun m => Frame [] [] s.mod.fresh m)) ∧
  (∀ (g : Fin 8) (s : State), g.val ≠ 0 →
    Completes (.groupPoll g) s (fun m =>
      m.out = ([0, 1].filter (fun ch => s.mod.sends ch &&
        (s.mod.tableNow ch).any (fun t => t.entries.any (fun e => e.type == 1 && e.group == g.val && e.index == s.mod.cycleIndex)))).map
        (fun ch => Out.frame ch s.mod.ownNode 0x3FF s.mod.caseNow s.mod.cycle (.poll (s.mod.pollBody ch g.val))) ∧
      Frame [] [.out] s.mod.fresh m)) ∧
  (∀ (ch : Side) (e : Nat) (x : SchedEntry) (s : State), s.mod.entryNow (s.mod.tableNow ch.val) e = some x → s.mod.sends ch.val = true →
    x.type = 2 → x.node = 0 → (∃ n ∈ x.sets, ∃ d, s.mod.ds n = some d ∧ d.outbound = true) →
    Completes (.outputSlot ch e) s (fun m =>
      m.out = [.frame ch.val s.mod.ownNode 0x3FF s.mod.caseNow s.mod.cycle
        (.data (((x.sets.filterMap s.mod.ds).filter (·.outbound)).map s.mod.dsRecord))] ∧ Frame [] [.out] s.mod.fresh m))

/-- R238, R241, R254, R258: a record that arrives intact in its slot is the data set's value, FRESH and valid as its producer says; one
with a wrong check is dropped with DATA_CHECK, and a frame of another cycle or case is discarded; a due time that passes without a
record counts and, at MISS_LIMIT, substitutes; ADMIT_WAIT substitutes what never came. The exchange with the island brings its
snapshot into the LOCAL inbound set and delivers the LOCAL outbound one, or misses. -/
def Obligations.InboundData : Prop :=
  (∀ (ch : Side) (e w : Nat) (h : FrameHdr) (r : DsRecord) (err : Int) (x : SchedEntry) (d : DsDesc) (s : State), s.mod.copies = true →
    s.mod.entryNow (s.mod.tableNow ch.val) e = some x → x.type = 2 → x.node ≠ 0 → x.sets = [w] → w < 1024 → s.mod.ds w = some d → d.ds = w →
    d.outbound = false → d.arrival = false → s.mod.discards h ch.val = false → h.subtype = 2 →
    (s.mod.mastering = false ∨ s.mod.isNamed x.node = false) → r.ds = w → r.len = d.len → r.payload.length = d.len →
    r.dchk = dchk r.ds h.src h.cycle r.payload →
    Completes (.dataFrameReceived ch e h [r] err) s (fun m => m.dsStatus w = b2n (bitOf r.pstatus 0) + stFRESH ∧
      alGet m.cyc.payloads w = some r.payload ∧ m.missesOf w = 0 ∧ w ∈ m.cyc.arrived ∧ Frame [] [.mem, .cyc, .twn] s.mod.fresh m)) ∧
  (∀ (ch : Side) (e w : Nat) (h : FrameHdr) (r : DsRecord) (err : Int) (x : SchedEntry) (d : DsDesc) (s : State), s.mod.copies = true →
    s.mod.entryNow (s.mod.tableNow ch.val) e = some x → x.type = 2 → x.node ≠ 0 → x.sets = [w] → s.mod.ds w = some d →
    d.outbound = false → s.mod.discards h ch.val = false → h.subtype = 2 → w ∉ s.mod.cyc.arrived →
    (s.mod.mastering = false ∨ s.mod.isNamed x.node = false) → r.ds = w → r.len = d.len → r.payload.length = d.len →
    r.dchk ≠ dchk r.ds h.src h.cycle r.payload →
    Completes (.dataFrameReceived ch e h [r] err) s (fun m => CountedUp Reg.CYC_ERRORS_DCHK 0 0 s.mod m ∧ Raised s.mod m 0x73 8 0 ∧
      Frame [Reg.CYC_ERRORS_DCHK.key 0 0] [.fc, .twn] s.mod.fresh m)) ∧
  (∀ (ch : Side) (e : Nat) (h : FrameHdr) (rs : List DsRecord) (err : Int) (x : SchedEntry) (s : State), s.mod.copies = true →
    s.mod.entryNow (s.mod.tableNow ch.val) e = some x → x.type = 2 → x.node ≠ 0 → s.mod.discards h ch.val = true →
    Completes (.dataFrameReceived ch e h rs err) s (fun m => CountedUp Reg.CYC_ERRORS_DISCARDS 0 0 s.mod m ∧
      Raised s.mod m (0x71 + ch.val) 7 0 ∧ Frame [Reg.CYC_ERRORS_DISCARDS.key 0 0] [.fc, .twn] s.mod.fresh m)) ∧
  (∀ (ch : Side) (e w : Nat) (x : SchedEntry) (d : DsDesc) (s : State), s.mod.copies = true →
    s.mod.entryNow (s.mod.dueTable ch.val) e = some x → x.type = 2 → x.node ≠ 0 → x.sets = [w] → w < 1024 → s.mod.ds w = some d → d.ds = w →
    d.outbound = false → w ∉ s.mod.cyc.stale → w ∉ s.mod.cyc.arrived → (s.mod.mastering = false ∨ s.mod.isNamed x.node = false) →
    s.mod.missesOf w < d.missLimit →
    Completes (.dueTime ch e) s (fun m => CountedUp Reg.CYC_MISSES_TOTAL 0 0 s.mod m ∧ m.missesOf w = s.mod.missesOf w + 1 ∧
      m.dsStatus w = (if s.mod.missesOf w + 1 = d.missLimit then stVALID + stSUBST + keepBits (s.mod.dsStatus w) stSTALE
        else keepBits (s.mod.dsStatus w) 21) ∧
      Frame [Reg.CYC_MISSES_TOTAL.key 0 0] [.mem, .cyc] s.mod.fresh m)) ∧
  (∀ (d : DsDesc) (s : State), s.mod.unit = stACTIVE → s.mod.cyc.admitDone = false → s.mod.inbound = [d] → d.ds < 1024 →
    s.mod.ds d.ds = some d → s.mod.dsStatus d.ds = 0 →
    Completes .admitWaitExpiry s (fun m => m.cyc.admitDone = true ∧ m.dsStatus d.ds = stVALID + stSUBST ∧
      alGet m.cyc.payloads d.ds = some d.subst ∧ Frame [] [.mem, .cyc] s.mod.fresh m)) ∧
  (∀ (d : DsDesc) (s : State), s.mod.copies = true → s.mod.localSet false = some d →
    Completes (.localExchange false) s (fun m => m.get Reg.DIO_STATUS_LINK = 0 ∧ CountedUp Reg.CYC_MISSES_TOTAL 0 0 s.mod m ∧
      Frame [Reg.DIO_STATUS_LINK.key 0 0, Reg.CYC_MISSES_TOTAL.key 0 0] [.mem, .cyc] s.mod.fresh m)) ∧
  (∀ (d : DsDesc) (s : State), s.mod.copies = true → s.mod.localSet false = some d → d.ds < 1024 → s.mod.ds d.ds = some d →
    s.mod.get Reg.DIO_CTL_ENABLE = 1 →
    Completes (.localExchange true) s (fun m => m.get Reg.DIO_STATUS_LINK = 1 ∧ m.dsStatus d.ds = stVALID + stFRESH ∧
      alGet m.cyc.payloads d.ds = some s.mod.dioSnapshot ∧ m.dio.edges = 0 ∧
      ((∃ o, s.mod.localSet true = some o) → s.mod.mastering = true → m.dio.delivered = true) ∧
      FrameIn [12] [.mem, .cyc, .dio, .fc] s.mod.fresh m))

/-- R234, R238, R251, R259 to R262, R265, R267, R273: a channel's loss and return are raised and shown, the loss of both ends the output,
and the master decides the fallback two cycles on or, as AUTO_RETURN and RETURN say, the return at a macrocycle start; the master
decides a selected case that the directory holds; a module that listens or stands by takes cycle, case and kind from a poll. -/
def Obligations.ChannelsAndCases : Prop :=
  (∀ (ch : Side) (s : State), s.mod.cyc.channels.length = 2 → (s.mod.chan ch.val).lost = false →
    Completes (.channelLost ch) s (fun m => (m.chan ch.val).lost = true ∧ Reported s.mod m (0x71 + ch.val) 5 0 ∧
      m.get (if ch.val = 0 then Reg.CYC_STATUS_CH_A_OK else Reg.CYC_STATUS_CH_B_OK) = 0 ∧
      ((s.mod.chan (1 - ch.val)).lost = true → m.cyc.bothLost = true ∧ Reported s.mod m 0x70 4 0) ∧
      ((s.mod.chan (1 - ch.val)).lost = false → s.mod.mastering = true → ∃ x, m.cyc.decided = some x ∧ x.kind = kindFor ch.val ∧
        x.case_ = s.mod.caseNow ∧ x.cycle = s.mod.fallbackCycle) ∧
      FrameIn [6] [.cyc, .fc] s.mod.fresh m)) ∧
  (∀ (ch : Side) (s : State), s.mod.cyc.channels.length = 2 → (s.mod.chan ch.val).lost = true → s.mod.chanForced ch.val = false →
    Completes (.channelRestored ch) s (fun m => (m.chan ch.val).lost = false ∧ Raised s.mod m (0x71 + ch.val) 6 0 ∧
      m.get (if ch.val = 0 then Reg.CYC_STATUS_CH_A_OK else Reg.CYC_STATUS_CH_B_OK) = 1 ∧ m.cyc.bothLost = false ∧
      (s.mod.cyc.bothLost = false → (s.mod.chan (1 - ch.val)).lost = false → s.mod.mastering = true →
        s.mod.get Reg.CYC_CTL_AUTO_RETURN = 1 → s.mod.kindNow ≠ 0 →
        ∃ x, m.cyc.decided = some x ∧ x.kind = 0 ∧ x.cycle = s.mod.macroAfter s.mod.cycle 2) ∧
      FrameIn [6] [.cyc, .fc] s.mod.fresh m)) ∧
  (∀ (who : Initiator) (v : Word32) (s : State), s.mod.mayWrite who 0x60000 v.toNat = true → Settled s.mod who 0x60000 v.toNat →
    bitOf v.toNat 5 = true → s.mod.mastering = true → s.mod.get Reg.CYC_CTL_AUTO_RETURN = 0 → s.mod.kindNow ≠ 0 →
    (∀ c ∈ s.mod.cyc.channels, c.lost = false) →
    Completes (.return_ who v) s (fun m => m.resp = some .ok ∧ (∃ x, m.cyc.decided = some x ∧ x.kind = 0 ∧ x.case_ = s.mod.caseNow ∧
      x.cycle = s.mod.macroAfter s.mod.cycle 2) ∧ FrameIn [6] [.resp, .cyc] s.mod.fresh m)) ∧
  (∀ (who : Initiator) (v : Word32) (s : State), s.mod.mayWrite who 0x6000C v.toNat = true → s.mod.get Reg.CYC_SCHED_SELECT_PENDING = 0 →
    Completes (.schedSelect who v) s (fun m => m.resp = some .ok ∧ m.get Reg.CYC_SCHED_SELECT_CASE = bitsOf v.toNat 0 5 ∧
      (((s.mod.cyc.dir.map (fun d => d.cases.length)).getD 0 ≤ bitsOf v.toNat 0 5) → m.cyc = s.mod.cyc) ∧
      (bitsOf v.toNat 0 5 < (s.mod.cyc.dir.map (fun d => d.cases.length)).getD 0 → m.get Reg.CYC_SCHED_SELECT_PENDING = 1 ∧
        (s.mod.mastering = true → s.mod.cyc.announce = none → s.mod.cyc.decided = none → ∃ x, m.cyc.decided = some x ∧
          x.case_ = bitsOf v.toNat 0 5 ∧ x.isCase = true ∧ x.cycle = s.mod.macroAfter s.mod.cycle 2)) ∧
      FrameIn [6] [.resp, .cyc] s.mod.fresh m)) ∧
  (∀ (who : Initiator) (v : Word32) (s : State), s.mod.mayWrite who 0x6000C v.toNat = true → s.mod.get Reg.CYC_SCHED_SELECT_PENDING = 1 →
    Completes (.schedSelect who v) s (fun m => m.resp = some .busError ∧ Frame [] [.resp] s.mod.fresh m)) ∧
  (∀ (ch : Side) (port : Port) (h : FrameHdr) (b : PollBody) (s : State), s.mod.cycRole = cyLISTENING ∨ s.mod.cycRole = cySTANDBY →
    port.val ≠ 24 → port.val ≠ 25 → frameWellFormed h ch.val = true → h.subtype = 1 → h.case_ < 32 → h.cycle < 2 ^ 32 → b.fallback < 3 →
    Completes (.masterPollReceived ch port h b) s (fun m => m.caseNow = h.case_ ∧ m.kindNow = b.fallback ∧
      (b.group = 0 → m.cycle = h.cycle) ∧ (b.group ≠ 0 → m.cycle = s.mod.cycle) ∧ m.cyc.foreignPoll = true ∧
      (b.nextCycle = 0xFFFFFFFF → m.cyc.announce = none) ∧
      (b.nextCycle ≠ 0xFFFFFFFF → ∃ a, m.cyc.announce = some a ∧ a.case_ = b.nextCase ∧ a.kind = b.nextKind ∧ a.cycle = b.nextCycle))) ∧
  (∀ (ch : Side) (port : Port) (h : FrameHdr) (b : PollBody) (s : State), frameWellFormed h ch.val = false ∨ h.subtype ≠ 1 →
    Completes (.masterPollReceived ch port h b) s (fun m => CountedUp Reg.CYC_ERRORS_DISCARDS 0 0 s.mod m ∧
      Raised s.mod m (0x71 + ch.val) 7 0 ∧ Frame [Reg.CYC_ERRORS_DISCARDS.key 0 0] [.fc, .twn] s.mod.fresh m)) ∧
  (∀ s : State, s.mod.mastering = true → s.mod.cyc.leaderSet = true →
    Completes .timeLeaderLost s (fun m => m.get Reg.CYC_STATUS_SYNC_LOCKED = 0 ∧ Raised s.mod m 0x74 11 0 ∧
      Frame [Reg.CYC_STATUS_SYNC_LOCKED.key 0 0] [.fc] s.mod.fresh m))

/-- R309, R312 to R317: a master admits the node whose certificate hash the node table holds at that port, and raises the port's fault on
an unknown one and on one that breaks its limits; the exchange of lists follows the links; three windows without a change agree and
raise INAUGURATION_COMPLETE; the timeout falls back to case 0; a listening module replies on both channels. -/
def Obligations.DiscoveryAndInauguration : Prop :=
  (∀ (ch : Side) (port : Port) (h : FrameHdr) (b : ReplyBody) (e : NodeEntry) (s : State), s.mod.mastering = true →
    s.mod.discards h ch.val = false → h.subtype = 3 →
    s.mod.cyc.nodes.find? (fun e => e.idHash == b.idHash && e.port ch.val == port.val) = some e → b.linkDelay ≠ 0xFFFFFFFF →
    b.linkDelay ≤ e.maxDelay → b.ratePpb.natAbs ≤ 200000 → bitOf e.cases s.mod.caseNow = true → b.node = e.node ∨ b.node = 0x3FF →
    Completes (.discoveryReply ch port h b) s (fun m => (m.node e.node).isSome = true ∧
      (s.mod.node e.node = none → m.get Reg.CYC_STATUS_ADMITTED = m.cyc.nodeStates.length % 2 ^ 11 ∧
        m.cyc.nodeStates.length = s.mod.cyc.nodeStates.length + 1) ∧ FrameIn [6] [.cyc] s.mod.fresh m)) ∧
  (∀ (ch : Side) (port : Port) (h : FrameHdr) (b : ReplyBody) (s : State), s.mod.mastering = true →
    s.mod.discards h ch.val = false → h.subtype = 3 →
    s.mod.cyc.nodes.find? (fun e => e.idHash == b.idHash && e.port ch.val == port.val) = none →
    Completes (.discoveryReply ch port h b) s (fun m => Raised s.mod m (portSource ch.val port.val) 5 0 ∧ Frame [] [.fc] s.mod.fresh m)) ∧
  (∀ (ch : Side) (rear : Bool) (b : InaugBody) (delay : Nat) (s : State), s.mod.mastering = true → s.mod.inaug.stable < 3 →
    Completes (.inauguration ch rear b delay) s (fun m =>
      m.inaug.lists = updAt s.mod.inaug.lists (2 * ch.val + b2n rear) (fun _ => b.list) ∧ m.inaug.view = m.inaugView ∧
      (m.inaug.view ≠ s.mod.inaug.view → m.inaug.stable = 0 ∧ m.inaug.agreed = false ∧ m.inaug.running = true) ∧
      Frame [] [.inaug, .cyc] s.mod.fresh m)) ∧
  (∀ s : State, s.mod.mastering = true → s.mod.inaug.running = true →
    Completes .inaugurationTimeout s (fun m => m.inaug.running = false ∧ Raised s.mod m (prtControl 0) 11 0 ∧
      m.get Reg.CYC_SCHED_SELECT_CASE = 0 ∧ FrameIn [6] [.cyc, .fc, .inaug] s.mod.fresh m)) ∧
  (∀ (ch : Side) (rear up : Bool) (s : State), s.mod.cascadePort ch.val ≠ some (24 + b2n rear) →
    Completes (.backboneLinkChange ch rear up) s (fun m => m.get Reg.PRT_Pp_STATUS_LINK ch.val (24 + b2n rear) = b2n up ∧
      m.get Reg.PRT_Pp_STATUS_UNINAUGURATED ch.val (24 + b2n rear) = b2n up ∧ m.inaug.running = true ∧ m.inaug.stable = 0 ∧
      (up = false → Raised s.mod m (portSource ch.val (24 + b2n rear)) 4 0 ∧
        m.inaug.lists = updAt s.mod.inaug.lists (2 * ch.val + b2n rear) (fun _ => [])) ∧
      Frame [Reg.PRT_Pp_STATUS_LINK.key ch.val (24 + b2n rear), Reg.PRT_Pp_STATUS_UNINAUGURATED.key ch.val (24 + b2n rear)] [.fc, .inaug, .twn]
        s.mod.fresh m)) ∧
  (∀ s : State, s.mod.mastering = false → s.mod.cycRole = cyLISTENING → s.mod.cyc.started = true →
    Completes .discoveryWindow s (fun m => m.free = s.mod.free + 1 ∧
      (∃ b : ReplyBody, b.node = s.mod.ownNode ∧ b.masterCapable = true ∧ m.out = [0, 1].map (fun ch =>
        Out.frame ch s.mod.ownNode 0x3FF s.mod.caseNow s.mod.cycle (.reply b))) ∧ Frame [] [.out, .free] s.mod.fresh m)) ∧
  (∀ s : State, s.mod.mastering = true → s.mod.inaug.running = true → s.mod.inaug.agreed = false → s.mod.inaug.stable = 2 →
    s.mod.inaugView = s.mod.inaug.view → s.mod.inaug.view.length ≤ 9 → (s.mod.inaug.view.map (·.id)).Nodup →
    Completes .discoveryWindow s (fun m => m.inaug.agreed = true ∧ m.inaug.running = false ∧ m.inaug.stable = 3 ∧
      Reported s.mod m (prtControl 0) 10 0))

/-! ### The Porters -/

/-- R299 to R302, R305, R307, R327: outside its windows a Porter blocks a frame, counts a LATE event and excludes the port at the limit; a
data frame in its window goes to the window's egress ports and uses the window up; in LISTEN a COLDSTART and a group 0 poll from an
allowed port go everywhere, the latter making its port the master port and the Porter SYNC; a RELAY passes frames between the
module and the cascade; a frame still arriving as its window closes is truncated and counted. -/
def Obligations.PorterFrames : Prop :=
  (∀ (b : Side) (p : Port) (f : PorterFrame) (d : WindowDir) (i c0 : Nat) (w : Window) (s : State), s.mod.prt.length = 2 →
    (s.mod.prtState b.val = psSYNC ∨ s.mod.prtState b.val = psFREERUN) → s.mod.portPresent p.val = true → s.mod.portUsable b.val p.val = true →
    (∀ g ∈ [Reg.PRT_Pp_STATUS_TEST, Reg.PRT_Pp_STATUS_UNINAUGURATED, Reg.PRT_Pp_STATUS_EXCLUDED], s.mod.get g b.val p.val = 0) →
    (s.mod.prtSt b.val).next = none → f.good = true → f.body = .data → s.mod.isUnitPort b.val p.val = false →
    (s.mod.prtSt b.val).current = some d →
    openWindow (s.mod.windowsOf b.val p.val) d.bcQ d.macroN f.cycle f.tick = some (i, w, c0) → w.kind = 2 →
    (p.val, i, c0) ∉ (s.mod.prtSt b.val).used →
    Completes (.porterFrame b p f) s (fun m => m.out = [.forward b.val p.val (s.mod.egress b.val p.val w.dst) f] ∧
      (p.val, i, c0) ∈ (m.prtSt b.val).used ∧ m.get Reg.PRT_Pp_STATUS_LINK b.val p.val = 1 ∧
      Frame [Reg.PRT_Pp_STATUS_LINK.key b.val p.val] [.out, .prt, .twn] s.mod.fresh m)) ∧
  (∀ (b : Side) (p : Port) (f : PorterFrame) (d : WindowDir) (s : State), s.mod.prt.length = 2 →
    (s.mod.prtState b.val = psSYNC ∨ s.mod.prtState b.val = psFREERUN) → s.mod.portPresent p.val = true → s.mod.portUsable b.val p.val = true →
    (s.mod.prtSt b.val).next = none → f.good = true → f.body = .data → s.mod.lateCounts b.val p.val = true →
    (s.mod.prtSt b.val).current = some d → openWindow (s.mod.windowsOf b.val p.val) d.bcQ d.macroN f.cycle f.tick = none →
    Completes (.porterFrame b p f) s (fun m => m.out = [] ∧ CountedUp Reg.PRT_Pp_BLOCKED_BLOCKED b.val p.val s.mod m ∧
      CountedUp Reg.PRT_Pp_LATE_TOTAL b.val p.val s.mod m ∧ Reported s.mod m (portSource b.val p.val) 1 0 ∧
      ((s.mod.prtSt b.val).nvExclude = 1 → (s.mod.prtSt b.val).nvLimit ≤ 1 → m.get Reg.PRT_Pp_STATUS_EXCLUDED b.val p.val = 1 ∧
        CountedUp Reg.PRT_Pp_LATE_EXCLUSIONS b.val p.val s.mod m ∧ Reported s.mod m (portSource b.val p.val) 2 0) ∧
      ((s.mod.prtSt b.val).nvExclude = 0 → m.get Reg.PRT_Pp_STATUS_EXCLUDED b.val p.val = s.mod.get Reg.PRT_Pp_STATUS_EXCLUDED b.val p.val) ∧
      FrameIn [7] [.prt, .fc, .twn] s.mod.fresh m)) ∧
  (∀ (b : Side) (p : Port) (f : PorterFrame) (s : State), s.mod.prtState b.val = psLISTEN →
    s.mod.portPresent p.val = true → s.mod.portUsable b.val p.val = true →
    (∀ g ∈ [Reg.PRT_Pp_STATUS_TEST, Reg.PRT_Pp_STATUS_UNINAUGURATED], s.mod.get g b.val p.val = 0) → (s.mod.prtSt b.val).next = none →
    f.good = true → s.mod.masterPortAllowed b.val p.val = true →
    Completes (.porterFrame b p f) s (fun m =>
      (∀ c, f.body = .coldstart c → m.out = [.forward b.val p.val (s.mod.allPorts b.val p.val true) f] ∧ m.prtState b.val = psCOLDHOLD) ∧
      (∀ c, f.body = .poll c → c.group = 0 → Out.forward b.val p.val (s.mod.allPorts b.val p.val false) f ∈ m.out ∧
        m.prtState b.val = psSYNC ∧ m.get Reg.PRT_STATUS_MASTER_PORT b.val = p.val ∧ m.get Reg.PRT_STATUS_FREE_RUN_CYCLES b.val = 0))) ∧
  (∀ (b : Side) (c : Nat) (f : PorterFrame) (s : State), s.mod.prtState b.val = psRELAY → s.mod.cascadeOf b.val = some c →
    s.mod.get Reg.PRT_Pp_STATUS_TEST b.val 26 = 0 → f.good = true → f.body = .data →
    Completes (.porterFrame b 26 f) s (fun m => m.out = [.forward b.val 26 [c] f] ∧
      Frame [Reg.PRT_Pp_STATUS_LINK.key b.val 26] [.out, .prt] s.mod.fresh m)) ∧
  (∀ (b : Side) (p : Port) (i : Nat) (s : State), alGet (s.mod.prtSt b.val).busy p.val = some i → s.mod.lateCounts b.val p.val = false →
    Completes (.windowCloseTruncate b p) s (fun m => m.out = [.truncate b.val p.val] ∧
      CountedUp Reg.PRT_Pp_BLOCKED_TRUNCATED b.val p.val s.mod m ∧
      Frame [Reg.PRT_Pp_BLOCKED_TRUNCATED.key b.val p.val] [.out, .prt] s.mod.fresh m))

/-- R290, R294, R298, R305 to R308, R320: the states of a Porter, from its load through FREE_RUN back to LISTEN, its reset, the staging of a
directory that passes its checks, its links; and the module's cold start: COLDSTART on both channels, and the role that the echoes
decide. -/
def Obligations.PorterStates : Prop :=
  (∀ (b : Side) (s : State), s.mod.prtState b.val = psLOADING →
    Completes (.porterLoadComplete b) s (fun m => m.prtState b.val = (if (s.mod.prtSt b.val).nvMode = 1 then psRELAY
        else if (s.mod.prtSt b.val).current.isSome = true then psLISTEN else psUNCONFIGURED) ∧
      (m.prtState b.val = psUNCONFIGURED → Reported s.mod m (prtControl b.val) 7 0) ∧ FrameIn [6, 7] [.fc, .twn] s.mod.fresh m)) ∧
  (∀ (b : Side) (s : State), s.mod.prtState b.val = psSYNC ∨ s.mod.prtState b.val = psFREERUN →
    Completes (.anchorMissed b) s (fun m => m.prtState b.val = psFREERUN ∧ CountedUp Reg.PRT_STATUS_FREE_RUN_CYCLES b.val 0 s.mod m ∧
      FrameIn [6, 7] [] s.mod.fresh m)) ∧
  (∀ (b : Side) (s : State), s.mod.prtState b.val = psFREERUN →
    Completes (.freeRunTimeout b) s (fun m => m.prtState b.val = psLISTEN ∧ m.get Reg.PRT_STATUS_FREE_RUN_CYCLES b.val = 0 ∧
      m.get Reg.PRT_STATUS_MASTER_PORT b.val = 0x1F ∧ FrameIn [6, 7] [.out, .twn] s.mod.fresh m)) ∧
  (∀ (b : Side) (s : State), s.mod.prtState b.val = psCOLDHOLD →
    Completes (.coldHoldTimeout b) s (fun m => m.prtState b.val = psLISTEN ∧ FrameIn [6, 7] [] s.mod.fresh m)) ∧
  (∀ (b : Side) (s : State), s.mod.prtState b.val ≠ psRESET →
    Completes (.porterReset b) s (fun m => m.prtState b.val = psRESET ∧ m.get Reg.PRT_STATUS_MASTER_PORT b.val = 0x1F ∧
      Reported s.mod m (prtControl b.val) 8 0 ∧ (∀ p : Port, m.get Reg.PRT_Pp_STATUS_EXCLUDED b.val p.val = 0 ∧
        m.get Reg.PRT_Pp_LATE_TOTAL b.val p.val = s.mod.get Reg.PRT_Pp_LATE_TOTAL b.val p.val) ∧
      FrameIn [6, 7] [.prt, .fc, .twn] s.mod.fresh m)) ∧
  (∀ (b : Side) (s : State), s.mod.prtState b.val = psRESET →
    Completes (.porterResetEnd b) s (fun m => m.prtState b.val = psLOADING ∧ FrameIn [6, 7] [] s.mod.fresh m)) ∧
  (∀ (b : Side) (s : State), s.mod.prt.length = 2 → s.mod.prtState b.val ≠ psRESET → s.mod.prtState b.val ≠ psLOADING →
    Completes (.directoryStaged b) s (fun m => match s.mod.candWdir b.val with
      | none => Reported s.mod m (prtControl b.val) 7 0 ∧ Frame [] [.fc, .twn] s.mod.fresh m
      | some d =>
        if s.mod.prtState b.val = psUNCONFIGURED then (m.prtSt b.val).current = some d ∧ m.prtState b.val = psLISTEN
        else if s.mod.prtState b.val = psLISTEN ∧ s.mod.unit = stSTARTING then (m.prtSt b.val).current = some d
        else (m.prtSt b.val).staged = some d ∧ (m.prtSt b.val).current = (s.mod.prtSt b.val).current ∧
          m.get Reg.PRT_STATUS_DIR_STAGED b.val = 1)) ∧
  (∀ (b : Side) (delay p : Nat) (s : State), s.mod.cascadeOf b.val = some p → s.mod.prtState b.val ≠ psRESET → s.mod.prtState b.val ≠ psLOADING →
    Completes (.cascadeLinkUp b delay) s (fun m => m.out = [.probe b.val] ∧ m.get Reg.PRT_Pp_STATUS_DELAY_NS b.val p = min 0xFFFF delay ∧
      m.get Reg.PRT_STATUS_CASCADE_OK b.val = b2n (delay ≤ 1400) ∧ (1400 < delay → Reported s.mod m (prtControl b.val) 9 0) ∧
      (delay ≤ 1400 → m.fc = s.mod.fc) ∧ FrameIn [7] [.out, .fc, .twn] s.mod.fresh m)) ∧
  (∀ (b : Side) (p : Port) (s : State), s.mod.prtState b.val ≠ psRESET → s.mod.prtState b.val ≠ psLOADING → s.mod.portPresent p.val = true →
    (p.val < 24 ∨ p.val = 26) →
    Completes (.linkDown b p) s (fun m => m.get Reg.PRT_Pp_STATUS_LINK b.val p.val = 0 ∧ Reported s.mod m (portSource b.val p.val) 4 0 ∧
      Frame [Reg.PRT_Pp_STATUS_LINK.key b.val p.val] [.fc, .twn] s.mod.fresh m)) ∧
  (∀ s : State, s.mod.cycRole = cyLISTENING → s.mod.cyc.foreignPoll = false → s.mod.cyc.coldstartSent = false → s.mod.unit ≠ stDEBUG →
    s.mod.twn.conflict = false → (∀ b : Side, (s.mod.prtSt b.val).current.map (·.id) = s.mod.cyc.dir.map (·.id)) →
    Completes .listenTimeout s (fun m => m.cyc.coldstartSent = true ∧
      m.out = [0, 1].map (fun ch => Out.frame ch s.mod.ownNode 0x3FF s.mod.caseNow s.mod.cycle
        (.coldstart ⟨s.mod.secs, s.mod.nanos, s.mod.bcQ, s.mod.macroN, s.mod.caseNow, 2000⟩)) ∧ Frame [] [.out, .cyc] s.mod.fresh m)) ∧
  (∀ (a b : Option Nat) (s : State), s.mod.cyc.coldstartSent = true →
    Completes (.coldstartRoleDecision a b) s (fun m => m.cyc.coldstartSent = false ∧
      ((a = some s.mod.ownNode ∨ b = some s.mod.ownNode) →
        (∀ x ∈ [a, b], ∀ n, x = some n → n ≠ s.mod.ownNode → s.mod.ownNode < n) → m.cyc.masterNext = true ∧ m.cyc.fresh = true) ∧
      (a ≠ some s.mod.ownNode → b ≠ some s.mod.ownNode → m.cyc.masterNext = s.mod.cyc.masterNext) ∧ Frame [] [.cyc] s.mod.fresh m))

/-! ### CAN -/

/-- R378, R379, R381, R383: a CAN basic cycle takes its mode and its row, and ages every ARMED and HELD mailbox, which at VALID_BC becomes
STALE with MSG_STALE; the cell of an ARMED mailbox starts an attempt with the mailbox as it stands; a sent frame stores its time
stamp and ends in SENT or ARMED; an abandoned window is counted and re-arms, and a lost arbitration retries. -/
def Obligations.CanSending : Prop :=
  (∀ (n : Ctrl) (x : CanMatrix) (s : State), n.val < s.mod.canCount → s.mod.can.length = 8 → (s.mod.canSt n.val).matrix = some x →
    Completes (.canCycleStart n) s (fun m => m.get Reg.CAN_STATUS_EFF_MODE n.val = s.mod.canMode n.val % 4 ∧
      m.get Reg.CAN_STATUS_ROW n.val = (if x.lock then s.mod.cycle % max 1 x.cells.length else (s.mod.canSt n.val).rowNext) % 64 ∧
      m.get Reg.CAN_STATUS_MATRIX_RUN n.val = b2n (s.mod.matrixRuns n.val) ∧
      (∀ k, k < 64 → (s.mod.mbState n.val k = mbARMED ∨ s.mod.mbState n.val k = mbHELD) →
        m.mbAge n.val k = min 0xFFFF (s.mod.mbAge n.val k + 1) ∧
        (0 < s.mod.rdLE (mbAddr n.val k + 6) 2 → s.mod.rdLE (mbAddr n.val k + 6) 2 ≤ s.mod.mbAge n.val k + 1 →
          m.mbState n.val k = mbSTALE ∧ Reported s.mod m (0xE0 + n.val) 4 0)) ∧
      FrameIn [9] [.mem, .can, .fc] s.mod.fresh m)) ∧
  (∀ (n : Ctrl) (col : Fin 32) (x : CanMatrix) (k : Nat) (s : State), s.mod.can.length = 8 → (s.mod.canSt n.val).matrix = some x →
    s.mod.get Reg.CAN_STATUS_MATRIX_RUN n.val = 1 → col.val < x.columns.length →
    (x.cells.getD (s.mod.get Reg.CAN_STATUS_ROW n.val) []).getD col.val 0xFF ≠ 0xFF →
    (x.cells.getD (s.mod.get Reg.CAN_STATUS_ROW n.val) []).getD col.val 0xFF % 64 = k → s.mod.mbState n.val k = mbARMED →
    s.mod.canOnBus n.val = true → s.mod.get Reg.CAN_STATUS_EFF_MODE n.val = 0 → (s.mod.canSt n.val).waits = false →
    (s.mod.canSt n.val).attempt = none →
    Completes (.canCellOccurrence n col) s (fun m => m.mbState n.val k = mbSENDING ∧ m.get Reg.CAN_STATUS_COLUMN n.val = col.val ∧
      (∃ a, (m.canSt n.val).attempt = some a ∧ a.mailbox = k ∧ a.column = col.val ∧ a.captured = s.mod.rdBytes (mbAddr n.val k) 72) ∧
      Frame [Reg.CAN_STATUS_COLUMN.key n.val 0] [.mem, .can] s.mod.fresh m)) ∧
  (∀ (n : Ctrl) (ts : BitVec 32) (tdcv : BitVec 7) (c : CanCounters) (a : CanAttempt) (s : State), s.mod.can.length = 8 →
    (s.mod.canSt n.val).attempt = some a → a.mailbox < 64 → s.mod.mbState n.val a.mailbox = mbSENDING → (s.mod.canSt n.val).rearm = false →
    s.mod.unit ≠ stSAFE → s.mod.unit ≠ stDEBUG →
    (s.mod.unit = stACTIVE → ∀ p : Pair, s.mod.heldPair p.val = true → s.mod.writesMailbox p.val n.val a.mailbox = false) →
    Completes (.canFrameSent n ts tdcv c) s (fun m => m.out = [.canFrame n.val (a.contents ts.toNat)] ∧
      m.mbState n.val a.mailbox = (if a.onUpdate then mbSENT else mbARMED) ∧ m.rdLE (stAddr n.val a.mailbox) 4 = ts.toNat ∧
      (m.canSt n.val).attempt = none ∧ FrameIn [9] [.out, .mem, .can, .fc] s.mod.fresh m)) ∧
  (∀ (n : Ctrl) (a : CanAttempt) (s : State), s.mod.can.length = 8 → (s.mod.canSt n.val).attempt = some a → a.mailbox < 64 →
    Completes (.arbitrationLost n) s (fun m =>
      (m.canSt n.val).attempt = (if s.mod.mbState n.val a.mailbox = mbSENDING then some a else none) ∧
      m.rd8 (stAddr n.val a.mailbox + 5) = BitVec.ofNat 8 (min 0xFF ((s.mod.rd8 (stAddr n.val a.mailbox + 5)).toNat + 1)) ∧
      (∀ x c, (s.mod.canSt n.val).matrix = some x → x.columns[a.column]? = some c →
        (c.type = 1 → Raised s.mod m (0xE0 + n.val) 6 0) ∧ (c.type ≠ 1 → m.fc = s.mod.fc)) ∧
      Frame [] [.mem, .can, .fc] s.mod.fresh m)) ∧
  (∀ (n : Ctrl) (a : CanAttempt) (s : State), s.mod.can.length = 8 → (s.mod.canSt n.val).attempt = some a → a.mailbox < 64 →
    s.mod.mbState n.val a.mailbox = mbSENDING → s.mod.unit ≠ stSAFE → s.mod.unit ≠ stDEBUG →
    (s.mod.unit = stACTIVE → ∀ p : Pair, s.mod.heldPair p.val = true → s.mod.writesMailbox p.val n.val a.mailbox = false) →
    Completes (.windowAbandoned n) s (fun m => Raised s.mod m (0xE0 + n.val) 5 0 ∧
      CountedUp Reg.CAN_TX_STATS_ABANDONED n.val 0 s.mod m ∧ m.mbState n.val a.mailbox = mbARMED ∧ (m.canSt n.val).attempt = none ∧
      Frame [Reg.CAN_TX_STATS_ABANDONED.key n.val 0] [.mem, .can, .fc] s.mod.fresh m))

/-- R368, R395, R397: the error states: more than 127 in a counter leads from ACTIVE to PASSIVE, more than 255 to BUS_OFF, each with its
fault; RECOVER leads from BUS_OFF to RECOVERING, whose end, like an integration, leads to ACTIVE with both counters 0, and every HELD
mailbox is ARMED again. -/
def Obligations.CanErrorStates : Prop :=
  (∀ (n : Ctrl) (c : CanCounters) (s : State), s.mod.can.length = 8 → s.mod.canState n.val = cnACTIVE →
    s.mod.get Reg.CAN_STATUS_EFF_MODE n.val = 0 →
    Completes (.canBusError n c) s (fun m => m.get Reg.CAN_ERRCNT_TEC n.val = min 0xFF c.tec ∧
      (c.tec ≤ 127 → c.rec_ ≤ 127 → m.canState n.val = cnACTIVE) ∧
      ((127 < c.tec ∨ 127 < c.rec_) → Reported s.mod m (0xE0 + n.val) 2 0) ∧
      ((127 < c.tec ∨ 127 < c.rec_) → c.tec ≤ 255 → m.canState n.val = cnPASSIVE) ∧
      (255 < c.tec → Reported s.mod m (0xE0 + n.val) 1 0 ∧ CountedUp Reg.CAN_ERRCNT_BUSOFFS n.val 0 s.mod m ∧
        m.canState n.val = (if s.mod.get Reg.CAN_CTL_AUTO_RECOVER n.val = 0 then cnBUSOFF else cnRECOVERING)) ∧
      FrameIn [9] [.mem, .can, .fc] s.mod.fresh m)) ∧
  (∀ (who : Initiator) (n : Ctrl) (v : Word32) (s : State), n.val < s.mod.canCount →
    s.mod.mayWrite who (0x90000 + 0x1000 * n.val) v.toNat = true → Settled s.mod who (0x90000 + 0x1000 * n.val) v.toNat →
    bitOf v.toNat 4 = true →
    Completes (.recover who n v) s (fun m => m.resp = some .ok ∧
      m.canState n.val = (if s.mod.canState n.val = cnBUSOFF then cnRECOVERING else s.mod.canState n.val) ∧
      Frame [Reg.CAN_STATUS_STATE.key n.val 0] [.resp] s.mod.fresh m)) ∧
  (∀ (n : Ctrl) (s : State), s.mod.can.length = 8 → s.mod.canState n.val = cnRECOVERING →
    Completes (.recoveryComplete n) s (fun m => m.canState n.val = cnACTIVE ∧ m.get Reg.CAN_ERRCNT_TEC n.val = 0 ∧
      m.get Reg.CAN_ERRCNT_REC n.val = 0 ∧ (m.canSt n.val).waits = true ∧
      (∀ k, k < 64 → m.mbState n.val k = if s.mod.mbState n.val k = mbHELD then mbARMED else s.mod.mbState n.val k) ∧
      FrameIn [9] [.mem, .can] s.mod.fresh m)) ∧
  (∀ (n : Ctrl) (s : State), s.mod.can.length = 8 → s.mod.canState n.val = cnINTEGRATING →
    Completes (.canIntegrated n) s (fun m => m.canState n.val = cnACTIVE ∧ m.get Reg.CAN_ERRCNT_TEC n.val = 0 ∧
      m.get Reg.CAN_ERRCNT_REC n.val = 0 ∧ (m.canSt n.val).waits = true ∧ FrameIn [9] [.can] s.mod.fresh m)) ∧
  (∀ (n : Ctrl) (s : State), n.val < s.mod.canCount →
    Completes (.txdDominant n) s (fun m => Raised s.mod m (0xE0 + n.val) 8 0 ∧ Frame [] [.fc] s.mod.fresh m))

/-- R385 to R391: a received frame whose first matching filter stores goes into the next queue entry, or is lost and raised where that entry
is not free; one without a filter is counted; a standby stores nothing. RX_ACK frees its entry and changes no other byte, and is a
bus error in TRIAD. A capture takes the counter and the monotonic time together on every controller. -/
def Obligations.CanReceiving : Prop :=
  (∀ (n : Ctrl) (f : CanFrame) (c : CanCounters) (x : CanFilter) (i : Nat) (s : State), s.mod.can.length = 8 → s.mod.canOnBus n.val = true →
    s.mod.get Reg.CAN_STATUS_EFF_MODE n.val ≠ 3 → (f.fdf = true → s.mod.get Reg.CAN_CTL_FD_EN n.val = 1) → s.mod.unit ≠ stSTANDBY →
    ((((s.mod.canSt n.val).matrix.map (·.filters)).getD []).zipIdx).find? (fun y => y.1.fits f) = some (x, i) → bitOf x.flags 1 = true →
    bitOf x.flags 2 = false → s.mod.get Reg.CAN_RX_STATUS_WR n.val < 128 →
    Completes (.canFrameReceived n f c) s (fun m =>
      (bitOf (s.mod.rd8 (rqAddr n.val (s.mod.get Reg.CAN_RX_STATUS_WR n.val) + 7)).toNat 0 = false →
        m.rdBytes (rqAddr n.val (s.mod.get Reg.CAN_RX_STATUS_WR n.val)) 76 = rxEntry f i ∧
        m.get Reg.CAN_RX_STATUS_WR n.val = (s.mod.get Reg.CAN_RX_STATUS_WR n.val + 1) % 128) ∧
      (bitOf (s.mod.rd8 (rqAddr n.val (s.mod.get Reg.CAN_RX_STATUS_WR n.val) + 7)).toNat 0 = true →
        CountedUp Reg.CAN_RX_STATUS_LOST n.val 0 s.mod m ∧ Reported s.mod m (0xE0 + n.val) 3 0) ∧
      FrameIn [9] [.mem, .can, .fc] s.mod.fresh m)) ∧
  (∀ (n : Ctrl) (f : CanFrame) (c : CanCounters) (s : State), s.mod.canOnBus n.val = true → s.mod.get Reg.CAN_STATUS_EFF_MODE n.val ≠ 3 →
    s.mod.get Reg.CAN_STATUS_EFF_MODE n.val ≠ 0 → (f.fdf = true → s.mod.get Reg.CAN_CTL_FD_EN n.val = 1) →
    Completes (.canFrameReceived n f c) s (fun m =>
      (((((s.mod.canSt n.val).matrix.map (·.filters)).getD []).zipIdx).find? (fun y => y.1.fits f) = none →
        CountedUp Reg.CAN_RX_STATUS_UNMATCHED n.val 0 s.mod m ∧ Frame [Reg.CAN_RX_STATUS_UNMATCHED.key n.val 0] [] s.mod.fresh m) ∧
      (s.mod.unit = stSTANDBY → Frame [Reg.CAN_RX_STATUS_UNMATCHED.key n.val 0] [] s.mod.fresh m))) ∧
  (∀ (who : Initiator) (n : Ctrl) (v : Word32) (s : State), n.val < s.mod.canCount →
    s.mod.mayWrite who (0x90404 + 0x1000 * n.val) v.toNat = true → s.mod.triad = false →
    Completes (.canRxAckRegister who n v) s (fun m => m.resp = some .ok ∧ m.rd8 (rqAddr n.val (bitsOf v.toNat 0 7) + 7) = 0 ∧
      (∀ a, a ≠ rqAddr n.val (bitsOf v.toNat 0 7) + 7 → m.rd8 a = s.mod.rd8 a) ∧ Frame [] [.resp, .mem] s.mod.fresh m)) ∧
  (∀ (who : Initiator) (n : Ctrl) (v : Word32) (s : State), n.val < s.mod.canCount →
    s.mod.mayWrite who (0x90404 + 0x1000 * n.val) v.toNat = true → s.mod.triad = true →
    Completes (.canRxAckRegister who n v) s (fun m => m.resp = some .busError ∧ Frame [] [.resp] s.mod.fresh m)) ∧
  (∀ s : State, s.mod.can.length = 8 →
    Completes .timestampCapture s (fun m => (∀ n : Ctrl, m.get Reg.CAN_TSCAP_CNT_CAP_CNT n.val = s.mod.now / 100 % 2 ^ 32 ∧
      (m.canSt n.val).capMono = s.mod.now) ∧ FrameIn [9] [.can] s.mod.fresh m))

/-! ### Signal gateway and F2 bridge -/

/-- R408, R415, R416, R419 to R421: a phase runs its entries in table order into a working copy and publishes nothing; an entry takes
its bits, scales with rounding, offsets and limits, and counts a limit; a source that reads as invalid gives DEFAULT and is raised.
The end of the phase publishes the copy's output bytes under their forces and writes its F2 words; a late phase is abandoned, counted
and raised, and leaves everything unpublished. -/
def Obligations.GatewayPhases : Prop :=
  (∀ (k : Fin 8) (cards : List CardReply) (g : GwMap) (p : GwPhase) (s : State), s.mod.gw.map = some g → g.phases[k.val]? = some p →
    s.mod.gwMayRun = true → s.mod.cycle % max 1 p.period = p.phase → s.mod.gw.run = none →
    Completes (.gatewayPhaseStart k cards) s (fun m => m.get Reg.GW_STATUS_PHASE = k.val ∧ m.get Reg.GW_STATUS_STATE = 2 ∧
      (∃ r, m.gw.run = some r ∧ r.phase = k.val ∧ r.map = g ∧
        r.entries = (((g.entries.zipIdx).drop p.first).take p.count).map (·.2)) ∧ m.gw.dest = s.mod.gw.dest ∧
      FrameIn [10, 11] [.gw, .out, .lbb, .fc] s.mod.fresh m)) ∧
  (∀ (k : Fin 8) (cards : List CardReply) (g : GwMap) (p : GwPhase) (e : GwEntry) (i : Nat) (s : State), s.mod.gw.map = some g →
    g.phases[k.val]? = some p → s.mod.gwMayRun = true → s.mod.cycle % max 1 p.period = p.phase → s.mod.gw.run = none →
    ((g.entries.zipIdx).drop p.first).take p.count = [(e, i)] → e.srcKind = 3 →
    Completes (.gatewayPhaseStart k cards) s (fun m =>
      ∃ (raw : Nat) (x y : Int), raw = bitsValue (fun b => s.mod.inByte (e.srcOff + b)) e.srcBits ∧
        x = (if bitOf e.flags 0 then sext e.srcLen raw else (raw : Int)) ∧ y = roundAway (x * e.num) e.den + e.offset ∧
        m.gw.run = some ⟨k.val, putCells s.mod.gw.dest e.dstCells (ofSigned e.dstLen (max e.min (min e.max y))), [i], g⟩ ∧
        m.get Reg.GW_COUNTS_SATURATED =
          (if max e.min (min e.max y) = y then s.mod.get Reg.GW_COUNTS_SATURATED else min 0xFFFF (s.mod.get Reg.GW_COUNTS_SATURATED + 1)) ∧
        Frame [Reg.GW_STATUS_PHASE.key 0 0, Reg.GW_STATUS_STATE.key 0 0, Reg.GW_COUNTS_SATURATED.key 0 0] [.gw] s.mod.fresh m)) ∧
  (∀ (k : Fin 8) (cards : List CardReply) (g : GwMap) (p : GwPhase) (e : GwEntry) (i : Nat) (s : State), s.mod.gw.map = some g →
    g.phases[k.val]? = some p → s.mod.gwMayRun = true → s.mod.cycle % max 1 p.period = p.phase → s.mod.gw.run = none →
    ((g.entries.zipIdx).drop p.first).take p.count = [(e, i)] → e.srcKind = 2 →
    (s.mod.ds e.srcId = none ∨ ∃ d, s.mod.ds e.srcId = some d ∧ bitOf (s.mod.dsStatus d.ds) 0 = false) →
    Completes (.gatewayPhaseStart k cards) s (fun m => Raised s.mod m 0xF1 3 0 ∧ CountedUp Reg.GW_COUNTS_DEFAULTED 0 0 s.mod m ∧
      m.gw.run = some ⟨k.val, putCells s.mod.gw.dest e.dstCells (ofSigned e.dstLen e.dflt), [i], g⟩ ∧
      Frame [Reg.GW_STATUS_PHASE.key 0 0, Reg.GW_STATUS_STATE.key 0 0, Reg.GW_COUNTS_DEFAULTED.key 0 0] [.gw, .fc] s.mod.fresh m)) ∧
  (∀ (cards : List CardReply) (r : GwRun) (s : State), s.mod.gw.run = some r → s.mod.gw.map = some r.map → s.mod.gwMayRun = true →
    Completes (.gatewayPhaseEnd cards) s (fun m => m.gw.run = none ∧ m.gw.dest = r.work ∧ m.get Reg.GW_STATUS_STATE = 1 ∧
      FrameIn [9, 10, 11] [.mem, .can, .gw, .out, .lbb, .fc] s.mod.fresh m)) ∧
  (∀ (cards : List CardReply) (r : GwRun) (s : State), s.mod.gw.run = some r → s.mod.gw.map = some r.map → s.mod.gwMayRun = true →
    (∀ i ∈ r.entries, ∃ e, r.map.entries[i]? = some e ∧ e.dstKind = 4 ∧ ∀ c ∈ e.dstCells, c.1 < 0x10000) →
    Completes (.gatewayPhaseEnd cards) s (fun m =>
      (∀ i ∈ r.entries, ∀ e, r.map.entries[i]? = some e → ∀ c ∈ e.dstCells,
        m.outByte c.1 = s.mod.forced 2 c.1 ((alGet r.work c.1).getD 0)) ∧
      Frame [Reg.GW_STATUS_STATE.key 0 0] [.mem, .gw] s.mod.fresh m)) ∧
  (∀ (d : BitVec 16) (r : GwRun) (i : Nat) (e : GwEntry) (w : Nat) (s : State), s.mod.gw.run = some r → s.mod.gw.map = some r.map →
    s.mod.gwMayRun = true → r.entries = [i] → r.map.entries[i]? = some e → e.dstKind = 5 → bitOf e.flags 6 = false →
    f2ContainerWords e.dstBit e.dstLen = 1 → s.mod.window e.dstOff 2 = some w → s.mod.get Reg.LBB_WINw_CFG_WR w = 1 →
    s.mod.f2Off = false → s.mod.f2Free = true →
    Completes (.gatewayPhaseEnd [.ack d]) s (fun m =>
      m.out = [.f2 true e.dstOff 3 (leNat [(alGet r.work (f2Key e.dstOff)).getD 0, (alGet r.work (f2Key (e.dstOff + 1))).getD 0])] ∧
      m.fc = s.mod.fc ∧ FrameIn [10, 11] [.gw, .out, .lbb] s.mod.fresh m)) ∧
  (∀ (cards : List CardReply) (r : GwRun) (s : State), s.mod.gw.run = some r → s.mod.gwMayRun = false →
    Completes (.gatewayPhaseEnd cards) s (fun m => m.gw.run = none ∧ m.gw.dest = s.mod.gw.dest ∧
      Frame [Reg.GW_STATUS_STATE.key 0 0] [.gw] s.mod.fresh m)) ∧
  (∀ (r : GwRun) (s : State), s.mod.gw.run = some r →
    Completes .phaseLate s (fun m => m.gw.run = none ∧ m.gw.dest = s.mod.gw.dest ∧ Raised s.mod m 0xF0 2 0 ∧
      CountedUp Reg.GW_STATUS_PHASE_LATE 0 0 s.mod m ∧
      Frame [Reg.GW_STATUS_PHASE_LATE.key 0 0, Reg.GW_STATUS_STATE.key 0 0] [.gw, .fc] s.mod.fresh m)) ∧
  (∀ s : State, s.mod.gw.run = none → Completes .phaseLate s (fun m => Frame [] [] s.mod.fresh m))

/-- R425 to R429, R434: an F2 access, with the bridge off, misaligned, a fetch, LR or SC, or without
the initiator's right it is answered with a bus error; outside the windows, or without the window's right, also F2_DECODE is raised. On a free bus a word access runs its one cycle,
an AMO its locked pair; a card that does not acknowledge is a counted F2_TIMEOUT; while the bus is granted the access waits. In TRIAD
the second pair's read takes the held result without a cycle, and another address is a mismatch. -/
def Obligations.BackplaneAccess : Prop :=
  (∀ (who : Initiator) (op : BusOp) (addr : Addr) (cards : List CardReply) (s : State), f2Base ≤ addr.toNat →
    addr.toNat < f2Base + 0x1000000 → who ≠ .debug → (s.mod.get Reg.LBB_CTL_ENABLE = 0 ∨ s.mod.unit = stSTANDBY) →
    Completes (.f2Access who op addr cards) s (fun m => m.resp = some .busError ∧ Frame [] [.resp] s.mod.fresh m)) ∧
  (∀ (who : Initiator) (op : BusOp) (addr : Addr) (cards : List CardReply) (a w : Nat) (s : State), addr.toNat = f2Base + a →
    a < 0x1000000 → who ≠ .debug → s.mod.f2Off = false → s.mod.window a (opWidth op) = some w → s.mod.winAllows w op = true →
    (addr.toNat % opWidth op ≠ 0 ∨ (∃ k, op = .fetch k) ∨ (∃ k, op = .lr k) ∨ (∃ k v, op = .sc k v) ∨ s.mod.f2May who op a = false) →
    Completes (.f2Access who op addr cards) s (fun m => m.resp = some .busError ∧ Frame [] [.resp] s.mod.fresh m)) ∧
  (∀ (who : Initiator) (op : BusOp) (addr : Addr) (cards : List CardReply) (s : State), f2Base ≤ addr.toNat →
    addr.toNat < f2Base + 0x1000000 → s.mod.f2Off = false → (who = .debug → s.mod.f2May who op (addr.toNat - f2Base) = true) →
    (∀ w, s.mod.window (addr.toNat - f2Base) (opWidth op) = some w → s.mod.winAllows w op = false) →
    Completes (.f2Access who op addr cards) s (fun m => m.resp = some .busError ∧ Raised s.mod m 0xF8 2 addr.toNat ∧
      Frame [] [.resp, .fc] s.mod.fresh m)) ∧
  (∀ (op : BusOp) (addr : Addr) (cards : List CardReply) (a w : Nat) (s : State), addr.toNat = f2Base + a → a < 0x1000000 →
    s.mod.f2Off = false → s.mod.f2Refused .mc op a = false → s.mod.window a (opWidth op) = some w → s.mod.winAllows w op = true → s.mod.f2Free = true →
    s.mod.lbb.waiting = [] → s.mod.get Reg.LBB_STATUS_BR = 0 → s.mod.bufWord a = none → opWidth op = 2 →
    Completes (.f2Access .mc op addr cards) s (fun m =>
      (∀ k d cs, op = .read k → cards = .ack d :: cs → m.out = [.f2 false a 3 0] ∧ m.resp = some (.data d.toNat) ∧ m.fc = s.mod.fc) ∧
      (∀ k v d cs, op = .write k v → cards = .ack d :: cs → m.out = [.f2 true a 3 (v.toNat % 65536)] ∧ m.resp = some .ok ∧ m.fc = s.mod.fc) ∧
      (∀ k o v d e cs, op = .amo k o v → cards = .ack d :: .ack e :: cs → m.out = [.flock true, .f2 false a 3 0,
        .f2 true a 3 (amoResult o 2 d.toNat v.toNat % 65536), .flock false] ∧ m.resp = some (.data d.toNat) ∧ m.fc = s.mod.fc) ∧
      (∀ cs, cards = .none :: cs → m.resp = some .busError ∧ Raised s.mod m 0xF8 1 addr.toNat ∧
        CountedUp Reg.LBB_STATS_TIMEOUTS 0 0 s.mod m) ∧
      FrameIn [11] [.out, .resp, .lbb, .fc] s.mod.fresh m)) ∧
  (∀ (who : Initiator) (op : BusOp) (addr : Addr) (cards : List CardReply) (a w : Nat) (s : State), addr.toNat = f2Base + a →
    a < 0x1000000 → s.mod.f2Off = false → s.mod.f2Refused who op a = false → s.mod.window a (opWidth op) = some w → s.mod.winAllows w op = true →
    s.mod.lbb.granted = true → s.mod.get Reg.LBB_STATUS_BR = 1 → s.mod.f2Queue < 32 →
    Completes (.f2Access who op addr cards) s (fun m => m.resp = none ∧ m.lbb.waiting = s.mod.lbb.waiting ++ [⟨who, op, a, cards⟩] ∧
      m.get Reg.LBB_STATUS_QUEUE = s.mod.f2Queue + 1 ∧
      Frame [Reg.LBB_STATUS_QUEUE.key 0 0, Reg.LBB_STATUS_STATE.key 0 0] [.lbb] s.mod.fresh m)) ∧
  (∀ (p : Pair) (k : Width) (addr : Addr) (cards : List CardReply) (a w : Nat) (r : Release) (h : HeldRead) (s : State),
    addr.toNat = f2Base + a → a < 0x1000000 → s.mod.f2Off = false → s.mod.f2Refused (.pair p) (.read k) a = false → s.mod.window a k.bytes = some w →
    s.mod.winAllows w (.read k) = true → s.mod.f2Free = true → s.mod.lbb.waiting = [] → s.mod.get Reg.LBB_STATUS_BR = 0 →
    s.mod.triad = true → s.mod.caller p.val = some r → (∀ x ∈ s.mod.lbb.reads, x.1 ≠ p.val) →
    s.mod.lbb.held.find? (fun x => x.task == r.desc.index && x.number == r.number && x.index == 0) = some h →
    Completes (.f2Access (.pair p) (.read k) addr cards) s (fun m => m.out = [] ∧
      (h.addr = addr.toNat → h.bytes = k.bytes → m.fc = s.mod.fc ∧
        m.resp = some (match h.result with | some d => .data d | none => .busError)) ∧
      (h.addr ≠ addr.toNat → Raised s.mod m 0xFA 6 addr.toNat ∧ m.resp = some .busError) ∧
      Frame [Reg.LBB_STATUS_QUEUE.key 0 0, Reg.LBB_STATUS_STATE.key 0 0] [.resp, .lbb, .fc] s.mod.fresh m))

/-- R424, R428, R430 to R433, R435, R436, R447 to R450: the oldest waiting access times out; a card that holds FACK# stops the bridge
until it is released; a bus request is granted at once and a grant empties the prefetch buffer; a grant held too long is raised; an
inbound cycle reads or writes the management core's DRAM, and an error answer is raised; a new request line counts and interrupts;
prefetched words are kept until they expire, and then counted. -/
def Obligations.BackplaneBus : Prop :=
  (∀ (x : F2Txn) (r : List F2Txn) (s : State), s.mod.lbb.waiting = x :: r → s.mod.lbb.granted = true → s.mod.get Reg.LBB_STATUS_BR = 1 →
    s.mod.f2Off = false → s.mod.triad = false →
    Completes .f2Timeout s (fun m => m.out = (if x.who = .lbb then [] else [.completed x.who none]) ∧ m.lbb.waiting = r ∧ Raised s.mod m 0xF8 1 (f2Base + x.addr) ∧
      CountedUp Reg.LBB_STATS_TIMEOUTS 0 0 s.mod m ∧ FrameIn [11] [.out, .lbb, .fc] s.mod.fresh m)) ∧
  (∀ (p : Pair) (k : Width) (x : F2Txn) (r : List F2Txn) (c : Release) (s : State), s.mod.lbb.waiting = x :: r → x.who = .pair p →
    x.op = .read k → s.mod.lbb.granted = true → s.mod.get Reg.LBB_STATUS_BR = 1 → s.mod.f2Off = false → s.mod.triad = true →
    s.mod.caller p.val = some c → (∀ y ∈ s.mod.lbb.reads, y.1 ≠ p.val) →
    (∀ y ∈ s.mod.lbb.held, y.task ≠ c.desc.index) →
    Completes .f2Timeout s (fun m => m.out = [.completed (.pair p) none] ∧ m.lbb.waiting = r ∧ Raised s.mod m 0xF8 1 (f2Base + x.addr) ∧
      m.lbb.held = s.mod.lbb.held ++ [⟨c.desc.index, c.number, 0, f2Base + x.addr, k.bytes, none⟩] ∧
      CountedUp Reg.LBB_STATS_TIMEOUTS 0 0 s.mod m ∧ FrameIn [11] [.out, .lbb, .fc] s.mod.fresh m)) ∧
  (∀ s : State, Completes .ackStuck s (fun m => m.lbb.ackStuck = true ∧ Raised s.mod m 0xF8 3 0 ∧ Frame [] [.lbb, .fc] s.mod.fresh m)) ∧
  (∀ s : State, s.mod.lbb.granted = false → s.mod.lbbReleased = false → s.mod.get Reg.LBB_STATUS_BR = 0 →
    Completes .fackReleased s (fun m => m.lbb.ackStuck = false ∧ m.lbb.waiting = [] ∧ m.get Reg.LBB_STATUS_QUEUE = 0 ∧
      (s.mod.lbb.waiting = [] → m.out = []) ∧ FrameIn [11] [.out, .lbb, .fc] s.mod.fresh m)) ∧
  (∀ s : State, s.mod.lbb.granted = false → s.mod.lbbReleased = false → s.mod.get Reg.LBB_CTL_ENABLE = 1 → s.mod.get Reg.LBB_CTL_GRANT_EN = 1 →
    (∀ x ∈ s.mod.lbb.buffer, x.window < 16) →
    Completes .busRequest s (fun m => m.out = [.fbg true] ∧ m.lbb.granted = true ∧ m.lbb.buffer = [] ∧ m.get Reg.LBB_STATUS_BR = 1 ∧
      m.get Reg.LBB_STATUS_STATE = 3 ∧ FrameIn [11] [.out, .lbb] s.mod.fresh m)) ∧
  (∀ s : State, s.mod.lbb.granted = false → (s.mod.get Reg.LBB_CTL_ENABLE = 0 ∨ s.mod.get Reg.LBB_CTL_GRANT_EN = 0) →
    Completes .busRequest s (fun m => m.lbb = s.mod.lbb ∧ m.get Reg.LBB_STATUS_BR = 1 ∧
      Frame [Reg.LBB_STATUS_BR.key 0 0, Reg.LBB_STATUS_STATE.key 0 0, Reg.LBB_STATUS_QUEUE.key 0 0] [] s.mod.fresh m)) ∧
  (∀ s : State, s.mod.lbb.granted = true → s.mod.lbb.waiting = [] →
    Completes .busRequestRelease s (fun m => m.out = [.fbg false] ∧ m.lbb.granted = false ∧ m.get Reg.LBB_STATUS_BR = 0 ∧
      Frame [Reg.LBB_STATUS_BR.key 0 0, Reg.LBB_STATUS_STATE.key 0 0, Reg.LBB_STATUS_QUEUE.key 0 0] [.out, .lbb] s.mod.fresh m)) ∧
  (∀ s : State, s.mod.lbb.granted = true → Completes .busHold s (fun m => Raised s.mod m 0xF9 4 0 ∧ Frame [] [.fc] s.mod.fresh m)) ∧
  (∀ (write : Bool) (f2 : BitVec 24) (data : BitVec 16) (ok : Bool) (a base t : Nat) (s : State), s.mod.lbb.granted = true →
    s.mod.get Reg.LBB_CTL_INBOUND_EN = 1 → s.mod.lbb.waiting = [] → a = f2.toNat / 2 * 2 → base = s.mod.get Reg.LBB_IN_CFG_BASE * 65536 →
    base ≤ a → a < base + (s.mod.get Reg.LBB_IN_CFG_SIZEM1 + 1) * 65536 →
    t = s.mod.get Reg.LBB_IN_TARGET_TARGET * 65536 + (a - base) →
    Completes (.inboundAccess write f2 data ok) s (fun m =>
      (ok = true → mcDram ≤ t → t + 2 ≤ mcDram + 0x20000000 → m.fc = s.mod.fc ∧
        (write = true → m.out = [.fack 0] ∧ m.rdLE t 2 = data.toNat ∧ (∀ b, b ≠ t → b ≠ t + 1 → m.rd8 b = s.mod.rd8 b)) ∧
        (write = false → m.out = [.fack (s.mod.rdLE t 2)] ∧ MemKept s.mod m)) ∧
      (ok = false ∨ t < mcDram ∨ mcDram + 0x20000000 < t + 2 → Raised s.mod m 0xF9 5 t ∧ MemKept s.mod m) ∧
      Frame [] [.mem, .out, .fc] s.mod.fresh m)) ∧
  (∀ (levels : BitVec 4) (s : State), s.mod.get Reg.LBB_CTL_ENABLE = 1 → s.mod.get Reg.LBB_CTL_REQ_POLL_EN = 1 → s.mod.lbbReleased = false →
    Completes (.requestLinePoll levels) s (fun m => m.get Reg.LBB_STATUS_REQ = levels.toNat ∧
      (∀ i, i < 4 → m.get (reqCount i) = if bitOf levels.toNat i ∧ bitOf (s.mod.get Reg.LBB_STATUS_REQ) i = false then
        (s.mod.get (reqCount i) + 1) % 256 else s.mod.get (reqCount i)) ∧
      m.fc.interrupts = (if ∃ i, i < 4 ∧ bitOf levels.toNat i = true ∧ bitOf (s.mod.get Reg.LBB_STATUS_REQ) i = false then
        s.mod.fc.interrupts + 1 else s.mod.fc.interrupts) ∧
      Frame [Reg.LBB_STATUS_REQ.key 0 0, (reqCount 0).key 0 0, (reqCount 1).key 0 0, (reqCount 2).key 0 0, (reqCount 3).key 0 0] [.fc]
        s.mod.fresh m)) ∧
  (∀ (d : BitVec 16) (w a n : Nat) (s : State), s.mod.lbb.due = some (w, a, n + 1) → s.mod.f2Free = true → s.mod.lbb.waiting = [] →
    s.mod.get Reg.LBB_CTL_ENABLE = 1 → a + 2 ≤ s.mod.winStart w + s.mod.winLen w → s.mod.bufWord a = none →
    Completes (.prefetch [d]) s (fun m => m.out = [.f2 false a 3 0] ∧ m.lbb.buffer = s.mod.lbb.buffer ++ [⟨w, a, d.toNat⟩] ∧
      m.lbb.due = none ∧ Frame [] [.out, .lbb] s.mod.fresh m)) ∧
  (∀ (w : Fin 16) (s : State),
    Completes (.prefetchExpiry w) s (fun m => m.lbb.buffer = s.mod.lbb.buffer.filter (fun x => x.window != w.val) ∧
      ((∀ x ∈ s.mod.lbb.buffer, x.window ≠ w.val) →
        m.get Reg.LBB_PREFETCH_DISCARDw_WORDS w.val = s.mod.get Reg.LBB_PREFETCH_DISCARDw_WORDS w.val) ∧
      ((∃ x ∈ s.mod.lbb.buffer, x.window = w.val) →
        m.get Reg.LBB_PREFETCH_DISCARDw_WORDS w.val = min 0x7FFFFFFF (s.mod.get Reg.LBB_PREFETCH_DISCARDw_WORDS w.val +
          (s.mod.lbb.buffer.filter (fun x => x.window == w.val)).length)) ∧
      Frame [Reg.LBB_PREFETCH_DISCARDw_WORDS.key w.val 0] [.lbb] s.mod.fresh m))

/-! ### DIO -/

/-- R458, R459, R461, R464, R465, R474, R475, R482: an accepted input transition changes LEVEL and counts; an overload or a thermal
shutdown of a driving output turns it off, latches and is raised, the third within 10 s also locks it; a mismatch leaves the output
on; a stuck output of a safety channel opens its group's switch; the readback follows again after a match; a timed firing sets the
driver by ACTION and a pulse ends. On an island at rest nothing else changes. -/
def Obligations.DioChannels : Prop :=
  (∀ (c : Chan) (level : Bool) (s : State), s.mod.dioOut c.val = false → bitOf s.mod.dio.filt c.val ≠ level → s.mod.task.table = none →
    Completes (.inputTransition c level) s (fun m => bitOf m.dio.filt c.val = level ∧ bitOf m.dio.edges c.val = true ∧
      m.get Reg.DIO_CHc_COUNT_EDGES c.val = (s.mod.get Reg.DIO_CHc_COUNT_EDGES c.val + 1) % 2 ^ 32 ∧
      (s.mod.supply (c.val / 8) ≠ suLOST → m.get Reg.DIO_CHc_STATUS_LEVEL c.val = b2n level) ∧
      (s.mod.supply (c.val / 8) = suLOST → m.get Reg.DIO_CHc_STATUS_LEVEL c.val = s.mod.get Reg.DIO_CHc_STATUS_LEVEL c.val) ∧
      Frame [Reg.DIO_CHc_COUNT_EDGES.key c.val 0, Reg.DIO_CHc_STATUS_LEVEL.key c.val 0] [.dio] s.mod.fresh m)) ∧
  (∀ (c : Chan) (s : State), s.mod.dioOut c.val = true → s.mod.flag Reg.DIO_CHc_STATUS_DRIVE c.val = true → s.mod.unlatched c.val = true →
    IslandSettled s.mod →
    Completes (.overload c) s (fun m => m.get Reg.DIO_CHc_STATUS_OVERLOAD c.val = 1 ∧ m.get Reg.DIO_CHc_STATUS_DRIVE c.val = 0 ∧
      m.get Reg.DIO_CHc_STATUS_LEVEL c.val = 0 ∧ Raised s.mod m (0x100 + c.val) 1 0 ∧
      m.get Reg.DIO_CHc_STATUS_LOCKED c.val =
        (if 2 ≤ (s.mod.dio.latches.filter (fun x => x.1 == c.val && s.mod.now - x.2 ≤ 10000000000)).length then 1
          else s.mod.get Reg.DIO_CHc_STATUS_LOCKED c.val) ∧
      Frame (Reg.DIO_CHc_STATUS_OVERLOAD.key c.val 0 :: Reg.DIO_CHc_STATUS_LOCKED.key c.val 0 :: driverKeys c) [.dio, .fc] s.mod.fresh m)) ∧
  (∀ (c : Chan) (s : State), s.mod.dioOut c.val = true → s.mod.flag Reg.DIO_CHc_STATUS_DRIVE c.val = true → s.mod.unlatched c.val = true →
    IslandSettled s.mod →
    Completes (.thermalShutdown c) s (fun m => m.get Reg.DIO_CHc_STATUS_THERMAL c.val = 1 ∧ m.get Reg.DIO_CHc_STATUS_DRIVE c.val = 0 ∧
      m.get Reg.DIO_CHc_STATUS_LEVEL c.val = 0 ∧ Raised s.mod m (0x100 + c.val) 2 0 ∧
      m.get Reg.DIO_CHc_STATUS_LOCKED c.val =
        (if 2 ≤ (s.mod.dio.latches.filter (fun x => x.1 == c.val && s.mod.now - x.2 ≤ 10000000000)).length then 1
          else s.mod.get Reg.DIO_CHc_STATUS_LOCKED c.val) ∧
      Frame (Reg.DIO_CHc_STATUS_THERMAL.key c.val 0 :: Reg.DIO_CHc_STATUS_LOCKED.key c.val 0 :: driverKeys c) [.dio, .fc] s.mod.fresh m)) ∧
  (∀ (c : Chan) (s : State), s.mod.compares c.val = true → s.mod.flag Reg.DIO_CHc_STATUS_DRIVE c.val = true → s.mod.unlatched c.val = true →
    s.mod.get Reg.DIO_CHc_STATUS_READBACK_ERR c.val = 0 →
    Completes (.readbackMismatch c) s (fun m => m.get Reg.DIO_CHc_STATUS_READBACK_ERR c.val = 1 ∧ m.get Reg.DIO_CHc_STATUS_LEVEL c.val = 0 ∧
      Raised s.mod m (0x100 + c.val) 3 0 ∧
      Frame [Reg.DIO_CHc_STATUS_READBACK_ERR.key c.val 0, Reg.DIO_CHc_STATUS_LEVEL.key c.val 0] [.fc] s.mod.fresh m)) ∧
  (∀ (c : Chan) (s : State), s.mod.compares c.val = true → s.mod.flag Reg.DIO_CHc_STATUS_DRIVE c.val = false →
    s.mod.get Reg.DIO_CHc_STATUS_STUCK_ON c.val = 0 →
    Completes (.stuckOn c) s (fun m => m.get Reg.DIO_CHc_STATUS_STUCK_ON c.val = 1 ∧ Reported s.mod m (0x100 + c.val) 4 0 ∧
      (s.mod.get Reg.DIO_CHc_CFG_SAFETY c.val = 0 ∨ s.mod.get Reg.DIO_CTL_GROUP_CUT_EN = 0 → m.get Reg.DIO_CHc_STATUS_LEVEL c.val = 1 ∧
        Frame [Reg.DIO_CHc_STATUS_STUCK_ON.key c.val 0, Reg.DIO_CHc_STATUS_LEVEL.key c.val 0] [.fc] s.mod.fresh m) ∧
      (s.mod.get Reg.DIO_CHc_CFG_SAFETY c.val ≠ 0 → s.mod.get Reg.DIO_CTL_GROUP_CUT_EN ≠ 0 → s.mod.get Reg.DIO_Gg_SUPPLY_CUT (c.val / 8) = 0 →
        m.get Reg.DIO_Gg_SUPPLY_CUT (c.val / 8) = 1 ∧ Reported s.mod m (0x100 + 8 * (c.val / 8)) 8 0 ∧
        (∀ k : Chan, k.val / 8 = c.val / 8 → m.dioOut k.val = true → m.flag Reg.DIO_CHc_STATUS_DRIVE k.val = false)) ∧
      FrameIn [12] [.dio, .fc] s.mod.fresh m)) ∧
  (∀ (c : Chan) (s : State), s.mod.compares c.val = true →
    Completes (.readbackMatch c) s (fun m => m.get Reg.DIO_CHc_STATUS_READBACK_ERR c.val = 0 ∧ m.get Reg.DIO_CHc_STATUS_STUCK_ON c.val = 0 ∧
      m.get Reg.DIO_CHc_STATUS_LEVEL c.val = s.mod.get Reg.DIO_CHc_STATUS_DRIVE c.val % 2 ∧
      Frame [Reg.DIO_CHc_STATUS_READBACK_ERR.key c.val 0, Reg.DIO_CHc_STATUS_STUCK_ON.key c.val 0, Reg.DIO_CHc_STATUS_LEVEL.key c.val 0] []
        s.mod.fresh m)) ∧
  (∀ (c : Chan) (s : State), s.mod.supply (c.val / 8) = suOK →
    Completes (.invalidCleared c) s (fun m => m.get Reg.DIO_CHc_STATUS_INVALID c.val = 0 ∧
      Frame [Reg.DIO_CHc_STATUS_INVALID.key c.val 0] [] s.mod.fresh m)) ∧
  (∀ (c : Chan) (late : Bool) (s : State), s.mod.timedOpen c.val = true → IslandSettled s.mod →
    Completes (.timedFiring c late) s (fun m =>
      (m.flag Reg.DIO_CHc_STATUS_DRIVE c.val = true ↔ s.mod.get Reg.DIO_CHc_CFG_ACTION c.val ≠ 1) ∧
      (late = true → Raised s.mod m (0x100 + c.val) 10 0) ∧ (late = false → m.fc = s.mod.fc) ∧
      Frame (driverKeys c) [.dio, .fc] s.mod.fresh m)) ∧
  (∀ (c : Chan) (s : State), s.mod.dioOut c.val = true → s.mod.flag Reg.DIO_CHc_CFG_TIMED c.val = true →
    s.mod.get Reg.DIO_CHc_CFG_ACTION c.val = 2 → s.mod.get Reg.DIO_CHc_STATUS_SAFE c.val = 0 → IslandSettled s.mod →
    Completes (.pulseEnd c) s (fun m => m.flag Reg.DIO_CHc_STATUS_DRIVE c.val = false ∧ Frame (driverKeys c) [.dio] s.mod.fresh m))

/-- R466, R467, R470 to R473, R476: the watchdog brings every output to its safe state; a group's supply goes from OK to LOW with its
channels INVALID, and to LOST with its outputs off and its inputs 0, and comes back by 15.5 V and 19.7 V; 10 ms in OK end the latch,
while the outputs wait for a delivery and the RESTART_LOCK ones are LOCKED; the restart of the island's controller leaves every driver
off and every group LOST. -/
def Obligations.DioSupplies : Prop :=
  (∀ s : State, s.mod.get Reg.DIO_CTL_ENABLE = 1 → (s.mod.localSet true).isSome = true → s.mod.dio.wdtReport = false →
    Completes .dioWatchdogExpiry s (fun m => m.dio.wdtSafe = true ∧ m.get Reg.DIO_STATUS_STATE = 4 ∧ m.fc = s.mod.fc ∧
      CountedUp Reg.DIO_STATUS_WDT_EXPIRIES 0 0 s.mod m ∧
      (∀ k : Chan, s.mod.dioOut k.val = true → m.flag Reg.DIO_CHc_STATUS_SAFE k.val = true ∧
        (s.mod.flag Reg.DIO_CHc_CFG_RESTART_LOCK k.val = true → s.mod.flag Reg.DIO_CHc_STATUS_SAFE k.val = false →
          m.get Reg.DIO_CHc_STATUS_LOCKED k.val = 1) ∧
        (s.mod.get Reg.DIO_Gg_SUPPLY_CUT (k.val / 8) = 0 → s.mod.get Reg.DIO_Gg_SUPPLY_LATCHED (k.val / 8) = 0 →
          s.mod.supply (k.val / 8) ≠ suLOST → s.mod.unlatched k.val = true → s.mod.flag Reg.DIO_CHc_STATUS_SAFE k.val = false →
          m.flag Reg.DIO_CHc_STATUS_DRIVE k.val = (match s.mod.get Reg.DIO_CHc_CFG_SAFE_STATE k.val with
            | 1 => true | 2 => s.mod.flag Reg.DIO_CHc_STATUS_DRIVE k.val | _ => false))) ∧
      FrameIn [12] [.dio] s.mod.fresh m)) ∧
  (∀ (g : Group) (mv : BitVec 16) (s : State), mv.toNat < 19200 → s.mod.supply g.val = suOK →
    Completes (.supplyLow g mv) s (fun m => m.supply g.val = suLOW ∧ m.get Reg.DIO_Gg_SUPPLY_MV g.val = mv.toNat ∧
      Raised s.mod m (0x100 + 8 * g.val) 5 0 ∧ (∀ c ∈ groupChans g.val, m.get Reg.DIO_CHc_STATUS_INVALID c = 1) ∧
      Frame (Reg.DIO_Gg_SUPPLY_MV.key g.val 0 :: Reg.DIO_Gg_SUPPLY_STATE.key g.val 0 ::
        (groupChans g.val).map (fun c => Reg.DIO_CHc_STATUS_INVALID.key c 0)) [.fc] s.mod.fresh m)) ∧
  (∀ (g : Group) (mv : BitVec 16) (s : State), mv.toNat < 19200 → s.mod.supply g.val ≠ suOK →
    Completes (.supplyLow g mv) s (fun m => m.get Reg.DIO_Gg_SUPPLY_MV g.val = mv.toNat ∧
      Frame [Reg.DIO_Gg_SUPPLY_MV.key g.val 0] [] s.mod.fresh m)) ∧
  (∀ (g : Group) (mv : BitVec 16) (s : State), mv.toNat < 15000 → (s.mod.supply g.val = suOK ∨ s.mod.supply g.val = suLOW) →
    Completes (.supplyLost g mv) s (fun m => m.supply g.val = suLOST ∧ m.get Reg.DIO_Gg_SUPPLY_LATCHED g.val = 1 ∧
      CountedUp Reg.DIO_Gg_SUPPLY_LOST_COUNT g.val 0 s.mod m ∧ Reported s.mod m (0x100 + 8 * g.val) 6 0 ∧
      (s.mod.supply g.val = suOK → Reported s.mod m (0x100 + 8 * g.val) 5 0) ∧
      (∀ c ∈ groupChans g.val, m.get Reg.DIO_CHc_STATUS_INVALID c = 1 ∧
        (s.mod.dioOut c = false → m.get Reg.DIO_CHc_STATUS_LEVEL c = 0) ∧
        (s.mod.dioOut c = true → m.flag Reg.DIO_CHc_STATUS_DRIVE c = false)) ∧ FrameIn [12] [.dio, .fc] s.mod.fresh m)) ∧
  (∀ (g : Group) (mv : BitVec 16) (s : State), 15500 ≤ mv.toNat → (s.mod.supply g.val = suLOST ∨ s.mod.supply g.val = suLOW) →
    Completes (.groupSupplyRise g mv) s (fun m => m.supply g.val = (if 19700 ≤ mv.toNat then suOK else suLOW) ∧
      m.get Reg.DIO_Gg_SUPPLY_MV g.val = mv.toNat ∧
      (s.mod.supply g.val = suLOST → ∀ c ∈ groupChans g.val, s.mod.dioOut c = false →
        m.get Reg.DIO_CHc_STATUS_LEVEL c = b2n (bitOf s.mod.dio.filt c)) ∧
      Frame (Reg.DIO_Gg_SUPPLY_MV.key g.val 0 :: Reg.DIO_Gg_SUPPLY_STATE.key g.val 0 ::
        (groupChans g.val).map (fun c => Reg.DIO_CHc_STATUS_LEVEL.key c 0)) [] s.mod.fresh m)) ∧
  (∀ (g : Group) (s : State), s.mod.supply g.val = suOK → s.mod.flag Reg.DIO_Gg_SUPPLY_LATCHED g.val = true →
    Completes (.supplyRestored g) s (fun m => m.get Reg.DIO_Gg_SUPPLY_LATCHED g.val = 0 ∧ Raised s.mod m (0x100 + 8 * g.val) 7 0 ∧
      (∀ c ∈ groupChans g.val, bitOf m.dio.waits c = true ∧ (s.mod.dioOut c = true →
        (s.mod.flag Reg.DIO_CHc_CFG_RESTART_LOCK c = true → m.get Reg.DIO_CHc_STATUS_LOCKED c = 1) ∧
        (m.get Reg.DIO_CHc_STATUS_SAFE c = 0 → m.flag Reg.DIO_CHc_STATUS_DRIVE c = false))) ∧
      FrameIn [12] [.dio, .fc] s.mod.fresh m)) ∧
  (∀ s : State,
    Completes .islandRestart s (fun m => Raised s.mod m 0x100 12 0 ∧ m.dio.delivered = false ∧ m.dio.rearm = none ∧
      (∀ g : Group, m.supply g.val = suLOST ∧ m.get Reg.DIO_Gg_SUPPLY_LATCHED g.val = 1) ∧
      (∀ c : Chan, m.get Reg.DIO_CHc_STATUS_DRIVE c.val = 0 ∧ m.get Reg.DIO_CHc_STATUS_OVERLOAD c.val = 0 ∧
        m.get Reg.DIO_CHc_STATUS_THERMAL c.val = 0 ∧ m.get Reg.DIO_CHc_STATUS_INVALID c.val = 1 ∧
        m.get Reg.DIO_CHc_STATUS_LOCKED c.val = b2n (s.mod.dioOut c.val && s.mod.flag Reg.DIO_CHc_CFG_RESTART_LOCK c.val)) ∧
      FrameIn [12] [.dio, .fc] s.mod.fresh m))

/-! ### Fault collector, Daybook and time -/

/-- R488, R489, R493, R494, R496, R497, R522: the collector takes the next message; a fault whose set is RECORD alone goes to the
Daybook and opens no record; one with RECORD and INTERRUPT opens a record with its source, kind and class, and a second one merges
without a second interrupt; SAFE_OUTPUTS of a source of the whole unit leads from RUN_ACTIVE to SAFE. Firmware raises messages of the
sources that are its own. A record closes once it is acknowledged, or has timed out, with its actions complete; a RELEASE waits for
the next basic cycle. -/
def Obligations.FaultCollector : Prop :=
  (∀ s : State, s.mod.fc.reports = [] → Completes .faultIntake s (fun m => Frame [] [] s.mod.fresh m)) ∧
  (∀ (q : Report) (r : ClassRule) (s : State), nextReport s.mod.fc.reports = some q → r = s.mod.classRule q.source q.kind q.cls → r.n = 0 →
    r.base = clINFO → r.react.getD 0 0 = rRECORD → s.mod.fc.record = none → s.mod.unit ≠ stSURRENDERED → Room s.mod →
    s.mod.bucket (faultCode q.source q.kind) = none →
    Completes .faultIntake s (fun m => m.fc.reports = dropReport q s.mod.fc.reports ∧ m.fc.record = none ∧
      m.fc.interrupts = s.mod.fc.interrupts ∧
      (∃ e, m.dbk.fifo = s.mod.dbk.fifo ++ [e] ∧ e.code = faultCode q.source q.kind ∧ e.severity = 2 ∧ e.merged = false ∧ e.mono = q.mono) ∧
      Frame [Reg.FC_INTAKE_LO_MSG_LO.key 0 0, Reg.DBK_STATUS_PEAK.key 0 0] [.fc, .dbk] s.mod.fresh m)) ∧
  (∀ (q : Report) (r : ClassRule) (s : State), nextReport s.mod.fc.reports = some q → r = s.mod.classRule q.source q.kind q.cls → r.n = 0 →
    r.base = clDEGRADED → r.react.getD 1 0 = rRECORD + rINTERRUPT → s.mod.fc.record = none → s.mod.unit ≠ stSURRENDERED → Room s.mod →
    s.mod.bucket (faultCode q.source q.kind) = none → q.source < 0x400 → q.kind < 0x100 →
    Completes .faultIntake s (fun m => m.fc.reports = dropReport q s.mod.fc.reports ∧ m.fc.interrupts = s.mod.fc.interrupts + 1 ∧
      (∃ x, m.fc.record = some x ∧ x.openedAt = s.mod.now ∧ x.acked = false) ∧ m.get Reg.FC_OPEN_OPEN = 1 ∧
      m.get Reg.FC_OPEN_SOURCE = q.source ∧ m.get Reg.FC_OPEN_KIND = q.kind ∧ m.get Reg.FC_OPEN_CLASS = 1 ∧ m.get Reg.FC_OPEN_REACT = 3 ∧
      m.get Reg.FC_MERGE_COUNT_COUNT = 0 ∧ m.get Reg.FC_MERGE_MAP_MAP = 0 ∧
      (∃ e, m.dbk.fifo = s.mod.dbk.fifo ++ [e] ∧ e.code = faultCode q.source q.kind ∧ e.severity = 3 ∧ e.merged = false) ∧
      FrameIn [13, 14] [.fc, .dbk] s.mod.fresh m)) ∧
  (∀ (q : Report) (r : ClassRule) (x : FaultRecord) (s : State), nextReport s.mod.fc.reports = some q →
    r = s.mod.classRule q.source q.kind q.cls → r.n = 0 → r.base = clDEGRADED → r.react.getD 1 0 = rRECORD + rINTERRUPT →
    s.mod.fc.record = some x → x.acked = false → s.mod.unit = stACTIVE → s.mod.get Reg.FC_OPEN_REACT = 3 →
    s.mod.get Reg.FC_OPEN_CLASS ≤ 3 → q.source < 0x400 →
    Completes .faultIntake s (fun m => m.fc.interrupts = s.mod.fc.interrupts ∧ (∃ y, m.fc.record = some y ∧ y.first = x.first) ∧
      CountedUp Reg.FC_MERGE_COUNT_COUNT 0 0 s.mod m ∧ bitOf (m.get Reg.FC_MERGE_MAP_MAP) (q.source / 32) = true ∧
      m.get Reg.FC_OPEN_CLASS = max 1 (s.mod.get Reg.FC_OPEN_CLASS) ∧ m.get Reg.FC_OPEN_SOURCE = s.mod.get Reg.FC_OPEN_SOURCE ∧
      FrameIn [13, 14] [.fc, .dbk] s.mod.fresh m)) ∧
  (∀ (q : Report) (r : ClassRule) (s : State), nextReport s.mod.fc.reports = some q → r = s.mod.classRule q.source q.kind q.cls → r.n = 0 →
    r.base = clSEVERE → r.react.getD 2 0 = rRECORD + rINTERRUPT + rSAFE → s.mod.safeScope q.source q.kind = .unit →
    s.mod.fc.record = none → s.mod.unit = stACTIVE →
    Completes .faultIntake s (fun m => m.unit = stSAFE ∧ m.get Reg.FC_OPEN_CLASS = 2 ∧ m.get Reg.FC_OPEN_REACT = 11 ∧
      m.fc.interrupts = s.mod.fc.interrupts + 1 ∧ m.upd.cycleClean = false ∧ (∃ y, m.fc.record = some y) ∧
      FrameIn [0, 3, 4, 5, 9, 11, 12, 13, 14, 15] [.mem, .out, .fc, .dbk, .cfg, .scl, .task, .lgr, .chg, .can, .lbb, .dio, .upd]
        s.mod.fresh m)) ∧
  (∀ (who : Initiator) (v : Word32) (s : State), s.mod.mayWrite who 0xD0008 v.toNat = true →
    s.mod.intakeRight who (bitsOf v.toNat 22 10) = true →
    Completes (.fcIntakeWrite who v) s (fun m => m.resp = some .ok ∧
      m.fc.reports = s.mod.fc.reports ++ [s.mod.stamp (bitsOf v.toNat 22 10) (bitsOf v.toNat 14 8) (bitsOf v.toNat 8 2) false
        (bitsOf v.toNat 0 8 * 2 ^ 32 + s.mod.fc.stagedLo) []] ∧ Frame [] [.resp, .fc] s.mod.fresh m)) ∧
  (∀ (who : Initiator) (v : Word32) (s : State), s.mod.mayWrite who 0xD0008 v.toNat = true →
    s.mod.intakeRight who (bitsOf v.toNat 22 10) = false →
    Completes (.fcIntakeWrite who v) s (fun m => m.resp = some .busError ∧ Frame [] [.resp] s.mod.fresh m)) ∧
  (∀ (who : Initiator) (v : Word32) (x : FaultRecord) (s : State), s.mod.mayWrite who 0xD0000 v.toNat = true → bitOf v.toNat 0 = true →
    bitOf v.toNat 1 = false → s.mod.fc.record = some x → s.mod.fcComplete x = true → s.mod.get Reg.FC_OPEN_CLASS < 3 → Room s.mod →
    Completes (.ack who v) s (fun m => m.resp = some .ok ∧ m.fc.record = none ∧ m.get Reg.FC_OPEN_OPEN = 0 ∧
      (∃ l, Noted s.mod m 0x0083 (s.mod.get Reg.FC_OPEN_CLASS + 2) l) ∧
      Frame [Reg.FC_OPEN_OPEN.key 0 0, Reg.DBK_STATUS_PEAK.key 0 0] [.resp, .fc, .dbk] s.mod.fresh m)) ∧
  (∀ (who : Initiator) (v : Word32) (x : FaultRecord) (s : State), s.mod.mayWrite who 0xD0000 v.toNat = true → bitOf v.toNat 0 = true →
    bitOf v.toNat 1 = false → s.mod.fc.record = some x → s.mod.fcComplete x = false →
    Completes (.ack who v) s (fun m => m.resp = some .ok ∧ m.fc.record = some { x with acked := true } ∧
      Frame [] [.resp, .fc] s.mod.fresh m)) ∧
  (∀ (who : Initiator) (v : Word32) (s : State), s.mod.mayWrite who 0xD0000 v.toNat = true → bitOf v.toNat 1 = true →
    bitOf v.toNat 0 = false →
    Completes (.release who v) s (fun m => m.resp = some .ok ∧ m.fc.releaseReq = true ∧
      m.get Reg.FC_STATUS_PAIR_HOLD = s.mod.get Reg.FC_STATUS_PAIR_HOLD ∧ Frame [] [.resp, .fc] s.mod.fresh m)) ∧
  (∀ (x : FaultRecord) (s : State), s.mod.fc.record = some x → s.mod.fcComplete x = true → s.mod.get Reg.FC_OPEN_CLASS < 3 → Room s.mod →
    Completes .faultRecordTimeout s (fun m => m.fc.record = none ∧ m.get Reg.FC_OPEN_OPEN = 0 ∧
      (∃ l, Noted s.mod m 0x0083 (s.mod.get Reg.FC_OPEN_CLASS + 2) l) ∧
      Frame [Reg.FC_OPEN_OPEN.key 0 0, Reg.DBK_STATUS_PEAK.key 0 0] [.fc, .dbk] s.mod.fresh m))

/-- R503, R507 to R509, R526: the next event is written with the next SEQ into the lowest empty slot; a full Daybook with no weaker
record drops it and counts; a pass archives every record above the limit, which rises to the last of them; a write of DBK_ARCH_SEQ
sets the limit within its bounds and is ignored outside them. -/
def Obligations.DaybookEngine : Prop :=
  (∀ s : State, s.mod.dbk.fifo = [] → CompletesDb .daybookWrite s (fun m d => d = s.daybook ∧ Frame [] [] s.mod.fresh m)) ∧
  (∀ (e : Event) (rest : List Event) (k : Nat) (s : State), s.mod.dbk.fifo = e :: rest → s.mod.dbk.table = none → e.code ≠ 0x0381 →
    DaybookOk s.daybook → k < daybookSlots → alGet s.daybook.slots k = none → (∀ j, j < k → (alGet s.daybook.slots j).isSome = true) →
    CompletesDb .daybookWrite s (fun m d => d.lastSeq = s.daybook.lastSeq + 1 ∧ d.archSeq = s.daybook.archSeq ∧
      d.archive = s.daybook.archive ∧
      (∃ r, alGet d.slots k = some r ∧ r.seq = s.daybook.lastSeq + 1 ∧ r.ev = e ∧ r.drops = s.mod.dbk.drops ∧ r.snap = e.snaps.take 15) ∧
      (∀ j, j ≠ k → alGet d.slots j = alGet s.daybook.slots j) ∧ m.dbk.fifo = rest ∧ m.dbk.drops = 0 ∧
      Frame [Reg.DBK_STATUS_FULL.key 0 0] [.dbk, .fc] s.mod.fresh m)) ∧
  (∀ (e : Event) (rest : List Event) (s : State), s.mod.dbk.fifo = e :: rest → s.daybook.slotFor e.severity = none →
    CompletesDb .daybookWrite s (fun m d => d = s.daybook ∧ m.dbk.fifo = rest ∧ CountedUp Reg.DBK_DROPPED_TOTAL 0 0 s.mod m ∧
      m.get Reg.DBK_STATUS_FULL = 1 ∧ (s.mod.get Reg.DBK_STATUS_FULL = 0 → Raised s.mod m 0x120 3 0) ∧
      Frame [Reg.DBK_DROPPED_TOTAL.key 0 0, Reg.DBK_STATUS_FULL.key 0 0] [.dbk, .fc] s.mod.fresh m)) ∧
  (∀ s : State, s.mod.get Reg.DBK_CTL_ARCHIVE_EN = 1 → s.mod.unit ≠ stBOOT → s.mod.heldInReset = false →
    s.daybook.archive.length + s.daybook.slots.length ≤ archiveRecords →
    CompletesDb .archivePass s (fun m d => d.slots = s.daybook.slots ∧ d.lastSeq = s.daybook.lastSeq ∧
      (∀ x ∈ s.daybook.slots, x.2.seq ≤ d.archSeq ∧ (s.daybook.archSeq < x.2.seq → x.2 ∈ d.archive)) ∧
      (∀ r ∈ s.daybook.archive, r ∈ d.archive) ∧ (∀ r ∈ d.archive, r ∈ s.daybook.archive ∨ ∃ x ∈ s.daybook.slots, x.2 = r) ∧
      s.daybook.archSeq ≤ d.archSeq ∧ Frame [Reg.DBK_STATUS_FULL.key 0 0] [.fc] s.mod.fresh m)) ∧
  (∀ (v : Word32) (n : Nat) (s : State), n = v.toNat * 2 ^ 32 + s.mod.get Reg.DBK_ARCH_SEQ_LO_ARCH_LO → s.daybook.archSeq ≤ n →
    n ≤ s.daybook.lastSeq →
    CompletesDb (.archSeqWrite .mc v) s (fun m d => m.resp = some .ok ∧ d.archSeq = n ∧ d.slots = s.daybook.slots ∧
      d.lastSeq = s.daybook.lastSeq ∧ d.archive = s.daybook.archive ∧ Frame [Reg.DBK_STATUS_FULL.key 0 0] [.resp, .fc] s.mod.fresh m)) ∧
  (∀ (v : Word32) (n : Nat) (s : State), n = v.toNat * 2 ^ 32 + s.mod.get Reg.DBK_ARCH_SEQ_LO_ARCH_LO →
    (n < s.daybook.archSeq ∨ s.daybook.lastSeq < n) →
    CompletesDb (.archSeqWrite .mc v) s (fun m d => m.resp = some .ok ∧ d = s.daybook ∧ Frame [] [.resp] s.mod.fresh m))

/-- R515 to R518, R528, R529: a step that software may make waits for its instant; it sets module time and VALID and is recorded with
TIME_STEP. TIM_RATE_PPB and TIM_UTC_OFFSET take the value and are recorded; a rate beyond ±100,000 ppb, or while CYC steers, is a bus
error. Arming latches the fire time; a trigger whose time has passed fires at once, late; a fired trigger without a period is disarmed
and a periodic one advances by its period. -/
def Obligations.ModuleTime : Prop :=
  (∀ (who : Initiator) (v : Word32) (s : State), s.mod.mayWrite who 0x1000C v.toNat = true → bitOf v.toNat 0 = true →
    s.mod.timeSteered = false → s.mod.get Reg.TIM_STEP_NS_NS < 1000000000 →
    Completes (.step who v) s (fun m => m.resp = some .ok ∧ m.get Reg.TIM_CTL_STEP = 1 ∧ m.get Reg.TIM_CTL_SOURCE = bitsOf v.toNat 2 1 ∧
      Frame [Reg.TIM_CTL_STEP.key 0 0, Reg.TIM_CTL_SOURCE.key 0 0] [.resp] s.mod.fresh m)) ∧
  (∀ (who : Initiator) (v : Word32) (s : State), s.mod.mayWrite who 0x1000C v.toNat = true → bitOf v.toNat 0 = true →
    (s.mod.timeSteered = true ∨ 1000000000 ≤ s.mod.get Reg.TIM_STEP_NS_NS) →
    Completes (.step who v) s (fun m => m.resp = some .busError ∧ Frame [] [.resp] s.mod.fresh m)) ∧
  (∀ s : State, s.mod.get Reg.TIM_CTL_STEP = 1 → s.mod.get Reg.TIM_STEP_NS_NS < 1000000000 → s.mod.tim.armed = [] → Room s.mod →
    Completes .timeStep s (fun m => m.secs = s.mod.get Reg.TIM_STEP_SEC_HI_SEC_HI * 2 ^ 32 + s.mod.get Reg.TIM_STEP_SEC_LO_SEC_LO ∧
      m.nanos = s.mod.get Reg.TIM_STEP_NS_NS ∧ m.get Reg.TIM_CTL_VALID = 1 ∧ m.get Reg.TIM_CTL_STEP = 0 ∧ m.now = s.mod.now ∧
      (∃ l, Noted s.mod m 0x0080 1 (l ++ [0])) ∧
      Frame [Reg.TIM_CTL_VALID.key 0 0, Reg.TIM_CTL_STEP.key 0 0, Reg.DBK_STATUS_PEAK.key 0 0] [.modTime, .dbk] s.mod.fresh m)) ∧
  (∀ s : State, s.mod.get Reg.TIM_CTL_STEP = 0 → Completes .timeStep s (fun m => Frame [] [] s.mod.fresh m)) ∧
  (∀ (who : Initiator) (v : Word32) (s : State), s.mod.mayWrite who 0x10020 v.toNat = true → s.mod.timeSteered = false →
    (sext 32 v.toNat).natAbs ≤ 100000 → Room s.mod →
    Completes (.rateSet who v) s (fun m => m.resp = some .ok ∧ m.get Reg.TIM_RATE_PPB_PPB = v.toNat ∧
      Noted s.mod m 0x0081 1 [s.mod.get Reg.TIM_RATE_PPB_PPB, v.toNat] ∧
      Frame [Reg.TIM_RATE_PPB_PPB.key 0 0, Reg.DBK_STATUS_PEAK.key 0 0] [.resp, .dbk] s.mod.fresh m)) ∧
  (∀ (who : Initiator) (v : Word32) (s : State), s.mod.mayWrite who 0x10020 v.toNat = true →
    (s.mod.timeSteered = true ∨ 100000 < (sext 32 v.toNat).natAbs) →
    Completes (.rateSet who v) s (fun m => m.resp = some .busError ∧ Frame [] [.resp] s.mod.fresh m)) ∧
  (∀ (who : Initiator) (v : Word32) (s : State), s.mod.mayWrite who 0x10024 v.toNat = true → Room s.mod →
    Completes (.utcOffsetSet who v) s (fun m => m.resp = some .ok ∧ m.get Reg.TIM_UTC_OFFSET_OFFSET = v.toNat % 65536 ∧
      Noted s.mod m 0x0082 1 [s.mod.get Reg.TIM_UTC_OFFSET_OFFSET, v.toNat % 65536] ∧
      Frame [Reg.TIM_UTC_OFFSET_OFFSET.key 0 0, Reg.DBK_STATUS_PEAK.key 0 0] [.resp, .dbk] s.mod.fresh m)) ∧
  (∀ (p : Pair) (n : Fin 8) (v : Word32) (fire : Nat) (s : State), s.mod.split p.val = false → bitOf v.toNat 0 = true →
    bitsOf v.toNat 3 2 = 0 → s.mod.task.table = none →
    fire = (bitsOf v.toNat 16 16 * 2 ^ 32 + s.mod.get Reg.TIM_TRIGn_SEC_LO_SEC_LO n.val) * 10 ^ 9 + s.mod.get Reg.TIM_TRIGn_NS_NS n.val →
    Completes (.triggerArm (.pair p) n v) s (fun m => m.resp = some .ok ∧
      ((if bitOf v.toNat 1 then s.mod.now else s.mod.modTime / 10 ^ 9) ≤ fire → alGet m.tim.armed n.val = some fire ∧
        m.get Reg.TIM_TRIGn_CTL_ENABLE n.val = 1 ∧ m.fc = s.mod.fc) ∧
      (fire < (if bitOf v.toNat 1 then s.mod.now else s.mod.modTime / 10 ^ 9) → m.get Reg.TIM_TRIGn_CTL_FIRED n.val = 1 ∧
        m.get Reg.TIM_TRIGn_CTL_LATE n.val = 1 ∧ Raised s.mod m 4 1 0) ∧
      Frame [Reg.TIM_TRIGn_CTL_ENABLE.key n.val 0, Reg.TIM_TRIGn_CTL_BASE.key n.val 0, Reg.TIM_TRIGn_CTL_SEC_HI.key n.val 0,
        Reg.TIM_TRIGn_CTL_FIRED.key n.val 0, Reg.TIM_TRIGn_CTL_LATE.key n.val 0] [.resp, .tim, .fc] s.mod.fresh m)) ∧
  (∀ (p : Pair) (n : Fin 8) (v : Word32) (s : State), s.mod.split p.val = false → bitOf v.toNat 0 = false → bitsOf v.toNat 3 2 = 0 →
    Completes (.triggerArm (.pair p) n v) s (fun m => m.resp = some .ok ∧ (∀ x ∈ m.tim.armed, x.1 ≠ n.val) ∧
      Frame [Reg.TIM_TRIGn_CTL_ENABLE.key n.val 0, Reg.TIM_TRIGn_CTL_BASE.key n.val 0, Reg.TIM_TRIGn_CTL_SEC_HI.key n.val 0] [.resp, .tim]
        s.mod.fresh m)) ∧
  (∀ (n : Fin 8) (f : Nat) (s : State), alGet s.mod.tim.armed n.val = some f → f ≤ s.mod.trigNow n.val + 1000 → s.mod.task.table = none →
    (s.mod.get Reg.TIM_TRIGn_PERIOD_PERIOD_US n.val = 0 ∨
      s.mod.trigNow n.val ≤ f + s.mod.get Reg.TIM_TRIGn_PERIOD_PERIOD_US n.val * 1000) →
    Completes (.triggerFire n) s (fun m => m.get Reg.TIM_TRIGn_CTL_FIRED n.val = 1 ∧
      (s.mod.get Reg.TIM_TRIGn_PERIOD_PERIOD_US n.val = 0 → m.get Reg.TIM_TRIGn_CTL_ENABLE n.val = 0 ∧ ∀ x ∈ m.tim.armed, x.1 ≠ n.val) ∧
      (s.mod.get Reg.TIM_TRIGn_PERIOD_PERIOD_US n.val ≠ 0 → m.get Reg.TIM_TRIGn_CTL_ENABLE n.val = s.mod.get Reg.TIM_TRIGn_CTL_ENABLE n.val ∧
        alGet m.tim.armed n.val = some (f + s.mod.get Reg.TIM_TRIGn_PERIOD_PERIOD_US n.val * 1000)) ∧
      Frame [Reg.TIM_TRIGn_CTL_FIRED.key n.val 0, Reg.TIM_TRIGn_CTL_ENABLE.key n.val 0] [.tim] s.mod.fresh m))

/-! ### Configuration -/

/-- R12, R545 to R550, R563, R636: BEGIN opens a transaction and a second one is refused; inside it a write goes to the shadow, and only the
commit gives the field its value and reports it; a commit that a block refuses, or that would persist without its key, changes
nothing; ABORT discards. A generation that has been written is in force on the key; removing the key leaves the unit running, and a
returned key counts as the same only if it is authentic with the serial and the generation of the start. A delivered generation goes
into the slot that the header does not name. -/
def Obligations.Configuration : Prop :=
  (∀ (who : Initiator) (v : Word32) (s : State), s.mod.mayWrite who 0xF0000 v.toNat = true → bitOf v.toNat 0 = true → s.mod.cfg.txn = none →
    s.mod.get Reg.CFG_TXN_STATUS_STATE = 0 → s.mod.triad = false →
    ∃ x : Txn, (who = .mc ∧ x.owner = .mc ∧ x.task = 48 ∨ ∃ p : Pair, who = .pair p ∧ x.owner = .pair p.val ∧ x.task = s.mod.txnTask p.val) ∧
      x.writes = [] ∧ x.lists = [] ∧
      Completes (.begin_ who v) s (fun m => m.resp = some .ok ∧ m.cfg = { s.mod.cfg with txn := some x } ∧
        m.get Reg.CFG_TXN_STATUS_STATE = 1 ∧ m.get Reg.CFG_TXN_STATUS_OWNER = ownerCode x.owner % 8 ∧
        m.get Reg.CFG_TXN_STATUS_WRITES = 0 ∧
        Frame [Reg.CFG_TXN_STATUS_STATE.key 0 0, Reg.CFG_TXN_STATUS_OWNER.key 0 0, Reg.CFG_TXN_STATUS_WRITES.key 0 0,
          Reg.CFG_TXN_BEGIN_BEGIN.key 0 0] [.resp, .cfg] s.mod.fresh m)) ∧
  (∀ (p : Pair) (v : Word32) (x : Txn) (s : State), s.mod.split p.val = false → bitOf v.toNat 0 = true → s.mod.cfg.txn = some x →
    x.owner ≠ .triad →
    Completes (.begin_ (.pair p) v) s (fun m => m.resp = some .busError ∧ Raised s.mod m 0x130 3 0 ∧ Frame [] [.resp, .fc] s.mod.fresh m)) ∧
  (∀ (p : Pair) (v : Word32) (x : Txn) (s : State), s.mod.split p.val = false → s.mod.cfg.txn = some x → x.owner = .pair p.val →
    x.writes = [] →
    Completes (.registerWrite (.pair p) (BitVec.ofNat 40 (regBase + 0xB0008)) v) s (fun m => m.resp = some .ok ∧
      m.cfg.txn = some { x with writes := [⟨0xB0008, v.toNat⟩] } ∧ m.get Reg.CFG_TXN_STATUS_WRITES = 1 ∧
      m.get Reg.LBB_TIMEOUT_HOLD_US = s.mod.get Reg.LBB_TIMEOUT_HOLD_US ∧ FrameIn [0, 15] [.resp, .cfg] s.mod.fresh m)) ∧
  (∀ (p : Pair) (v : Word32) (x : Txn) (w : Nat) (s : State), s.mod.split p.val = false → bitOf v.toNat 0 = true → bitOf v.toNat 1 = false →
    s.mod.cfg.txn = some x → x.owner = .pair p.val → x.task = 48 → s.mod.caller p.val = none → x.overflow = false →
    x.writes = [⟨0xB0008, w⟩] → 10 ≤ bitsOf w 8 16 → bitsOf w 8 16 ≤ 10000 → 2 ≤ bitsOf w 0 5 →
    bitsOf w 0 5 ≤ 20 → lbbCheck s.mod = true → s.mod.unit = stACTIVE → Room s.mod →
    Completes (.commit (.pair p) v) s (fun m => m.resp = some .ok ∧ m.get Reg.LBB_TIMEOUT_HOLD_US = bitsOf w 8 16 ∧
      m.get Reg.LBB_TIMEOUT_ACCESS_US = bitsOf w 0 5 ∧ m.cfg.txn = none ∧ m.get Reg.CFG_TXN_STATUS_RESULT = 1 ∧
      m.get Reg.CFG_TXN_STATUS_STATE = 0 ∧ Noted s.mod m 0x0D80 1 [p.val + 1, s.mod.get Reg.CFG_TXN_STATUS_WRITES, 0] ∧
      FrameIn [2, 5, 8, 9, 10, 11, 12, 14, 15] [.out, .resp, .prt, .dio, .lbb, .dbk, .cfg] s.mod.fresh m)) ∧
  (∀ (p : Pair) (v : Word32) (x : Txn) (w : Nat) (s : State), s.mod.split p.val = false → bitOf v.toNat 0 = true → bitOf v.toNat 1 = false →
    s.mod.cfg.txn = some x → x.owner = .pair p.val → x.task = 48 → s.mod.caller p.val = none → x.overflow = false →
    x.writes = [⟨0xB0008, w⟩] → bitsOf w 8 16 < 10 →
    Completes (.commit (.pair p) v) s (fun m => m.resp = some .ok ∧ m.cfg.txn = none ∧ m.get Reg.CFG_TXN_STATUS_RESULT = 2 ∧
      m.get Reg.CFG_TXN_STATUS_BLOCK = 11 ∧ m.get Reg.CFG_TXN_STATUS_STATE = 0 ∧ Raised s.mod m 0x130 2 0 ∧
      FrameIn [15] [.resp, .fc, .cfg] s.mod.fresh m)) ∧
  (∀ (p : Pair) (v : Word32) (x : Txn) (s : State), s.mod.split p.val = false → bitOf v.toNat 0 = true → bitOf v.toNat 1 = true →
    s.mod.cfg.txn = some x → x.owner = .pair p.val → x.task = 48 → s.mod.caller p.val = none →
    (s.mod.get Reg.CFG_KEY_STATUS_PRESENT = 0 ∨ s.mod.get Reg.CFG_KEY_STATUS_SAME_KEY = 0) →
    Completes (.commit (.pair p) v) s (fun m => m.resp = some .ok ∧ m.cfg.txn = none ∧ m.get Reg.CFG_TXN_STATUS_RESULT = 5 ∧
      Raised s.mod m 0x130 2 0 ∧ FrameIn [15] [.resp, .fc, .cfg] s.mod.fresh m)) ∧
  (∀ (p : Pair) (v : Word32) (x : Txn) (s : State), s.mod.split p.val = false → bitOf v.toNat 0 = true → s.mod.cfg.txn = some x →
    x.owner = .pair p.val → x.lists = [] →
    Completes (.abort (.pair p) v) s (fun m => m.resp = some .ok ∧ m.cfg = { s.mod.cfg with txn := none } ∧
      m.get Reg.CFG_TXN_STATUS_RESULT = 3 ∧ m.get Reg.CFG_TXN_STATUS_STATE = 0 ∧
      Frame [Reg.CFG_TXN_STATUS_STATE.key 0 0, Reg.CFG_TXN_STATUS_OWNER.key 0 0, Reg.CFG_TXN_STATUS_WRITES.key 0 0,
        Reg.CFG_TXN_STATUS_RESULT.key 0 0, Reg.CFG_TXN_BEGIN_BEGIN.key 0 0] [.resp, .cfg] s.mod.fresh m)) ∧
  (∀ (k : TallyKey) (v : Nat) (l : List Byte) (s : State), s.mod.cfg.key = some k → s.mod.cfg.writing = some (v, l) → v < 2 → Room s.mod →
    Completes .generationWritten s (fun m => m.cfg.writing = none ∧ m.get Reg.CFG_KEY_STATUS_WRITING = 0 ∧
      m.get Reg.CFG_KEY_STATUS_SLOT = v ∧ m.get Reg.CFG_GENERATION_GENERATION = listLE l 8 4 ∧
      (∃ k', m.cfg.key = some k' ∧ k'.serial = k.serial ∧ keyBytes k' (slotBase v) l.length = l) ∧
      Noted s.mod m 0x0D81 1 [listLE l 8 4, v] ∧
      Frame [Reg.CFG_KEY_STATUS_WRITING.key 0 0, Reg.CFG_KEY_STATUS_SLOT.key 0 0, Reg.CFG_GENERATION_GENERATION.key 0 0,
        Reg.CFG_KEY_STATUS_OTHER_VALID.key 0 0, Reg.DBK_STATUS_PEAK.key 0 0] [.dbk, .cfg] s.mod.fresh m)) ∧
  (∀ (k : TallyKey) (s : State), s.mod.cfg.key = some k → s.mod.cfg.writing = none →
    Completes .keyRemoved s (fun m => m.cfg.key = none ∧ m.get Reg.CFG_KEY_STATUS_PRESENT = 0 ∧ m.get Reg.CFG_KEY_STATUS_SAME_KEY = 0 ∧
      m.unit = s.mod.unit ∧ CountedUp Reg.CFG_KEY_STATUS_REMOVALS 0 0 s.mod m ∧ Raised s.mod m 0x130 5 0 ∧
      Frame [Reg.CFG_KEY_STATUS_PRESENT.key 0 0, Reg.CFG_KEY_STATUS_SAME_KEY.key 0 0, Reg.CFG_KEY_STATUS_OTHER_VALID.key 0 0,
        Reg.CFG_KEY_STATUS_WRITING.key 0 0, Reg.CFG_KEY_STATUS_REMOVALS.key 0 0] [.fc, .cfg] s.mod.fresh m)) ∧
  (∀ (k : TallyKey) (s : State), s.mod.cfg.key = none → s.mod.unit = stBOOT →
    Completes (.keyReturned k) s (fun m => m.cfg.key = some k ∧ m.get Reg.CFG_KEY_STATUS_PRESENT = 1 ∧
      Frame [Reg.CFG_KEY_STATUS_PRESENT.key 0 0] [.cfg] s.mod.fresh m)) ∧
  (∀ (k : TallyKey) (n : Nat) (s : State), s.mod.cfg.key = none → s.mod.unit ≠ stBOOT → s.mod.unit ≠ stCONFIG →
    s.mod.upd.confirmDue = false → s.mod.upd.boot.fallingBack = false → Room s.mod → n = ((s.mod.pickGen k).map (·.2.number)).getD 0 →
    Completes (.keyReturned k) s (fun m => m.cfg.key = some k ∧ m.get Reg.CFG_KEY_STATUS_PRESENT = 1 ∧
      m.get Reg.CFG_KEY_STATUS_AUTH_OK = b2n k.authentic ∧
      m.get Reg.CFG_KEY_STATUS_SAME_KEY = b2n (k.authentic && k.serial == s.mod.cfg.startSerial && n == s.mod.cfg.startGen) ∧
      (k.authentic = false → Raised s.mod m 0x130 7 0) ∧
      (k.authentic = true → (k.serial ≠ s.mod.cfg.startSerial ∨ n ≠ s.mod.cfg.startGen) → Raised s.mod m 0x130 6 0) ∧
      Noted s.mod m 0x0D82 1 [b2n (k.authentic && k.serial == s.mod.cfg.startSerial && n == s.mod.cfg.startGen)] ∧
      Frame [Reg.CFG_KEY_STATUS_PRESENT.key 0 0, Reg.CFG_KEY_STATUS_AUTH_OK.key 0 0, Reg.CFG_KEY_STATUS_SAME_KEY.key 0 0,
        Reg.CFG_KEY_STATUS_OTHER_VALID.key 0 0, Reg.DBK_STATUS_PEAK.key 0 0] [.fc, .dbk, .cfg] s.mod.fresh m)) ∧
  (∀ (svc : Svc) (image : List Byte) (k : TallyKey) (g : Generation) (s : State), s.mod.unit = stCONFIG → s.mod.svcHas svc.val pmUPDATE = true →
    s.mod.cfg.key = some k → k.authentic = true → parseGeneration (listLE image) (sliceB image) = some g →
    s.mod.upd.boot.fallingBack = false → s.mod.upd.boot.trial = false →
    Completes (.generationDelivery svc image) s (fun m =>
      (s.mod.genSigned (listLE image) (sliceB image) = true → ∃ k', m.cfg.key = some k' ∧ k'.serial = k.serial ∧
        keyBytes k' (slotBase ((keySlot k).elim 0 (1 - ·))) image.length = image) ∧
      (s.mod.genSigned (listLE image) (sliceB image) = false → Frame [] [] s.mod.fresh m)))

/-! ### Security -/

/-- R544, R552, R553, R555 to R559, R565: an answer of SEC lies in the mailbox; an owner command that fails a check changes nothing but
SEC's result, and is raised unless its format is wrong; one that passes has its effect, takes its nonce away and is recorded. A tamper
trip erases the device key, the owner, the sessions and the secret region and nothing else; on an armed unit it makes the connector
live in place of TAMPER. The order of the checks is the model's choice. -/
def Obligations.Security : Prop :=
  (∀ s : State, SecFree s.mod →
    Completes .getNonce s (fun m => (∃ n, n.length = 16 ∧ m.rdBytes s.mod.mbox 16 = n ∧
        m.sec = { s.mod.sec with nonces := s.mod.sec.nonces ++ [(n, s.mod.now + 600000000000)], noncesMade := s.mod.sec.noncesMade + 1 }) ∧
      m.get Reg.SEC_STATUS_RESULT = srDONE ∧ (∀ a, a < s.mod.mbox ∨ s.mod.mbox + 1024 ≤ a → m.rd8 a = s.mod.rd8 a) ∧
      Frame secKeys [.mem, .sec] s.mod.fresh m)) ∧
  (∀ s : State, SecFree s.mod →
    Completes .getCsr s (fun m =>
      (∀ k, s.mod.sec.deviceKey = some k → m.get Reg.SEC_STATUS_RESULT = srDONE ∧
        m.rdBytes s.mod.mbox ((Config.deviceCsr k).take 1024).length = (Config.deviceCsr k).take 1024) ∧
      (s.mod.sec.deviceKey = none → m.get Reg.SEC_STATUS_RESULT = srSTATE ∧ MemKept s.mod m) ∧
      (∀ a, a < s.mod.mbox ∨ s.mod.mbox + 1024 ≤ a → m.rd8 a = s.mod.rd8 a) ∧ Frame secKeys [.mem] s.mod.fresh m)) ∧
  (∀ s : State, SecFree s.mod →
    Completes .getCert s (fun m => m.get Reg.SEC_STATUS_RESULT = srDONE ∧
      m.rdBytes s.mod.mbox (s.mod.sec.deviceCert.take 1024).length = s.mod.sec.deviceCert.take 1024 ∧
      (∀ a, a < s.mod.mbox ∨ s.mod.mbox + 1024 ≤ a → m.rd8 a = s.mod.rd8 a) ∧ Frame secKeys [.mem] s.mod.fresh m)) ∧
  (∀ (c : Instr) (op : Nat) (s : State), ownerOp c = some op → SecFree s.mod → s.mod.mboxRd 6 2 = op →
    (∀ v, c = .session v → s.mod.svcPresent v.val = true) →
    Completes c s (fun m => s.mod.ownerCheck ≠ srDONE → m.get Reg.SEC_STATUS_RESULT = s.mod.ownerCheck ∧
      (s.mod.ownerCheck = srFORMAT → m.fc = s.mod.fc) ∧ (s.mod.ownerCheck ≠ srFORMAT → Raised s.mod m 0x150 2 0) ∧
      Frame secKeys [.fc] s.mod.fresh m)) ∧
  (∀ (c : Instr) (op : Nat) (s : State), ownerOp c = some op → SecFree s.mod → s.mod.mboxRd 6 2 = op →
    (∀ v, c = .session v → s.mod.svcPresent v.val = true) → s.mod.ownerFormat = false →
    Completes c s (fun m => m.get Reg.SEC_STATUS_RESULT = srFORMAT ∧ Frame secKeys [] s.mod.fresh m)) ∧
  (∀ (c : Instr) (op : Nat) (s : State), ownerOp c = some op → SecFree s.mod → s.mod.mboxRd 6 2 = op →
    (∀ v, c = .session v → s.mod.svcPresent v.val = true) → s.mod.unit ≠ stCONFIG →
    Completes c s (fun m => s.mod.ownerCheck = srDONE → m.get Reg.SEC_STATUS_RESULT = srDONE ∧
      (∀ x ∈ m.sec.nonces, x.1 ≠ s.mod.mboxBytes 0x10 16) ∧
      (c = .enrol ∨ c = .transfer → m.sec.ownerCert = some s.mod.mboxCert ∧ m.get Reg.SEC_STATUS_OWNER = 1 ∧
        m.sec.binding = s.mod.mboxBytes (0x50 + (s.mod.mboxDataLen - 96)) 96 ∧ (c = .enrol → m.sec.deviceKey.isSome = true) ∧
        (s.mod.sec.deviceKey.isSome = true → m.sec.deviceKey = s.mod.sec.deviceKey)) ∧
      (c = .updateLock → m.get Reg.SEC_OWNER_LOCK_UPD_LOCK = s.mod.mboxRd 0x20 1) ∧
      (c = .debugUnlock → m.sec.armedUntil = some (s.mod.now + 600000000000) ∧ m.get Reg.SEC_STATUS_DEBUG_ARMED = 1 ∧
        m.get Reg.DBG_STATUS_ARMED = 1 ∧ m.get Reg.DBG_STATUS_SCOPE = s.mod.mboxRd 0x20 1 + 8 * s.mod.mboxRd 0x21 1) ∧
      (∀ v, c = .session v → ∃ r ∈ m.sec.sessions, r.svc = v.val ∧ r.perms = s.mod.mboxRd 0x24 4 ∧
        r.ends = s.mod.now + s.mod.mboxRd 0x28 4 * 1000000000 ∧ ∀ x ∈ m.sec.sessions, x.svc = v.val → x = r) ∧
      (c = .unlatch → m.lgr.safeLatch = false ∧ m.get Reg.SYS_STATE_SAFE_LATCH = 0) ∧
      (c = .installCert → m.sec.deviceCert = s.mod.mboxData ∧ m.get Reg.SEC_STATUS_ERASED = 0) ∧
      FrameIn [0, 14, 17, 18] [.sec, .lgr, .fc, .dbk] s.mod.fresh m)) ∧
  (∀ (c : Instr) (op : Nat) (s : State), ownerOp c = some op → s.mod.get Reg.SEC_STATUS_BUSY = 1 → s.mod.get Reg.SEC_CMD_OP ≠ scOWNER →
    Completes c s (fun m => Frame [] [] s.mod.fresh m)) ∧
  (∀ s : State, Room s.mod →
    Completes .tamperTrip s (fun m => m.get Reg.SEC_STATUS_TAMPER = 1 ∧ m.get Reg.DBG_STATUS_COVER_OPEN = 1 ∧
      m.get Reg.SEC_STATUS_ERASED = 1 ∧ m.get Reg.SEC_STATUS_DEVICE_KEY = 0 ∧ m.get Reg.SEC_STATUS_OWNER = 0 ∧
      m.sec = { s.mod.sec with deviceKey := none, ownerCert := none, binding := [], sessions := [] } ∧
      (∀ a, m.rd8 a = if mramBase + 0x3F00000 ≤ a ∧ a < mramBase + 0x4000000 then 0 else s.mod.rd8 a) ∧
      Noted s.mod m 0x0F81 2 [b2n (s.mod.flag Reg.SEC_STATUS_DEBUG_ARMED)] ∧
      (s.mod.get Reg.SEC_STATUS_DEBUG_ARMED = 0 → Raised s.mod m 0x150 1 0 ∧
        m.get Reg.DBG_STATUS_PORT_LIVE = s.mod.get Reg.DBG_STATUS_PORT_LIVE) ∧
      (s.mod.get Reg.SEC_STATUS_DEBUG_ARMED ≠ 0 → m.fc = s.mod.fc ∧ m.get Reg.DBG_STATUS_PORT_LIVE = 1) ∧
      Frame [Reg.SEC_STATUS_TAMPER.key 0 0, Reg.DBG_STATUS_COVER_OPEN.key 0 0, Reg.SEC_STATUS_ERASED.key 0 0,
        Reg.SEC_STATUS_DEVICE_KEY.key 0 0, Reg.SEC_STATUS_OWNER.key 0 0, Reg.DBG_STATUS_PORT_LIVE.key 0 0, Reg.DBK_STATUS_PEAK.key 0 0]
        [.mem, .fc, .dbk, .sec] s.mod.fresh m)) ∧
  (∀ s : State,
    Completes .debugArmExpiry s (fun m => m.sec = { s.mod.sec with armedUntil := none } ∧ m.get Reg.SEC_STATUS_DEBUG_ARMED = 0 ∧
      m.get Reg.DBG_STATUS_ARMED = 0 ∧
      m.get Reg.DBG_STATUS_SCOPE = (if s.mod.get Reg.DBG_STATUS_PORT_LIVE = 0 then 0 else s.mod.get Reg.DBG_STATUS_SCOPE) ∧
      Frame [Reg.SEC_STATUS_DEBUG_ARMED.key 0 0, Reg.DBG_STATUS_ARMED.key 0 0, Reg.DBG_STATUS_SCOPE.key 0 0] [.sec] s.mod.fresh m)) ∧
  (∀ (svc : Svc) (s : State),
    Completes (.sessionEnd svc) s (fun m => m.sec = { s.mod.sec with
        sessions := s.mod.sec.sessions.filter (fun r => r.svc != svc.val) } ∧ (∀ r ∈ m.sec.sessions, r.svc ≠ svc.val) ∧
      Frame [] [.sec] s.mod.fresh m))

/-! ### Updates and tests -/

/-- R569 to R586, R591: a package without its session changes nothing; one that is malformed is refused with code 7 and one that verifies is
written in the background; the written parts stand in their other slots, STAGED. ACTIVATE is refused while the vehicle moves, and a set
that passes quiesces; then the trial begins with a restart from the new slots. A part that passes its start check is confirmed and
one that fails falls back; a Porter that does not forward restarts from its old slot. CONFIRM needs its clean cycles; without them at
the end of the window, or on command, the module falls back with a restart. -/
def Obligations.Updates : Prop :=
  (∀ (svc : Svc) (pkg : List Byte) (s : State), s.mod.svcHas svc.val pmUPDATE = false →
    Completes (.packageStage svc pkg) s (fun m => Frame [] [] s.mod.fresh m)) ∧
  (∀ (svc : Svc) (pkg : List Byte) (s : State), s.mod.svcHas svc.val pmUPDATE = true → s.mod.get Reg.UPD_STATE_PHASE = 0 →
    s.mod.supplyPoor = false → s.mod.get Reg.SEC_OWNER_LOCK_UPD_LOCK = 0 → parsePackage (listLE pkg) (sliceB pkg) pkg.length = none →
    Completes (.packageStage svc pkg) s (fun m => m.get Reg.UPD_REFUSE_CODE = 7 ∧ m.get Reg.UPD_REFUSE_PART = 0 ∧
      Raised s.mod m 0x140 1 0 ∧ m.rdBytes stagingDram pkg.length = pkg ∧
      Frame [Reg.UPD_REFUSE_CODE.key 0 0, Reg.UPD_REFUSE_PART.key 0 0] [.mem, .fc] s.mod.fresh m)) ∧
  (∀ (svc : Svc) (pkg : List Byte) (g : Package) (s : State), s.mod.svcHas svc.val pmUPDATE = true → s.mod.get Reg.UPD_STATE_PHASE = 0 →
    parsePackage (listLE pkg) (sliceB pkg) pkg.length = some g → s.mod.stageCode (some g) = none → g.has 7 = false →
    Completes (.packageStage svc pkg) s (fun m =>
      (∀ p, s.mod.verifyPackage (sliceB pkg) g = .error p → m.get Reg.UPD_REFUSE_CODE = 5 ∧ Raised s.mod m 0x140 1 0 ∧ m.upd = s.mod.upd ∧
        m.get Reg.UPD_STATE_PHASE = 0) ∧
      (∀ l, s.mod.verifyPackage (sliceB pkg) g = .ok l → m.get Reg.UPD_STATE_PHASE = 1 ∧ m.upd = { s.mod.upd with pkg := some g, plain := l } ∧
        m.fc = s.mod.fc) ∧ m.rdBytes stagingDram pkg.length = pkg ∧ FrameIn [16] [.mem, .fc, .upd] s.mod.fresh m)) ∧
  (∀ (g : Package) (p : PkgPart) (s : State), s.mod.upd.pkg = some g → g.parts = [p] → 1 ≤ p.part → p.part ≤ 5 →
    s.mod.get Reg.UPD_STATE_PHASE = 1 → Room s.mod →
    Completes .updStaged s (fun m => m.updState = upSTAGED ∧ m.get Reg.UPD_STATE_PHASE = 0 ∧
      m.get Reg.UPD_STATE_PARTS = 2 ^ (p.part - 1) ∧
      (∀ f ∈ s.mod.upd.slots, f.part = p.part → f.fill (1 - f.cur) p.version p.reqs
        (((s.mod.upd.plain.find? (fun x => x.1 == p.part)).map (·.2)).getD []) ∈ m.upd.slots) ∧
      Noted s.mod m 0x0E80 1 [g.id, 2 ^ (p.part - 1)] ∧ FrameIn [0, 14, 16] [.upd, .lgr, .dbk] s.mod.fresh m)) ∧
  (∀ (v : Word32) (s : State), s.mod.updState = upSTAGED → s.mod.get Reg.UPD_STATE_PHASE = 0 → bitsOf v.toNat 0 4 = 8 →
    Completes (.updCancel .mc v) s (fun m => m.resp = some .ok ∧ m.updState = upIDLE ∧
      (s.mod.pkgHas 7 = true → m.chg.pendingSet = none) ∧ m.upd = s.mod.upd ∧ FrameIn [0, 16] [.resp, .lgr, .chg] s.mod.fresh m)) ∧
  (∀ (svc : Svc) (v : Word32) (g : Package) (s : State), s.mod.svcHas svc.val pmUPDATE = true → s.mod.get Reg.UPD_STATE_PHASE = 0 →
    s.mod.upd.pkg = some g → s.mod.updState = upSTAGED → s.mod.atRest = false → bitsOf v.toNat 0 4 = 1 →
    Completes (.activate .mc svc v) s (fun m => m.resp = some .ok ∧ m.get Reg.UPD_REFUSE_CODE = 1 ∧ Raised s.mod m 0x140 1 0 ∧
      Frame [Reg.UPD_CTL_MODE.key 0 0, Reg.UPD_REFUSE_CODE.key 0 0, Reg.UPD_REFUSE_PART.key 0 0] [.resp, .fc] s.mod.fresh m)) ∧
  (∀ (svc : Svc) (v : Word32) (g : Package) (s : State), s.mod.svcHas svc.val pmUPDATE = true → s.mod.get Reg.UPD_STATE_PHASE = 0 →
    s.mod.upd.pkg = some g → s.mod.updState = upSTAGED → s.mod.activateCode g false = none → g.has 2 = true → bitsOf v.toNat 0 5 = 1 →
    Room s.mod →
    Completes (.activate .mc svc v) s (fun m => m.resp = some .ok ∧ m.get Reg.UPD_STATE_PHASE = 2 ∧ m.get Reg.UPD_STATE_MODE = 0 ∧
      m.upd = { s.mod.upd with quiescing := true, quiesceCycles := 0 } ∧ Noted s.mod m 0x0E81 1 [g.id, 0] ∧
      FrameIn [14, 16] [.resp, .upd, .dbk] s.mod.fresh m)) ∧
  (∀ s : State, s.mod.upd.quiescing = true → s.mod.quiet2 = true → s.mod.pkgHas 6 = false →
    Completes .activationQuiesced s (fun m => Restarted Reg.SYS_RESET_CAUSE_UPDATE s.mod m ∧ m.updState = upTRIAL ∧
      m.get Reg.UPD_STATE_PHASE = 0 ∧ m.upd.boot = ⟨true, false, false, 0, s.mod.upd.policy.confirmS, 0, 0⟩ ∧ m.now = s.mod.now ∧
      (∀ p ∈ [1, 2, 5], s.mod.pkgHas p = true → (∃ f ∈ s.mod.upd.slots, f.part = p) → (m.fwPart p).cur = 1 - (s.mod.fwPart p).cur))) ∧
  (∀ s : State, s.mod.upd.quiescing = true → s.mod.quiet2 = false →
    Completes .activationQuiesced s (fun m => Frame [] [] s.mod.fresh m)) ∧
  (∀ (p : Nat) (s : State), s.mod.upd.partNow = some p → p ≠ 6 → s.mod.upd.partQueue = [] →
    Completes (.partStartCheck true) s (fun m => m.updState = upCONFIRMED ∧ m.get Reg.UPD_STATE_PHASE = 0 ∧
      m.upd = { s.mod.upd with partNow := none, partsConfirmed := s.mod.upd.partsConfirmed ++ [p] } ∧
      FrameIn [0, 16] [.upd, .lgr] s.mod.fresh m)) ∧
  (∀ s : State, s.mod.upd.partNow = some 2 → s.mod.upd.partQueue = [] → s.mod.upd.partsConfirmed = [] →
    Completes (.partStartCheck false) s (fun m => m.updState = upFALLEN ∧ m.get Reg.UPD_STATE_PHASE = 0 ∧ m.upd.partNow = none ∧
      Raised s.mod m 0x140 3 0 ∧ ((∃ f ∈ s.mod.upd.slots, f.part = 2) → (m.fwPart 2).cur = 1 - (s.mod.fwPart 2).cur) ∧
      FrameIn [0, 16] [.upd, .lgr, .fc] s.mod.fresh m)) ∧
  (∀ s : State, s.mod.upd.boot.porters = true → (s.mod.get Reg.UPD_STATE_PHASE = 4 ∨ s.mod.get Reg.UPD_STATE_PHASE = 5) →
    s.mod.upd.boot.fallingBack = false →
    Completes (.porterUpdateCheck true) s (fun m =>
      m.get Reg.UPD_STATE_PHASE = (if s.mod.upd.porterQueue = [] then 0 else 2) ∧
      Frame [Reg.UPD_STATE_PHASE.key 0 0] [] s.mod.fresh m)) ∧
  (∀ (b : Side) (s : State), s.mod.upd.boot.porters = true → s.mod.get Reg.UPD_STATE_PHASE = 4 + b.val → s.mod.upd.boot.fallingBack = false →
    s.mod.updState = upTRIAL → s.mod.upd.fallbackDue = none → s.mod.hasTwin = false → s.mod.upd.porterDone = [b.val] →
    Completes (.porterUpdateCheck false) s (fun m => m.upd.boot.fallingBack = true ∧ m.upd.boot.cause = 5 ∧ m.unit = s.mod.unit ∧
      m.get Reg.UPD_STATE_PHASE = 4 + b.val ∧ m.upd.porterQueue = [] ∧
      ((∃ f ∈ s.mod.upd.slots, f.part = 3 + b.val) → (m.fwPart (3 + b.val)).cur = 1 - (s.mod.fwPart (3 + b.val)).cur))) ∧
  (∀ (v : Word32) (s : State), s.mod.updState = upTRIAL → s.mod.cleanEnough = true → s.mod.upd.boot.fallingBack = false →
    s.mod.pkgHas 6 = false → bitsOf v.toNat 0 4 = 2 → Room s.mod →
    Completes (.confirm .mc v) s (fun m => m.resp = some .ok ∧ m.updState = upCONFIRMED ∧ m.upd.boot = .reset ∧
      m.get Reg.UPD_STATE_PHASE = 0 ∧ m.get Reg.LGR_STATUS_HELD = 0 ∧ m.get Reg.SYS_STATE_TRIAL = 0 ∧
      Noted s.mod m 0x0E82 1 [s.mod.pkgId, s.mod.get Reg.UPD_CLEAN_COUNT] ∧
      FrameIn [0, 5, 14, 16] [.resp, .upd, .lgr, .dbk] s.mod.fresh m)) ∧
  (∀ (v : Word32) (s : State), s.mod.updState = upTRIAL → s.mod.cleanEnough = false → bitOf v.toNat 1 = true →
    Completes (.confirm .mc v) s (fun m => m.resp = some .busError ∧ Frame [] [.resp] s.mod.fresh m)) ∧
  (∀ s : State, s.mod.updState = upTRIAL → s.mod.upd.boot.fallingBack = false → s.mod.upd.confirmDue = false → s.mod.cleanEnough = true →
    s.mod.pkgHas 6 = false → Room s.mod →
    Completes .confirmWindowEnd s (fun m => m.updState = upCONFIRMED ∧ m.upd.boot = .reset ∧ m.get Reg.LGR_STATUS_HELD = 0 ∧
      Noted s.mod m 0x0E82 1 [s.mod.pkgId, s.mod.get Reg.UPD_CLEAN_COUNT] ∧ FrameIn [0, 5, 14, 16] [.upd, .lgr, .dbk] s.mod.fresh m)) ∧
  (∀ s : State, s.mod.updState = upTRIAL → s.mod.upd.boot.fallingBack = false → s.mod.upd.confirmDue = false → s.mod.cleanEnough = false →
    s.mod.pkgHas 6 = false → s.mod.upd.fallbackDue = none → s.mod.hasTwin = false → s.mod.upd.boot.porters = false →
    Completes .confirmWindowEnd s (fun m => Restarted Reg.SYS_RESET_CAUSE_UPDATE s.mod m ∧ m.upd.boot.fallingBack = true ∧
      m.upd.boot.trial = false ∧ m.upd.boot.cause = 1)) ∧
  (∀ (v : Word32) (s : State), s.mod.updState = upTRIAL → s.mod.upd.boot.fallingBack = false → s.mod.pkgHas 6 = false →
    s.mod.upd.fallbackDue = none → s.mod.hasTwin = false → s.mod.upd.boot.porters = false → bitsOf v.toNat 0 4 = 4 →
    Completes (.fallbackNow .mc v) s (fun m => m.resp = some .ok ∧ Restarted Reg.SYS_RESET_CAUSE_UPDATE s.mod m ∧
      m.upd.boot.fallingBack = true ∧ m.upd.boot.cause = 2)) ∧
  (∀ (on : Bool) (s : State),
    Completes (.dbkArchive on) s (fun m => m.get Reg.DBK_CTL_ARCHIVE_EN = b2n on ∧
      Frame [Reg.DBK_CTL_ARCHIVE_EN.key 0 0] [] s.mod.fresh m))

/-- R611, R616, R617, R619, R620: a write of SYS_LED lights the lamp test and sets IDENTIFY as written, and the end of the lamp test clears
LAMP_TEST alone. The walking test runs in CONFIG or SAFE on a valid readable, writable, memory-like window; at its end ERRORS
holds the mismatches, saturated, and PASS says that there were none; at any other time GO receives a bus error. A link test that nothing
bars runs with its counters at 0, and a barred one leaves the code of its refusal; STOP ends it. A checked pattern frame adds its bit
errors, and the test goes on with the next one; a frame of the peer is returned. -/
def Obligations.LampsAndTests : Prop :=
  (∀ (who : Initiator) (v : Word32) (s : State), s.mod.mayWrite who 0x40 v.toNat = true →
    ∀ c ∈ [Instr.lampTest who v, Instr.identify who v],
    Completes c s (fun m => m.resp = some .ok ∧ m.get Reg.SYS_LED_IDENTIFY = b2n (bitOf v.toNat 30) ∧
      m.get Reg.SYS_LED_LAMP_TEST = (if bitOf v.toNat 31 then 1 else s.mod.get Reg.SYS_LED_LAMP_TEST) ∧
      Frame [Reg.SYS_LED_LAMP_TEST.key 0 0, Reg.SYS_LED_IDENTIFY.key 0 0] [.resp] s.mod.fresh m)) ∧
  (∀ s : State, Completes .lampTestEnd s (fun m => m.get Reg.SYS_LED_LAMP_TEST = 0 ∧
    Frame [Reg.SYS_LED_LAMP_TEST.key 0 0] [] s.mod.fresh m)) ∧
  (∀ (who : Initiator) (v : Word32) (s : State), s.mod.mayWrite who 0x130500 v.toNat = true → bitOf v.toNat 2 = true →
    s.mod.unit = stCONFIG ∨ s.mod.unit = stSAFE →
    (∀ f ∈ [Reg.LBB_WINw_CFG_VALID, Reg.LBB_WINw_CFG_RD, Reg.LBB_WINw_CFG_WR, Reg.LBB_WINw_CFG_MEMORY_LIKE],
      s.mod.get f (bitsOf v.toNat 16 4) = 1) →
    Completes (.lbbWalkTest who v) s (fun m => m.resp = some .ok ∧ m.get Reg.TEST_LBB_WINDOW = bitsOf v.toNat 16 4 ∧
      m.get Reg.TEST_LBB_RUNNING = 1 ∧ m.get Reg.TEST_LBB_ERRORS = 0 ∧ m.get Reg.TEST_LBB_PASS = 0 ∧
      Frame [Reg.TEST_LBB_WINDOW.key 0 0, Reg.TEST_LBB_RUNNING.key 0 0, Reg.TEST_LBB_ERRORS.key 0 0, Reg.TEST_LBB_PASS.key 0 0] [.resp]
        s.mod.fresh m)) ∧
  (∀ (who : Initiator) (v : Word32) (s : State), s.mod.mayWrite who 0x130500 v.toNat = true → bitOf v.toNat 2 = true →
    s.mod.unit ≠ stCONFIG → s.mod.unit ≠ stSAFE →
    Completes (.lbbWalkTest who v) s (fun m => m.resp = some .busError ∧ Frame [] [.resp] s.mod.fresh m)) ∧
  (∀ (n : Nat) (s : State), s.mod.get Reg.TEST_LBB_RUNNING = 1 →
    Completes (.lbbWalkTestEnd n) s (fun m => m.get Reg.TEST_LBB_RUNNING = 0 ∧ m.get Reg.TEST_LBB_ERRORS = min 255 n ∧
      m.get Reg.TEST_LBB_PASS = b2n (n == 0) ∧
      Frame [Reg.TEST_LBB_RUNNING.key 0 0, Reg.TEST_LBB_ERRORS.key 0 0, Reg.TEST_LBB_PASS.key 0 0] [] s.mod.fresh m)) ∧
  (∀ (svc : Svc) (v : Word32) (l : Nat) (s : State), s.mod.svcHas svc.val pmTEST = true → bitOf v.toNat 31 = true → bitOf v.toNat 30 = false →
    l = bitsOf v.toNat 16 7 → s.mod.linkPresent l = true →
    s.mod.testRefusal l (bitsOf v.toNat 4 2) (if svc.val = 2 then none else some svc.val) = none →
    Completes (.testStart .mc svc v) s (fun m => m.resp = some .ok ∧ m.get Reg.TEST_Ll_STATUS_RUNNING l = 1 ∧
      m.get Reg.TEST_Ll_ERRORS_BIT_ERRORS l = 0 ∧ m.get Reg.TEST_Ll_STATUS_FRAMES l = 0 ∧ m.get Reg.TEST_Ll_STATUS_LOCK l = 0 ∧
      m.get Reg.TEST_Ll_STATUS_REFUSE l = 0 ∧ (∀ a p, linkPort l = some (a, p) → m.get Reg.PRT_Pp_STATUS_TEST a p = 1) ∧
      m.out = (if l = 60 ∨ l = 61 then [.testFrame (l - 60) false] else []) ∧ FrameIn [7, 19] [.resp, .out] s.mod.fresh m)) ∧
  (∀ (svc : Svc) (v : Word32) (l c : Nat) (s : State), s.mod.svcHas svc.val pmTEST = true → bitOf v.toNat 31 = true →
    bitOf v.toNat 30 = false → l = bitsOf v.toNat 16 7 → s.mod.linkPresent l = true →
    s.mod.testRefusal l (bitsOf v.toNat 4 2) (if svc.val = 2 then none else some svc.val) = some c →
    Completes (.testStart .mc svc v) s (fun m => m.resp = some .ok ∧ m.get Reg.TEST_Ll_STATUS_REFUSE l = c ∧
      m.get Reg.TEST_Ll_STATUS_RUNNING l = s.mod.get Reg.TEST_Ll_STATUS_RUNNING l ∧
      Frame [Reg.TEST_CTL_LINK.key 0 0, Reg.TEST_CTL_POLY.key 0 0, Reg.TEST_CTL_LOOP.key 0 0, Reg.TEST_Ll_STATUS_REFUSE.key l 0] [.resp]
        s.mod.fresh m)) ∧
  (∀ (svc : Svc) (v : Word32) (l : Nat) (s : State), s.mod.svcHas svc.val pmTEST = true → bitOf v.toNat 30 = true → bitOf v.toNat 31 = false →
    l = bitsOf v.toNat 16 7 → l < 64 → s.mod.flag Reg.TEST_Ll_STATUS_RUNNING l = true →
    Completes (.testStop .mc svc v) s (fun m => m.resp = some .ok ∧ m.get Reg.TEST_Ll_STATUS_RUNNING l = 0 ∧
      m.get Reg.TEST_Ll_STATUS_LOCK l = 0 ∧ m.get Reg.TEST_Ll_STATUS_REFUSE l = 0 ∧
      m.get Reg.TEST_Ll_ERRORS_BIT_ERRORS l = s.mod.get Reg.TEST_Ll_ERRORS_BIT_ERRORS l ∧ FrameIn [7, 19] [.resp] s.mod.fresh m)) ∧
  (∀ (lane : Fin 2) (errors : Nat) (s : State), s.mod.flag Reg.TEST_Ll_STATUS_RUNNING (60 + lane.val) = true →
    Completes (.testFrameReceived lane true errors) s (fun m => m.out = [.testFrame lane.val false] ∧
      m.get Reg.TEST_Ll_ERRORS_BIT_ERRORS (60 + lane.val) =
        min 0xFFFFFFFF (s.mod.get Reg.TEST_Ll_ERRORS_BIT_ERRORS (60 + lane.val) + errors) ∧
      CountedUp Reg.TEST_Ll_STATUS_FRAMES (60 + lane.val) 0 s.mod m ∧ m.get Reg.TEST_Ll_STATUS_LOCK (60 + lane.val) = 1 ∧
      Frame [Reg.TEST_Ll_ERRORS_BIT_ERRORS.key (60 + lane.val) 0, Reg.TEST_Ll_STATUS_FRAMES.key (60 + lane.val) 0,
        Reg.TEST_Ll_STATUS_LOCK.key (60 + lane.val) 0] [.out] s.mod.fresh m)) ∧
  (∀ (lane : Fin 2) (errors : Nat) (s : State),
    Completes (.testFrameReceived lane false errors) s (fun m => m.out = [.testFrame lane.val true] ∧ Frame [] [.out] s.mod.fresh m))
end

