-- ==== Sys2Proof/Laws/State.lean ====
section
/-!
SUPPORT. What each update of the state leaves of every field: one lemma per field and update, all true by definition.
-/

namespace Sys2Proof.Laws

open Sys2Proof.Machine

/-! ### emit -/

@[simp] theorem emit_regs (m : Mod) (o : Out) : (m.emit o).regs = m.regs := rfl
@[simp] theorem emit_mem (m : Mod) (o : Out) : (m.emit o).mem = m.mem := rfl
@[simp] theorem emit_now (m : Mod) (o : Out) : (m.emit o).now = m.now := rfl
@[simp] theorem emit_modTime (m : Mod) (o : Out) : (m.emit o).modTime = m.modTime := rfl
@[simp] theorem emit_free (m : Mod) (o : Out) : (m.emit o).free = m.free := rfl
@[simp] theorem emit_out (m : Mod) (o : Out) : (m.emit o).out = m.out ++ [o] := rfl
@[simp] theorem emit_resp (m : Mod) (o : Out) : (m.emit o).resp = m.resp := rfl
@[simp] theorem emit_fc (m : Mod) (o : Out) : (m.emit o).fc = m.fc := rfl
@[simp] theorem emit_dbk (m : Mod) (o : Out) : (m.emit o).dbk = m.dbk := rfl
@[simp] theorem emit_tim (m : Mod) (o : Out) : (m.emit o).tim = m.tim := rfl
@[simp] theorem emit_cfg (m : Mod) (o : Out) : (m.emit o).cfg = m.cfg := rfl
@[simp] theorem emit_sec (m : Mod) (o : Out) : (m.emit o).sec = m.sec := rfl
@[simp] theorem emit_lanes (m : Mod) (o : Out) : (m.emit o).lanes = m.lanes := rfl
@[simp] theorem emit_scl (m : Mod) (o : Out) : (m.emit o).scl = m.scl := rfl
@[simp] theorem emit_task (m : Mod) (o : Out) : (m.emit o).task = m.task := rfl
@[simp] theorem emit_lgr (m : Mod) (o : Out) : (m.emit o).lgr = m.lgr := rfl
@[simp] theorem emit_chg (m : Mod) (o : Out) : (m.emit o).chg = m.chg := rfl
@[simp] theorem emit_cyc (m : Mod) (o : Out) : (m.emit o).cyc = m.cyc := rfl
@[simp] theorem emit_inaug (m : Mod) (o : Out) : (m.emit o).inaug = m.inaug := rfl
@[simp] theorem emit_prt (m : Mod) (o : Out) : (m.emit o).prt = m.prt := rfl
@[simp] theorem emit_twn (m : Mod) (o : Out) : (m.emit o).twn = m.twn := rfl
@[simp] theorem emit_can (m : Mod) (o : Out) : (m.emit o).can = m.can := rfl
@[simp] theorem emit_gw (m : Mod) (o : Out) : (m.emit o).gw = m.gw := rfl
@[simp] theorem emit_lbb (m : Mod) (o : Out) : (m.emit o).lbb = m.lbb := rfl
@[simp] theorem emit_dio (m : Mod) (o : Out) : (m.emit o).dio = m.dio := rfl
@[simp] theorem emit_crossings (m : Mod) (o : Out) : (m.emit o).crossings = m.crossings := rfl
@[simp] theorem emit_upd (m : Mod) (o : Out) : (m.emit o).upd = m.upd := rfl
@[simp] theorem emit_env (m : Mod) (o : Out) : (m.emit o).env = m.env := rfl
@[simp] theorem emit_get (m : Mod) (o : Out) (g : Fld) (i j : Nat) : (m.emit o).get g i j = m.get g i j := rfl
@[simp] theorem emit_rd8 (m : Mod) (o : Out) (x : Nat) : (m.emit o).rd8 x = m.rd8 x := rfl

/-! ### answer -/

@[simp] theorem answer_regs (m : Mod) (r : Resp) : (m.answer r).regs = m.regs := rfl
@[simp] theorem answer_mem (m : Mod) (r : Resp) : (m.answer r).mem = m.mem := rfl
@[simp] theorem answer_now (m : Mod) (r : Resp) : (m.answer r).now = m.now := rfl
@[simp] theorem answer_modTime (m : Mod) (r : Resp) : (m.answer r).modTime = m.modTime := rfl
@[simp] theorem answer_free (m : Mod) (r : Resp) : (m.answer r).free = m.free := rfl
@[simp] theorem answer_out (m : Mod) (r : Resp) : (m.answer r).out = m.out := rfl
@[simp] theorem answer_resp (m : Mod) (r : Resp) : (m.answer r).resp = some r := rfl
@[simp] theorem answer_fc (m : Mod) (r : Resp) : (m.answer r).fc = m.fc := rfl
@[simp] theorem answer_dbk (m : Mod) (r : Resp) : (m.answer r).dbk = m.dbk := rfl
@[simp] theorem answer_tim (m : Mod) (r : Resp) : (m.answer r).tim = m.tim := rfl
@[simp] theorem answer_cfg (m : Mod) (r : Resp) : (m.answer r).cfg = m.cfg := rfl
@[simp] theorem answer_sec (m : Mod) (r : Resp) : (m.answer r).sec = m.sec := rfl
@[simp] theorem answer_lanes (m : Mod) (r : Resp) : (m.answer r).lanes = m.lanes := rfl
@[simp] theorem answer_scl (m : Mod) (r : Resp) : (m.answer r).scl = m.scl := rfl
@[simp] theorem answer_task (m : Mod) (r : Resp) : (m.answer r).task = m.task := rfl
@[simp] theorem answer_lgr (m : Mod) (r : Resp) : (m.answer r).lgr = m.lgr := rfl
@[simp] theorem answer_chg (m : Mod) (r : Resp) : (m.answer r).chg = m.chg := rfl
@[simp] theorem answer_cyc (m : Mod) (r : Resp) : (m.answer r).cyc = m.cyc := rfl
@[simp] theorem answer_inaug (m : Mod) (r : Resp) : (m.answer r).inaug = m.inaug := rfl
@[simp] theorem answer_prt (m : Mod) (r : Resp) : (m.answer r).prt = m.prt := rfl
@[simp] theorem answer_twn (m : Mod) (r : Resp) : (m.answer r).twn = m.twn := rfl
@[simp] theorem answer_can (m : Mod) (r : Resp) : (m.answer r).can = m.can := rfl
@[simp] theorem answer_gw (m : Mod) (r : Resp) : (m.answer r).gw = m.gw := rfl
@[simp] theorem answer_lbb (m : Mod) (r : Resp) : (m.answer r).lbb = m.lbb := rfl
@[simp] theorem answer_dio (m : Mod) (r : Resp) : (m.answer r).dio = m.dio := rfl
@[simp] theorem answer_crossings (m : Mod) (r : Resp) : (m.answer r).crossings = m.crossings := rfl
@[simp] theorem answer_upd (m : Mod) (r : Resp) : (m.answer r).upd = m.upd := rfl
@[simp] theorem answer_env (m : Mod) (r : Resp) : (m.answer r).env = m.env := rfl
@[simp] theorem answer_get (m : Mod) (r : Resp) (g : Fld) (i j : Nat) : (m.answer r).get g i j = m.get g i j := rfl
@[simp] theorem answer_rd8 (m : Mod) (r : Resp) (x : Nat) : (m.answer r).rd8 x = m.rd8 x := rfl

/-! ### freeNext -/

@[simp] theorem freeNext_regs (m : Mod) : (m.freeNext).regs = m.regs := rfl
@[simp] theorem freeNext_mem (m : Mod) : (m.freeNext).mem = m.mem := rfl
@[simp] theorem freeNext_now (m : Mod) : (m.freeNext).now = m.now := rfl
@[simp] theorem freeNext_modTime (m : Mod) : (m.freeNext).modTime = m.modTime := rfl
@[simp] theorem freeNext_free (m : Mod) : (m.freeNext).free = m.free + 1 := rfl
@[simp] theorem freeNext_out (m : Mod) : (m.freeNext).out = m.out := rfl
@[simp] theorem freeNext_resp (m : Mod) : (m.freeNext).resp = m.resp := rfl
@[simp] theorem freeNext_fc (m : Mod) : (m.freeNext).fc = m.fc := rfl
@[simp] theorem freeNext_dbk (m : Mod) : (m.freeNext).dbk = m.dbk := rfl
@[simp] theorem freeNext_tim (m : Mod) : (m.freeNext).tim = m.tim := rfl
@[simp] theorem freeNext_cfg (m : Mod) : (m.freeNext).cfg = m.cfg := rfl
@[simp] theorem freeNext_sec (m : Mod) : (m.freeNext).sec = m.sec := rfl
@[simp] theorem freeNext_lanes (m : Mod) : (m.freeNext).lanes = m.lanes := rfl
@[simp] theorem freeNext_scl (m : Mod) : (m.freeNext).scl = m.scl := rfl
@[simp] theorem freeNext_task (m : Mod) : (m.freeNext).task = m.task := rfl
@[simp] theorem freeNext_lgr (m : Mod) : (m.freeNext).lgr = m.lgr := rfl
@[simp] theorem freeNext_chg (m : Mod) : (m.freeNext).chg = m.chg := rfl
@[simp] theorem freeNext_cyc (m : Mod) : (m.freeNext).cyc = m.cyc := rfl
@[simp] theorem freeNext_inaug (m : Mod) : (m.freeNext).inaug = m.inaug := rfl
@[simp] theorem freeNext_prt (m : Mod) : (m.freeNext).prt = m.prt := rfl
@[simp] theorem freeNext_twn (m : Mod) : (m.freeNext).twn = m.twn := rfl
@[simp] theorem freeNext_can (m : Mod) : (m.freeNext).can = m.can := rfl
@[simp] theorem freeNext_gw (m : Mod) : (m.freeNext).gw = m.gw := rfl
@[simp] theorem freeNext_lbb (m : Mod) : (m.freeNext).lbb = m.lbb := rfl
@[simp] theorem freeNext_dio (m : Mod) : (m.freeNext).dio = m.dio := rfl
@[simp] theorem freeNext_crossings (m : Mod) : (m.freeNext).crossings = m.crossings := rfl
@[simp] theorem freeNext_upd (m : Mod) : (m.freeNext).upd = m.upd := rfl
@[simp] theorem freeNext_env (m : Mod) : (m.freeNext).env = m.env := rfl
@[simp] theorem freeNext_get (m : Mod) (g : Fld) (i j : Nat) : (m.freeNext).get g i j = m.get g i j := rfl
@[simp] theorem freeNext_rd8 (m : Mod) (x : Nat) : (m.freeNext).rd8 x = m.rd8 x := rfl

/-! ### fresh -/

@[simp] theorem fresh_regs (m : Mod) : (m.fresh).regs = m.regs := rfl
@[simp] theorem fresh_mem (m : Mod) : (m.fresh).mem = m.mem := rfl
@[simp] theorem fresh_now (m : Mod) : (m.fresh).now = m.now := rfl
@[simp] theorem fresh_modTime (m : Mod) : (m.fresh).modTime = m.modTime := rfl
@[simp] theorem fresh_free (m : Mod) : (m.fresh).free = m.free := rfl
@[simp] theorem fresh_out (m : Mod) : m.fresh.out = [] := rfl
@[simp] theorem fresh_resp (m : Mod) : m.fresh.resp = none := rfl
@[simp] theorem fresh_fc (m : Mod) : (m.fresh).fc = m.fc := rfl
@[simp] theorem fresh_dbk (m : Mod) : (m.fresh).dbk = m.dbk := rfl
@[simp] theorem fresh_tim (m : Mod) : (m.fresh).tim = m.tim := rfl
@[simp] theorem fresh_cfg (m : Mod) : (m.fresh).cfg = m.cfg := rfl
@[simp] theorem fresh_sec (m : Mod) : (m.fresh).sec = m.sec := rfl
@[simp] theorem fresh_lanes (m : Mod) : (m.fresh).lanes = m.lanes := rfl
@[simp] theorem fresh_scl (m : Mod) : (m.fresh).scl = m.scl := rfl
@[simp] theorem fresh_task (m : Mod) : (m.fresh).task = m.task := rfl
@[simp] theorem fresh_lgr (m : Mod) : (m.fresh).lgr = m.lgr := rfl
@[simp] theorem fresh_chg (m : Mod) : (m.fresh).chg = m.chg := rfl
@[simp] theorem fresh_cyc (m : Mod) : (m.fresh).cyc = m.cyc := rfl
@[simp] theorem fresh_inaug (m : Mod) : (m.fresh).inaug = m.inaug := rfl
@[simp] theorem fresh_prt (m : Mod) : (m.fresh).prt = m.prt := rfl
@[simp] theorem fresh_twn (m : Mod) : (m.fresh).twn = m.twn := rfl
@[simp] theorem fresh_can (m : Mod) : (m.fresh).can = m.can := rfl
@[simp] theorem fresh_gw (m : Mod) : (m.fresh).gw = m.gw := rfl
@[simp] theorem fresh_lbb (m : Mod) : (m.fresh).lbb = m.lbb := rfl
@[simp] theorem fresh_dio (m : Mod) : (m.fresh).dio = m.dio := rfl
@[simp] theorem fresh_crossings (m : Mod) : (m.fresh).crossings = m.crossings := rfl
@[simp] theorem fresh_upd (m : Mod) : (m.fresh).upd = m.upd := rfl
@[simp] theorem fresh_env (m : Mod) : (m.fresh).env = m.env := rfl
@[simp] theorem fresh_get (m : Mod) (g : Fld) (i j : Nat) : (m.fresh).get g i j = m.get g i j := rfl
@[simp] theorem fresh_rd8 (m : Mod) (x : Nat) : (m.fresh).rd8 x = m.rd8 x := rfl

/-! ### clear -/

@[simp] theorem clear_regs (m : Mod) (a b : Nat) : (m.clear a b).regs = m.regs := rfl
@[simp] theorem clear_now (m : Mod) (a b : Nat) : (m.clear a b).now = m.now := rfl
@[simp] theorem clear_modTime (m : Mod) (a b : Nat) : (m.clear a b).modTime = m.modTime := rfl
@[simp] theorem clear_free (m : Mod) (a b : Nat) : (m.clear a b).free = m.free := rfl
@[simp] theorem clear_out (m : Mod) (a b : Nat) : (m.clear a b).out = m.out := rfl
@[simp] theorem clear_resp (m : Mod) (a b : Nat) : (m.clear a b).resp = m.resp := rfl
@[simp] theorem clear_fc (m : Mod) (a b : Nat) : (m.clear a b).fc = m.fc := rfl
@[simp] theorem clear_dbk (m : Mod) (a b : Nat) : (m.clear a b).dbk = m.dbk := rfl
@[simp] theorem clear_tim (m : Mod) (a b : Nat) : (m.clear a b).tim = m.tim := rfl
@[simp] theorem clear_cfg (m : Mod) (a b : Nat) : (m.clear a b).cfg = m.cfg := rfl
@[simp] theorem clear_sec (m : Mod) (a b : Nat) : (m.clear a b).sec = m.sec := rfl
@[simp] theorem clear_lanes (m : Mod) (a b : Nat) : (m.clear a b).lanes = m.lanes := rfl
@[simp] theorem clear_scl (m : Mod) (a b : Nat) : (m.clear a b).scl = m.scl := rfl
@[simp] theorem clear_task (m : Mod) (a b : Nat) : (m.clear a b).task = m.task := rfl
@[simp] theorem clear_lgr (m : Mod) (a b : Nat) : (m.clear a b).lgr = m.lgr := rfl
@[simp] theorem clear_chg (m : Mod) (a b : Nat) : (m.clear a b).chg = m.chg := rfl
@[simp] theorem clear_cyc (m : Mod) (a b : Nat) : (m.clear a b).cyc = m.cyc := rfl
@[simp] theorem clear_inaug (m : Mod) (a b : Nat) : (m.clear a b).inaug = m.inaug := rfl
@[simp] theorem clear_prt (m : Mod) (a b : Nat) : (m.clear a b).prt = m.prt := rfl
@[simp] theorem clear_twn (m : Mod) (a b : Nat) : (m.clear a b).twn = m.twn := rfl
@[simp] theorem clear_can (m : Mod) (a b : Nat) : (m.clear a b).can = m.can := rfl
@[simp] theorem clear_gw (m : Mod) (a b : Nat) : (m.clear a b).gw = m.gw := rfl
@[simp] theorem clear_lbb (m : Mod) (a b : Nat) : (m.clear a b).lbb = m.lbb := rfl
@[simp] theorem clear_dio (m : Mod) (a b : Nat) : (m.clear a b).dio = m.dio := rfl
@[simp] theorem clear_crossings (m : Mod) (a b : Nat) : (m.clear a b).crossings = m.crossings := rfl
@[simp] theorem clear_upd (m : Mod) (a b : Nat) : (m.clear a b).upd = m.upd := rfl
@[simp] theorem clear_env (m : Mod) (a b : Nat) : (m.clear a b).env = m.env := rfl
@[simp] theorem clear_get (m : Mod) (a b : Nat) (g : Fld) (i j : Nat) : (m.clear a b).get g i j = m.get g i j := rfl

/-! ### setLane -/

@[simp] theorem setLane_regs (m : Mod) (p : Nat) (f : LaneState → LaneState) : (m.setLane p f).regs = m.regs := rfl
@[simp] theorem setLane_mem (m : Mod) (p : Nat) (f : LaneState → LaneState) : (m.setLane p f).mem = m.mem := rfl
@[simp] theorem setLane_now (m : Mod) (p : Nat) (f : LaneState → LaneState) : (m.setLane p f).now = m.now := rfl
@[simp] theorem setLane_modTime (m : Mod) (p : Nat) (f : LaneState → LaneState) : (m.setLane p f).modTime = m.modTime := rfl
@[simp] theorem setLane_free (m : Mod) (p : Nat) (f : LaneState → LaneState) : (m.setLane p f).free = m.free := rfl
@[simp] theorem setLane_out (m : Mod) (p : Nat) (f : LaneState → LaneState) : (m.setLane p f).out = m.out := rfl
@[simp] theorem setLane_resp (m : Mod) (p : Nat) (f : LaneState → LaneState) : (m.setLane p f).resp = m.resp := rfl
@[simp] theorem setLane_fc (m : Mod) (p : Nat) (f : LaneState → LaneState) : (m.setLane p f).fc = m.fc := rfl
@[simp] theorem setLane_dbk (m : Mod) (p : Nat) (f : LaneState → LaneState) : (m.setLane p f).dbk = m.dbk := rfl
@[simp] theorem setLane_tim (m : Mod) (p : Nat) (f : LaneState → LaneState) : (m.setLane p f).tim = m.tim := rfl
@[simp] theorem setLane_cfg (m : Mod) (p : Nat) (f : LaneState → LaneState) : (m.setLane p f).cfg = m.cfg := rfl
@[simp] theorem setLane_sec (m : Mod) (p : Nat) (f : LaneState → LaneState) : (m.setLane p f).sec = m.sec := rfl
@[simp] theorem setLane_lanes (m : Mod) (p : Nat) (f : LaneState → LaneState) : (m.setLane p f).lanes = updAt m.lanes p f := rfl
@[simp] theorem setLane_scl (m : Mod) (p : Nat) (f : LaneState → LaneState) : (m.setLane p f).scl = m.scl := rfl
@[simp] theorem setLane_task (m : Mod) (p : Nat) (f : LaneState → LaneState) : (m.setLane p f).task = m.task := rfl
@[simp] theorem setLane_lgr (m : Mod) (p : Nat) (f : LaneState → LaneState) : (m.setLane p f).lgr = m.lgr := rfl
@[simp] theorem setLane_chg (m : Mod) (p : Nat) (f : LaneState → LaneState) : (m.setLane p f).chg = m.chg := rfl
@[simp] theorem setLane_cyc (m : Mod) (p : Nat) (f : LaneState → LaneState) : (m.setLane p f).cyc = m.cyc := rfl
@[simp] theorem setLane_inaug (m : Mod) (p : Nat) (f : LaneState → LaneState) : (m.setLane p f).inaug = m.inaug := rfl
@[simp] theorem setLane_prt (m : Mod) (p : Nat) (f : LaneState → LaneState) : (m.setLane p f).prt = m.prt := rfl
@[simp] theorem setLane_twn (m : Mod) (p : Nat) (f : LaneState → LaneState) : (m.setLane p f).twn = m.twn := rfl
@[simp] theorem setLane_can (m : Mod) (p : Nat) (f : LaneState → LaneState) : (m.setLane p f).can = m.can := rfl
@[simp] theorem setLane_gw (m : Mod) (p : Nat) (f : LaneState → LaneState) : (m.setLane p f).gw = m.gw := rfl
@[simp] theorem setLane_lbb (m : Mod) (p : Nat) (f : LaneState → LaneState) : (m.setLane p f).lbb = m.lbb := rfl
@[simp] theorem setLane_dio (m : Mod) (p : Nat) (f : LaneState → LaneState) : (m.setLane p f).dio = m.dio := rfl
@[simp] theorem setLane_crossings (m : Mod) (p : Nat) (f : LaneState → LaneState) : (m.setLane p f).crossings = m.crossings := rfl
@[simp] theorem setLane_upd (m : Mod) (p : Nat) (f : LaneState → LaneState) : (m.setLane p f).upd = m.upd := rfl
@[simp] theorem setLane_env (m : Mod) (p : Nat) (f : LaneState → LaneState) : (m.setLane p f).env = m.env := rfl
@[simp] theorem setLane_get (m : Mod) (p : Nat) (f : LaneState → LaneState) (g : Fld) (i j : Nat) : (m.setLane p f).get g i j = m.get g i j := rfl
@[simp] theorem setLane_rd8 (m : Mod) (p : Nat) (f : LaneState → LaneState) (x : Nat) : (m.setLane p f).rd8 x = m.rd8 x := rfl

/-! ### setBucket -/

@[simp] theorem setBucket_regs (m : Mod) (b : Bucket) : (m.setBucket b).regs = m.regs := rfl
@[simp] theorem setBucket_mem (m : Mod) (b : Bucket) : (m.setBucket b).mem = m.mem := rfl
@[simp] theorem setBucket_now (m : Mod) (b : Bucket) : (m.setBucket b).now = m.now := rfl
@[simp] theorem setBucket_modTime (m : Mod) (b : Bucket) : (m.setBucket b).modTime = m.modTime := rfl
@[simp] theorem setBucket_free (m : Mod) (b : Bucket) : (m.setBucket b).free = m.free := rfl
@[simp] theorem setBucket_out (m : Mod) (b : Bucket) : (m.setBucket b).out = m.out := rfl
@[simp] theorem setBucket_resp (m : Mod) (b : Bucket) : (m.setBucket b).resp = m.resp := rfl
@[simp] theorem setBucket_fc (m : Mod) (b : Bucket) : (m.setBucket b).fc = m.fc := rfl
@[simp] theorem setBucket_tim (m : Mod) (b : Bucket) : (m.setBucket b).tim = m.tim := rfl
@[simp] theorem setBucket_cfg (m : Mod) (b : Bucket) : (m.setBucket b).cfg = m.cfg := rfl
@[simp] theorem setBucket_sec (m : Mod) (b : Bucket) : (m.setBucket b).sec = m.sec := rfl
@[simp] theorem setBucket_lanes (m : Mod) (b : Bucket) : (m.setBucket b).lanes = m.lanes := rfl
@[simp] theorem setBucket_scl (m : Mod) (b : Bucket) : (m.setBucket b).scl = m.scl := rfl
@[simp] theorem setBucket_task (m : Mod) (b : Bucket) : (m.setBucket b).task = m.task := rfl
@[simp] theorem setBucket_lgr (m : Mod) (b : Bucket) : (m.setBucket b).lgr = m.lgr := rfl
@[simp] theorem setBucket_chg (m : Mod) (b : Bucket) : (m.setBucket b).chg = m.chg := rfl
@[simp] theorem setBucket_cyc (m : Mod) (b : Bucket) : (m.setBucket b).cyc = m.cyc := rfl
@[simp] theorem setBucket_inaug (m : Mod) (b : Bucket) : (m.setBucket b).inaug = m.inaug := rfl
@[simp] theorem setBucket_prt (m : Mod) (b : Bucket) : (m.setBucket b).prt = m.prt := rfl
@[simp] theorem setBucket_twn (m : Mod) (b : Bucket) : (m.setBucket b).twn = m.twn := rfl
@[simp] theorem setBucket_can (m : Mod) (b : Bucket) : (m.setBucket b).can = m.can := rfl
@[simp] theorem setBucket_gw (m : Mod) (b : Bucket) : (m.setBucket b).gw = m.gw := rfl
@[simp] theorem setBucket_lbb (m : Mod) (b : Bucket) : (m.setBucket b).lbb = m.lbb := rfl
@[simp] theorem setBucket_dio (m : Mod) (b : Bucket) : (m.setBucket b).dio = m.dio := rfl
@[simp] theorem setBucket_crossings (m : Mod) (b : Bucket) : (m.setBucket b).crossings = m.crossings := rfl
@[simp] theorem setBucket_upd (m : Mod) (b : Bucket) : (m.setBucket b).upd = m.upd := rfl
@[simp] theorem setBucket_env (m : Mod) (b : Bucket) : (m.setBucket b).env = m.env := rfl
@[simp] theorem setBucket_get (m : Mod) (b : Bucket) (g : Fld) (i j : Nat) : (m.setBucket b).get g i j = m.get g i j := rfl
@[simp] theorem setBucket_rd8 (m : Mod) (b : Bucket) (x : Nat) : (m.setBucket b).rd8 x = m.rd8 x := rfl

/-! ### setDyn -/

@[simp] theorem setDyn_regs (m : Mod) (d : TaskDyn) : (m.setDyn d).regs = m.regs := rfl
@[simp] theorem setDyn_mem (m : Mod) (d : TaskDyn) : (m.setDyn d).mem = m.mem := rfl
@[simp] theorem setDyn_now (m : Mod) (d : TaskDyn) : (m.setDyn d).now = m.now := rfl
@[simp] theorem setDyn_modTime (m : Mod) (d : TaskDyn) : (m.setDyn d).modTime = m.modTime := rfl
@[simp] theorem setDyn_free (m : Mod) (d : TaskDyn) : (m.setDyn d).free = m.free := rfl
@[simp] theorem setDyn_out (m : Mod) (d : TaskDyn) : (m.setDyn d).out = m.out := rfl
@[simp] theorem setDyn_resp (m : Mod) (d : TaskDyn) : (m.setDyn d).resp = m.resp := rfl
@[simp] theorem setDyn_fc (m : Mod) (d : TaskDyn) : (m.setDyn d).fc = m.fc := rfl
@[simp] theorem setDyn_dbk (m : Mod) (d : TaskDyn) : (m.setDyn d).dbk = m.dbk := rfl
@[simp] theorem setDyn_tim (m : Mod) (d : TaskDyn) : (m.setDyn d).tim = m.tim := rfl
@[simp] theorem setDyn_cfg (m : Mod) (d : TaskDyn) : (m.setDyn d).cfg = m.cfg := rfl
@[simp] theorem setDyn_sec (m : Mod) (d : TaskDyn) : (m.setDyn d).sec = m.sec := rfl
@[simp] theorem setDyn_lanes (m : Mod) (d : TaskDyn) : (m.setDyn d).lanes = m.lanes := rfl
@[simp] theorem setDyn_scl (m : Mod) (d : TaskDyn) : (m.setDyn d).scl = m.scl := rfl
@[simp] theorem setDyn_lgr (m : Mod) (d : TaskDyn) : (m.setDyn d).lgr = m.lgr := rfl
@[simp] theorem setDyn_chg (m : Mod) (d : TaskDyn) : (m.setDyn d).chg = m.chg := rfl
@[simp] theorem setDyn_cyc (m : Mod) (d : TaskDyn) : (m.setDyn d).cyc = m.cyc := rfl
@[simp] theorem setDyn_inaug (m : Mod) (d : TaskDyn) : (m.setDyn d).inaug = m.inaug := rfl
@[simp] theorem setDyn_prt (m : Mod) (d : TaskDyn) : (m.setDyn d).prt = m.prt := rfl
@[simp] theorem setDyn_twn (m : Mod) (d : TaskDyn) : (m.setDyn d).twn = m.twn := rfl
@[simp] theorem setDyn_can (m : Mod) (d : TaskDyn) : (m.setDyn d).can = m.can := rfl
@[simp] theorem setDyn_gw (m : Mod) (d : TaskDyn) : (m.setDyn d).gw = m.gw := rfl
@[simp] theorem setDyn_lbb (m : Mod) (d : TaskDyn) : (m.setDyn d).lbb = m.lbb := rfl
@[simp] theorem setDyn_dio (m : Mod) (d : TaskDyn) : (m.setDyn d).dio = m.dio := rfl
@[simp] theorem setDyn_crossings (m : Mod) (d : TaskDyn) : (m.setDyn d).crossings = m.crossings := rfl
@[simp] theorem setDyn_upd (m : Mod) (d : TaskDyn) : (m.setDyn d).upd = m.upd := rfl
@[simp] theorem setDyn_env (m : Mod) (d : TaskDyn) : (m.setDyn d).env = m.env := rfl
@[simp] theorem setDyn_get (m : Mod) (d : TaskDyn) (g : Fld) (i j : Nat) : (m.setDyn d).get g i j = m.get g i j := rfl
@[simp] theorem setDyn_rd8 (m : Mod) (d : TaskDyn) (x : Nat) : (m.setDyn d).rd8 x = m.rd8 x := rfl

/-! ### setRels -/

@[simp] theorem setRels_regs (m : Mod) (f : List Release → List Release) : (m.setRels f).regs = m.regs := rfl
@[simp] theorem setRels_mem (m : Mod) (f : List Release → List Release) : (m.setRels f).mem = m.mem := rfl
@[simp] theorem setRels_now (m : Mod) (f : List Release → List Release) : (m.setRels f).now = m.now := rfl
@[simp] theorem setRels_modTime (m : Mod) (f : List Release → List Release) : (m.setRels f).modTime = m.modTime := rfl
@[simp] theorem setRels_free (m : Mod) (f : List Release → List Release) : (m.setRels f).free = m.free := rfl
@[simp] theorem setRels_out (m : Mod) (f : List Release → List Release) : (m.setRels f).out = m.out := rfl
@[simp] theorem setRels_resp (m : Mod) (f : List Release → List Release) : (m.setRels f).resp = m.resp := rfl
@[simp] theorem setRels_fc (m : Mod) (f : List Release → List Release) : (m.setRels f).fc = m.fc := rfl
@[simp] theorem setRels_dbk (m : Mod) (f : List Release → List Release) : (m.setRels f).dbk = m.dbk := rfl
@[simp] theorem setRels_tim (m : Mod) (f : List Release → List Release) : (m.setRels f).tim = m.tim := rfl
@[simp] theorem setRels_cfg (m : Mod) (f : List Release → List Release) : (m.setRels f).cfg = m.cfg := rfl
@[simp] theorem setRels_sec (m : Mod) (f : List Release → List Release) : (m.setRels f).sec = m.sec := rfl
@[simp] theorem setRels_lanes (m : Mod) (f : List Release → List Release) : (m.setRels f).lanes = m.lanes := rfl
@[simp] theorem setRels_scl (m : Mod) (f : List Release → List Release) : (m.setRels f).scl = m.scl := rfl
@[simp] theorem setRels_lgr (m : Mod) (f : List Release → List Release) : (m.setRels f).lgr = m.lgr := rfl
@[simp] theorem setRels_chg (m : Mod) (f : List Release → List Release) : (m.setRels f).chg = m.chg := rfl
@[simp] theorem setRels_cyc (m : Mod) (f : List Release → List Release) : (m.setRels f).cyc = m.cyc := rfl
@[simp] theorem setRels_inaug (m : Mod) (f : List Release → List Release) : (m.setRels f).inaug = m.inaug := rfl
@[simp] theorem setRels_prt (m : Mod) (f : List Release → List Release) : (m.setRels f).prt = m.prt := rfl
@[simp] theorem setRels_twn (m : Mod) (f : List Release → List Release) : (m.setRels f).twn = m.twn := rfl
@[simp] theorem setRels_can (m : Mod) (f : List Release → List Release) : (m.setRels f).can = m.can := rfl
@[simp] theorem setRels_gw (m : Mod) (f : List Release → List Release) : (m.setRels f).gw = m.gw := rfl
@[simp] theorem setRels_lbb (m : Mod) (f : List Release → List Release) : (m.setRels f).lbb = m.lbb := rfl
@[simp] theorem setRels_dio (m : Mod) (f : List Release → List Release) : (m.setRels f).dio = m.dio := rfl
@[simp] theorem setRels_crossings (m : Mod) (f : List Release → List Release) : (m.setRels f).crossings = m.crossings := rfl
@[simp] theorem setRels_upd (m : Mod) (f : List Release → List Release) : (m.setRels f).upd = m.upd := rfl
@[simp] theorem setRels_env (m : Mod) (f : List Release → List Release) : (m.setRels f).env = m.env := rfl
@[simp] theorem setRels_get (m : Mod) (f : List Release → List Release) (g : Fld) (i j : Nat) : (m.setRels f).get g i j = m.get g i j := rfl
@[simp] theorem setRels_rd8 (m : Mod) (f : List Release → List Release) (x : Nat) : (m.setRels f).rd8 x = m.rd8 x := rfl

/-! ### setFc -/

@[simp] theorem setFc_regs (m : Mod) (f : FcState → FcState) : (m.setFc f).regs = m.regs := rfl
@[simp] theorem setFc_mem (m : Mod) (f : FcState → FcState) : (m.setFc f).mem = m.mem := rfl
@[simp] theorem setFc_now (m : Mod) (f : FcState → FcState) : (m.setFc f).now = m.now := rfl
@[simp] theorem setFc_modTime (m : Mod) (f : FcState → FcState) : (m.setFc f).modTime = m.modTime := rfl
@[simp] theorem setFc_free (m : Mod) (f : FcState → FcState) : (m.setFc f).free = m.free := rfl
@[simp] theorem setFc_out (m : Mod) (f : FcState → FcState) : (m.setFc f).out = m.out := rfl
@[simp] theorem setFc_resp (m : Mod) (f : FcState → FcState) : (m.setFc f).resp = m.resp := rfl
@[simp] theorem setFc_fc (m : Mod) (f : FcState → FcState) : (m.setFc f).fc = f m.fc := rfl
@[simp] theorem setFc_dbk (m : Mod) (f : FcState → FcState) : (m.setFc f).dbk = m.dbk := rfl
@[simp] theorem setFc_tim (m : Mod) (f : FcState → FcState) : (m.setFc f).tim = m.tim := rfl
@[simp] theorem setFc_cfg (m : Mod) (f : FcState → FcState) : (m.setFc f).cfg = m.cfg := rfl
@[simp] theorem setFc_sec (m : Mod) (f : FcState → FcState) : (m.setFc f).sec = m.sec := rfl
@[simp] theorem setFc_lanes (m : Mod) (f : FcState → FcState) : (m.setFc f).lanes = m.lanes := rfl
@[simp] theorem setFc_scl (m : Mod) (f : FcState → FcState) : (m.setFc f).scl = m.scl := rfl
@[simp] theorem setFc_task (m : Mod) (f : FcState → FcState) : (m.setFc f).task = m.task := rfl
@[simp] theorem setFc_lgr (m : Mod) (f : FcState → FcState) : (m.setFc f).lgr = m.lgr := rfl
@[simp] theorem setFc_chg (m : Mod) (f : FcState → FcState) : (m.setFc f).chg = m.chg := rfl
@[simp] theorem setFc_cyc (m : Mod) (f : FcState → FcState) : (m.setFc f).cyc = m.cyc := rfl
@[simp] theorem setFc_inaug (m : Mod) (f : FcState → FcState) : (m.setFc f).inaug = m.inaug := rfl
@[simp] theorem setFc_prt (m : Mod) (f : FcState → FcState) : (m.setFc f).prt = m.prt := rfl
@[simp] theorem setFc_twn (m : Mod) (f : FcState → FcState) : (m.setFc f).twn = m.twn := rfl
@[simp] theorem setFc_can (m : Mod) (f : FcState → FcState) : (m.setFc f).can = m.can := rfl
@[simp] theorem setFc_gw (m : Mod) (f : FcState → FcState) : (m.setFc f).gw = m.gw := rfl
@[simp] theorem setFc_lbb (m : Mod) (f : FcState → FcState) : (m.setFc f).lbb = m.lbb := rfl
@[simp] theorem setFc_dio (m : Mod) (f : FcState → FcState) : (m.setFc f).dio = m.dio := rfl
@[simp] theorem setFc_crossings (m : Mod) (f : FcState → FcState) : (m.setFc f).crossings = m.crossings := rfl
@[simp] theorem setFc_upd (m : Mod) (f : FcState → FcState) : (m.setFc f).upd = m.upd := rfl
@[simp] theorem setFc_env (m : Mod) (f : FcState → FcState) : (m.setFc f).env = m.env := rfl
@[simp] theorem setFc_get (m : Mod) (f : FcState → FcState) (g : Fld) (i j : Nat) : (m.setFc f).get g i j = m.get g i j := rfl
@[simp] theorem setFc_rd8 (m : Mod) (f : FcState → FcState) (x : Nat) : (m.setFc f).rd8 x = m.rd8 x := rfl

/-! ### setTim -/

@[simp] theorem setTim_regs (m : Mod) (f : TimState → TimState) : (m.setTim f).regs = m.regs := rfl
@[simp] theorem setTim_mem (m : Mod) (f : TimState → TimState) : (m.setTim f).mem = m.mem := rfl
@[simp] theorem setTim_now (m : Mod) (f : TimState → TimState) : (m.setTim f).now = m.now := rfl
@[simp] theorem setTim_modTime (m : Mod) (f : TimState → TimState) : (m.setTim f).modTime = m.modTime := rfl
@[simp] theorem setTim_free (m : Mod) (f : TimState → TimState) : (m.setTim f).free = m.free := rfl
@[simp] theorem setTim_out (m : Mod) (f : TimState → TimState) : (m.setTim f).out = m.out := rfl
@[simp] theorem setTim_resp (m : Mod) (f : TimState → TimState) : (m.setTim f).resp = m.resp := rfl
@[simp] theorem setTim_fc (m : Mod) (f : TimState → TimState) : (m.setTim f).fc = m.fc := rfl
@[simp] theorem setTim_dbk (m : Mod) (f : TimState → TimState) : (m.setTim f).dbk = m.dbk := rfl
@[simp] theorem setTim_tim (m : Mod) (f : TimState → TimState) : (m.setTim f).tim = f m.tim := rfl
@[simp] theorem setTim_cfg (m : Mod) (f : TimState → TimState) : (m.setTim f).cfg = m.cfg := rfl
@[simp] theorem setTim_sec (m : Mod) (f : TimState → TimState) : (m.setTim f).sec = m.sec := rfl
@[simp] theorem setTim_lanes (m : Mod) (f : TimState → TimState) : (m.setTim f).lanes = m.lanes := rfl
@[simp] theorem setTim_scl (m : Mod) (f : TimState → TimState) : (m.setTim f).scl = m.scl := rfl
@[simp] theorem setTim_task (m : Mod) (f : TimState → TimState) : (m.setTim f).task = m.task := rfl
@[simp] theorem setTim_lgr (m : Mod) (f : TimState → TimState) : (m.setTim f).lgr = m.lgr := rfl
@[simp] theorem setTim_chg (m : Mod) (f : TimState → TimState) : (m.setTim f).chg = m.chg := rfl
@[simp] theorem setTim_cyc (m : Mod) (f : TimState → TimState) : (m.setTim f).cyc = m.cyc := rfl
@[simp] theorem setTim_inaug (m : Mod) (f : TimState → TimState) : (m.setTim f).inaug = m.inaug := rfl
@[simp] theorem setTim_prt (m : Mod) (f : TimState → TimState) : (m.setTim f).prt = m.prt := rfl
@[simp] theorem setTim_twn (m : Mod) (f : TimState → TimState) : (m.setTim f).twn = m.twn := rfl
@[simp] theorem setTim_can (m : Mod) (f : TimState → TimState) : (m.setTim f).can = m.can := rfl
@[simp] theorem setTim_gw (m : Mod) (f : TimState → TimState) : (m.setTim f).gw = m.gw := rfl
@[simp] theorem setTim_lbb (m : Mod) (f : TimState → TimState) : (m.setTim f).lbb = m.lbb := rfl
@[simp] theorem setTim_dio (m : Mod) (f : TimState → TimState) : (m.setTim f).dio = m.dio := rfl
@[simp] theorem setTim_crossings (m : Mod) (f : TimState → TimState) : (m.setTim f).crossings = m.crossings := rfl
@[simp] theorem setTim_upd (m : Mod) (f : TimState → TimState) : (m.setTim f).upd = m.upd := rfl
@[simp] theorem setTim_env (m : Mod) (f : TimState → TimState) : (m.setTim f).env = m.env := rfl
@[simp] theorem setTim_get (m : Mod) (f : TimState → TimState) (g : Fld) (i j : Nat) : (m.setTim f).get g i j = m.get g i j := rfl
@[simp] theorem setTim_rd8 (m : Mod) (f : TimState → TimState) (x : Nat) : (m.setTim f).rd8 x = m.rd8 x := rfl

/-! ### setCfg -/

@[simp] theorem setCfg_regs (m : Mod) (f : CfgState → CfgState) : (m.setCfg f).regs = m.regs := rfl
@[simp] theorem setCfg_mem (m : Mod) (f : CfgState → CfgState) : (m.setCfg f).mem = m.mem := rfl
@[simp] theorem setCfg_now (m : Mod) (f : CfgState → CfgState) : (m.setCfg f).now = m.now := rfl
@[simp] theorem setCfg_modTime (m : Mod) (f : CfgState → CfgState) : (m.setCfg f).modTime = m.modTime := rfl
@[simp] theorem setCfg_free (m : Mod) (f : CfgState → CfgState) : (m.setCfg f).free = m.free := rfl
@[simp] theorem setCfg_out (m : Mod) (f : CfgState → CfgState) : (m.setCfg f).out = m.out := rfl
@[simp] theorem setCfg_resp (m : Mod) (f : CfgState → CfgState) : (m.setCfg f).resp = m.resp := rfl
@[simp] theorem setCfg_fc (m : Mod) (f : CfgState → CfgState) : (m.setCfg f).fc = m.fc := rfl
@[simp] theorem setCfg_dbk (m : Mod) (f : CfgState → CfgState) : (m.setCfg f).dbk = m.dbk := rfl
@[simp] theorem setCfg_tim (m : Mod) (f : CfgState → CfgState) : (m.setCfg f).tim = m.tim := rfl
@[simp] theorem setCfg_cfg (m : Mod) (f : CfgState → CfgState) : (m.setCfg f).cfg = f m.cfg := rfl
@[simp] theorem setCfg_sec (m : Mod) (f : CfgState → CfgState) : (m.setCfg f).sec = m.sec := rfl
@[simp] theorem setCfg_lanes (m : Mod) (f : CfgState → CfgState) : (m.setCfg f).lanes = m.lanes := rfl
@[simp] theorem setCfg_scl (m : Mod) (f : CfgState → CfgState) : (m.setCfg f).scl = m.scl := rfl
@[simp] theorem setCfg_task (m : Mod) (f : CfgState → CfgState) : (m.setCfg f).task = m.task := rfl
@[simp] theorem setCfg_lgr (m : Mod) (f : CfgState → CfgState) : (m.setCfg f).lgr = m.lgr := rfl
@[simp] theorem setCfg_chg (m : Mod) (f : CfgState → CfgState) : (m.setCfg f).chg = m.chg := rfl
@[simp] theorem setCfg_cyc (m : Mod) (f : CfgState → CfgState) : (m.setCfg f).cyc = m.cyc := rfl
@[simp] theorem setCfg_inaug (m : Mod) (f : CfgState → CfgState) : (m.setCfg f).inaug = m.inaug := rfl
@[simp] theorem setCfg_prt (m : Mod) (f : CfgState → CfgState) : (m.setCfg f).prt = m.prt := rfl
@[simp] theorem setCfg_twn (m : Mod) (f : CfgState → CfgState) : (m.setCfg f).twn = m.twn := rfl
@[simp] theorem setCfg_can (m : Mod) (f : CfgState → CfgState) : (m.setCfg f).can = m.can := rfl
@[simp] theorem setCfg_gw (m : Mod) (f : CfgState → CfgState) : (m.setCfg f).gw = m.gw := rfl
@[simp] theorem setCfg_lbb (m : Mod) (f : CfgState → CfgState) : (m.setCfg f).lbb = m.lbb := rfl
@[simp] theorem setCfg_dio (m : Mod) (f : CfgState → CfgState) : (m.setCfg f).dio = m.dio := rfl
@[simp] theorem setCfg_crossings (m : Mod) (f : CfgState → CfgState) : (m.setCfg f).crossings = m.crossings := rfl
@[simp] theorem setCfg_upd (m : Mod) (f : CfgState → CfgState) : (m.setCfg f).upd = m.upd := rfl
@[simp] theorem setCfg_env (m : Mod) (f : CfgState → CfgState) : (m.setCfg f).env = m.env := rfl
@[simp] theorem setCfg_get (m : Mod) (f : CfgState → CfgState) (g : Fld) (i j : Nat) : (m.setCfg f).get g i j = m.get g i j := rfl
@[simp] theorem setCfg_rd8 (m : Mod) (f : CfgState → CfgState) (x : Nat) : (m.setCfg f).rd8 x = m.rd8 x := rfl

/-! ### setSec -/

@[simp] theorem setSec_regs (m : Mod) (f : SecState → SecState) : (m.setSec f).regs = m.regs := rfl
@[simp] theorem setSec_mem (m : Mod) (f : SecState → SecState) : (m.setSec f).mem = m.mem := rfl
@[simp] theorem setSec_now (m : Mod) (f : SecState → SecState) : (m.setSec f).now = m.now := rfl
@[simp] theorem setSec_modTime (m : Mod) (f : SecState → SecState) : (m.setSec f).modTime = m.modTime := rfl
@[simp] theorem setSec_free (m : Mod) (f : SecState → SecState) : (m.setSec f).free = m.free := rfl
@[simp] theorem setSec_out (m : Mod) (f : SecState → SecState) : (m.setSec f).out = m.out := rfl
@[simp] theorem setSec_resp (m : Mod) (f : SecState → SecState) : (m.setSec f).resp = m.resp := rfl
@[simp] theorem setSec_fc (m : Mod) (f : SecState → SecState) : (m.setSec f).fc = m.fc := rfl
@[simp] theorem setSec_dbk (m : Mod) (f : SecState → SecState) : (m.setSec f).dbk = m.dbk := rfl
@[simp] theorem setSec_tim (m : Mod) (f : SecState → SecState) : (m.setSec f).tim = m.tim := rfl
@[simp] theorem setSec_cfg (m : Mod) (f : SecState → SecState) : (m.setSec f).cfg = m.cfg := rfl
@[simp] theorem setSec_sec (m : Mod) (f : SecState → SecState) : (m.setSec f).sec = f m.sec := rfl
@[simp] theorem setSec_lanes (m : Mod) (f : SecState → SecState) : (m.setSec f).lanes = m.lanes := rfl
@[simp] theorem setSec_scl (m : Mod) (f : SecState → SecState) : (m.setSec f).scl = m.scl := rfl
@[simp] theorem setSec_task (m : Mod) (f : SecState → SecState) : (m.setSec f).task = m.task := rfl
@[simp] theorem setSec_lgr (m : Mod) (f : SecState → SecState) : (m.setSec f).lgr = m.lgr := rfl
@[simp] theorem setSec_chg (m : Mod) (f : SecState → SecState) : (m.setSec f).chg = m.chg := rfl
@[simp] theorem setSec_cyc (m : Mod) (f : SecState → SecState) : (m.setSec f).cyc = m.cyc := rfl
@[simp] theorem setSec_inaug (m : Mod) (f : SecState → SecState) : (m.setSec f).inaug = m.inaug := rfl
@[simp] theorem setSec_prt (m : Mod) (f : SecState → SecState) : (m.setSec f).prt = m.prt := rfl
@[simp] theorem setSec_twn (m : Mod) (f : SecState → SecState) : (m.setSec f).twn = m.twn := rfl
@[simp] theorem setSec_can (m : Mod) (f : SecState → SecState) : (m.setSec f).can = m.can := rfl
@[simp] theorem setSec_gw (m : Mod) (f : SecState → SecState) : (m.setSec f).gw = m.gw := rfl
@[simp] theorem setSec_lbb (m : Mod) (f : SecState → SecState) : (m.setSec f).lbb = m.lbb := rfl
@[simp] theorem setSec_dio (m : Mod) (f : SecState → SecState) : (m.setSec f).dio = m.dio := rfl
@[simp] theorem setSec_crossings (m : Mod) (f : SecState → SecState) : (m.setSec f).crossings = m.crossings := rfl
@[simp] theorem setSec_upd (m : Mod) (f : SecState → SecState) : (m.setSec f).upd = m.upd := rfl
@[simp] theorem setSec_env (m : Mod) (f : SecState → SecState) : (m.setSec f).env = m.env := rfl
@[simp] theorem setSec_get (m : Mod) (f : SecState → SecState) (g : Fld) (i j : Nat) : (m.setSec f).get g i j = m.get g i j := rfl
@[simp] theorem setSec_rd8 (m : Mod) (f : SecState → SecState) (x : Nat) : (m.setSec f).rd8 x = m.rd8 x := rfl

/-! ### setScl -/

@[simp] theorem setScl_regs (m : Mod) (f : SclState → SclState) : (m.setScl f).regs = m.regs := rfl
@[simp] theorem setScl_mem (m : Mod) (f : SclState → SclState) : (m.setScl f).mem = m.mem := rfl
@[simp] theorem setScl_now (m : Mod) (f : SclState → SclState) : (m.setScl f).now = m.now := rfl
@[simp] theorem setScl_modTime (m : Mod) (f : SclState → SclState) : (m.setScl f).modTime = m.modTime := rfl
@[simp] theorem setScl_free (m : Mod) (f : SclState → SclState) : (m.setScl f).free = m.free := rfl
@[simp] theorem setScl_out (m : Mod) (f : SclState → SclState) : (m.setScl f).out = m.out := rfl
@[simp] theorem setScl_resp (m : Mod) (f : SclState → SclState) : (m.setScl f).resp = m.resp := rfl
@[simp] theorem setScl_fc (m : Mod) (f : SclState → SclState) : (m.setScl f).fc = m.fc := rfl
@[simp] theorem setScl_dbk (m : Mod) (f : SclState → SclState) : (m.setScl f).dbk = m.dbk := rfl
@[simp] theorem setScl_tim (m : Mod) (f : SclState → SclState) : (m.setScl f).tim = m.tim := rfl
@[simp] theorem setScl_cfg (m : Mod) (f : SclState → SclState) : (m.setScl f).cfg = m.cfg := rfl
@[simp] theorem setScl_sec (m : Mod) (f : SclState → SclState) : (m.setScl f).sec = m.sec := rfl
@[simp] theorem setScl_lanes (m : Mod) (f : SclState → SclState) : (m.setScl f).lanes = m.lanes := rfl
@[simp] theorem setScl_scl (m : Mod) (f : SclState → SclState) : (m.setScl f).scl = f m.scl := rfl
@[simp] theorem setScl_task (m : Mod) (f : SclState → SclState) : (m.setScl f).task = m.task := rfl
@[simp] theorem setScl_lgr (m : Mod) (f : SclState → SclState) : (m.setScl f).lgr = m.lgr := rfl
@[simp] theorem setScl_chg (m : Mod) (f : SclState → SclState) : (m.setScl f).chg = m.chg := rfl
@[simp] theorem setScl_cyc (m : Mod) (f : SclState → SclState) : (m.setScl f).cyc = m.cyc := rfl
@[simp] theorem setScl_inaug (m : Mod) (f : SclState → SclState) : (m.setScl f).inaug = m.inaug := rfl
@[simp] theorem setScl_prt (m : Mod) (f : SclState → SclState) : (m.setScl f).prt = m.prt := rfl
@[simp] theorem setScl_twn (m : Mod) (f : SclState → SclState) : (m.setScl f).twn = m.twn := rfl
@[simp] theorem setScl_can (m : Mod) (f : SclState → SclState) : (m.setScl f).can = m.can := rfl
@[simp] theorem setScl_gw (m : Mod) (f : SclState → SclState) : (m.setScl f).gw = m.gw := rfl
@[simp] theorem setScl_lbb (m : Mod) (f : SclState → SclState) : (m.setScl f).lbb = m.lbb := rfl
@[simp] theorem setScl_dio (m : Mod) (f : SclState → SclState) : (m.setScl f).dio = m.dio := rfl
@[simp] theorem setScl_crossings (m : Mod) (f : SclState → SclState) : (m.setScl f).crossings = m.crossings := rfl
@[simp] theorem setScl_upd (m : Mod) (f : SclState → SclState) : (m.setScl f).upd = m.upd := rfl
@[simp] theorem setScl_env (m : Mod) (f : SclState → SclState) : (m.setScl f).env = m.env := rfl
@[simp] theorem setScl_get (m : Mod) (f : SclState → SclState) (g : Fld) (i j : Nat) : (m.setScl f).get g i j = m.get g i j := rfl
@[simp] theorem setScl_rd8 (m : Mod) (f : SclState → SclState) (x : Nat) : (m.setScl f).rd8 x = m.rd8 x := rfl

/-! ### setTask -/

@[simp] theorem setTask_regs (m : Mod) (f : TaskState → TaskState) : (m.setTask f).regs = m.regs := rfl
@[simp] theorem setTask_mem (m : Mod) (f : TaskState → TaskState) : (m.setTask f).mem = m.mem := rfl
@[simp] theorem setTask_now (m : Mod) (f : TaskState → TaskState) : (m.setTask f).now = m.now := rfl
@[simp] theorem setTask_modTime (m : Mod) (f : TaskState → TaskState) : (m.setTask f).modTime = m.modTime := rfl
@[simp] theorem setTask_free (m : Mod) (f : TaskState → TaskState) : (m.setTask f).free = m.free := rfl
@[simp] theorem setTask_out (m : Mod) (f : TaskState → TaskState) : (m.setTask f).out = m.out := rfl
@[simp] theorem setTask_resp (m : Mod) (f : TaskState → TaskState) : (m.setTask f).resp = m.resp := rfl
@[simp] theorem setTask_fc (m : Mod) (f : TaskState → TaskState) : (m.setTask f).fc = m.fc := rfl
@[simp] theorem setTask_dbk (m : Mod) (f : TaskState → TaskState) : (m.setTask f).dbk = m.dbk := rfl
@[simp] theorem setTask_tim (m : Mod) (f : TaskState → TaskState) : (m.setTask f).tim = m.tim := rfl
@[simp] theorem setTask_cfg (m : Mod) (f : TaskState → TaskState) : (m.setTask f).cfg = m.cfg := rfl
@[simp] theorem setTask_sec (m : Mod) (f : TaskState → TaskState) : (m.setTask f).sec = m.sec := rfl
@[simp] theorem setTask_lanes (m : Mod) (f : TaskState → TaskState) : (m.setTask f).lanes = m.lanes := rfl
@[simp] theorem setTask_scl (m : Mod) (f : TaskState → TaskState) : (m.setTask f).scl = m.scl := rfl
@[simp] theorem setTask_task (m : Mod) (f : TaskState → TaskState) : (m.setTask f).task = f m.task := rfl
@[simp] theorem setTask_lgr (m : Mod) (f : TaskState → TaskState) : (m.setTask f).lgr = m.lgr := rfl
@[simp] theorem setTask_chg (m : Mod) (f : TaskState → TaskState) : (m.setTask f).chg = m.chg := rfl
@[simp] theorem setTask_cyc (m : Mod) (f : TaskState → TaskState) : (m.setTask f).cyc = m.cyc := rfl
@[simp] theorem setTask_inaug (m : Mod) (f : TaskState → TaskState) : (m.setTask f).inaug = m.inaug := rfl
@[simp] theorem setTask_prt (m : Mod) (f : TaskState → TaskState) : (m.setTask f).prt = m.prt := rfl
@[simp] theorem setTask_twn (m : Mod) (f : TaskState → TaskState) : (m.setTask f).twn = m.twn := rfl
@[simp] theorem setTask_can (m : Mod) (f : TaskState → TaskState) : (m.setTask f).can = m.can := rfl
@[simp] theorem setTask_gw (m : Mod) (f : TaskState → TaskState) : (m.setTask f).gw = m.gw := rfl
@[simp] theorem setTask_lbb (m : Mod) (f : TaskState → TaskState) : (m.setTask f).lbb = m.lbb := rfl
@[simp] theorem setTask_dio (m : Mod) (f : TaskState → TaskState) : (m.setTask f).dio = m.dio := rfl
@[simp] theorem setTask_crossings (m : Mod) (f : TaskState → TaskState) : (m.setTask f).crossings = m.crossings := rfl
@[simp] theorem setTask_upd (m : Mod) (f : TaskState → TaskState) : (m.setTask f).upd = m.upd := rfl
@[simp] theorem setTask_env (m : Mod) (f : TaskState → TaskState) : (m.setTask f).env = m.env := rfl
@[simp] theorem setTask_get (m : Mod) (f : TaskState → TaskState) (g : Fld) (i j : Nat) : (m.setTask f).get g i j = m.get g i j := rfl
@[simp] theorem setTask_rd8 (m : Mod) (f : TaskState → TaskState) (x : Nat) : (m.setTask f).rd8 x = m.rd8 x := rfl

/-! ### setLgr -/

@[simp] theorem setLgr_regs (m : Mod) (f : LgrState → LgrState) : (m.setLgr f).regs = m.regs := rfl
@[simp] theorem setLgr_mem (m : Mod) (f : LgrState → LgrState) : (m.setLgr f).mem = m.mem := rfl
@[simp] theorem setLgr_now (m : Mod) (f : LgrState → LgrState) : (m.setLgr f).now = m.now := rfl
@[simp] theorem setLgr_modTime (m : Mod) (f : LgrState → LgrState) : (m.setLgr f).modTime = m.modTime := rfl
@[simp] theorem setLgr_free (m : Mod) (f : LgrState → LgrState) : (m.setLgr f).free = m.free := rfl
@[simp] theorem setLgr_out (m : Mod) (f : LgrState → LgrState) : (m.setLgr f).out = m.out := rfl
@[simp] theorem setLgr_resp (m : Mod) (f : LgrState → LgrState) : (m.setLgr f).resp = m.resp := rfl
@[simp] theorem setLgr_fc (m : Mod) (f : LgrState → LgrState) : (m.setLgr f).fc = m.fc := rfl
@[simp] theorem setLgr_dbk (m : Mod) (f : LgrState → LgrState) : (m.setLgr f).dbk = m.dbk := rfl
@[simp] theorem setLgr_tim (m : Mod) (f : LgrState → LgrState) : (m.setLgr f).tim = m.tim := rfl
@[simp] theorem setLgr_cfg (m : Mod) (f : LgrState → LgrState) : (m.setLgr f).cfg = m.cfg := rfl
@[simp] theorem setLgr_sec (m : Mod) (f : LgrState → LgrState) : (m.setLgr f).sec = m.sec := rfl
@[simp] theorem setLgr_lanes (m : Mod) (f : LgrState → LgrState) : (m.setLgr f).lanes = m.lanes := rfl
@[simp] theorem setLgr_scl (m : Mod) (f : LgrState → LgrState) : (m.setLgr f).scl = m.scl := rfl
@[simp] theorem setLgr_task (m : Mod) (f : LgrState → LgrState) : (m.setLgr f).task = m.task := rfl
@[simp] theorem setLgr_lgr (m : Mod) (f : LgrState → LgrState) : (m.setLgr f).lgr = f m.lgr := rfl
@[simp] theorem setLgr_chg (m : Mod) (f : LgrState → LgrState) : (m.setLgr f).chg = m.chg := rfl
@[simp] theorem setLgr_cyc (m : Mod) (f : LgrState → LgrState) : (m.setLgr f).cyc = m.cyc := rfl
@[simp] theorem setLgr_inaug (m : Mod) (f : LgrState → LgrState) : (m.setLgr f).inaug = m.inaug := rfl
@[simp] theorem setLgr_prt (m : Mod) (f : LgrState → LgrState) : (m.setLgr f).prt = m.prt := rfl
@[simp] theorem setLgr_twn (m : Mod) (f : LgrState → LgrState) : (m.setLgr f).twn = m.twn := rfl
@[simp] theorem setLgr_can (m : Mod) (f : LgrState → LgrState) : (m.setLgr f).can = m.can := rfl
@[simp] theorem setLgr_gw (m : Mod) (f : LgrState → LgrState) : (m.setLgr f).gw = m.gw := rfl
@[simp] theorem setLgr_lbb (m : Mod) (f : LgrState → LgrState) : (m.setLgr f).lbb = m.lbb := rfl
@[simp] theorem setLgr_dio (m : Mod) (f : LgrState → LgrState) : (m.setLgr f).dio = m.dio := rfl
@[simp] theorem setLgr_crossings (m : Mod) (f : LgrState → LgrState) : (m.setLgr f).crossings = m.crossings := rfl
@[simp] theorem setLgr_upd (m : Mod) (f : LgrState → LgrState) : (m.setLgr f).upd = m.upd := rfl
@[simp] theorem setLgr_env (m : Mod) (f : LgrState → LgrState) : (m.setLgr f).env = m.env := rfl
@[simp] theorem setLgr_get (m : Mod) (f : LgrState → LgrState) (g : Fld) (i j : Nat) : (m.setLgr f).get g i j = m.get g i j := rfl
@[simp] theorem setLgr_rd8 (m : Mod) (f : LgrState → LgrState) (x : Nat) : (m.setLgr f).rd8 x = m.rd8 x := rfl

/-! ### setChg -/

@[simp] theorem setChg_regs (m : Mod) (f : ChgState → ChgState) : (m.setChg f).regs = m.regs := rfl
@[simp] theorem setChg_mem (m : Mod) (f : ChgState → ChgState) : (m.setChg f).mem = m.mem := rfl
@[simp] theorem setChg_now (m : Mod) (f : ChgState → ChgState) : (m.setChg f).now = m.now := rfl
@[simp] theorem setChg_modTime (m : Mod) (f : ChgState → ChgState) : (m.setChg f).modTime = m.modTime := rfl
@[simp] theorem setChg_free (m : Mod) (f : ChgState → ChgState) : (m.setChg f).free = m.free := rfl
@[simp] theorem setChg_out (m : Mod) (f : ChgState → ChgState) : (m.setChg f).out = m.out := rfl
@[simp] theorem setChg_resp (m : Mod) (f : ChgState → ChgState) : (m.setChg f).resp = m.resp := rfl
@[simp] theorem setChg_fc (m : Mod) (f : ChgState → ChgState) : (m.setChg f).fc = m.fc := rfl
@[simp] theorem setChg_dbk (m : Mod) (f : ChgState → ChgState) : (m.setChg f).dbk = m.dbk := rfl
@[simp] theorem setChg_tim (m : Mod) (f : ChgState → ChgState) : (m.setChg f).tim = m.tim := rfl
@[simp] theorem setChg_cfg (m : Mod) (f : ChgState → ChgState) : (m.setChg f).cfg = m.cfg := rfl
@[simp] theorem setChg_sec (m : Mod) (f : ChgState → ChgState) : (m.setChg f).sec = m.sec := rfl
@[simp] theorem setChg_lanes (m : Mod) (f : ChgState → ChgState) : (m.setChg f).lanes = m.lanes := rfl
@[simp] theorem setChg_scl (m : Mod) (f : ChgState → ChgState) : (m.setChg f).scl = m.scl := rfl
@[simp] theorem setChg_task (m : Mod) (f : ChgState → ChgState) : (m.setChg f).task = m.task := rfl
@[simp] theorem setChg_lgr (m : Mod) (f : ChgState → ChgState) : (m.setChg f).lgr = m.lgr := rfl
@[simp] theorem setChg_chg (m : Mod) (f : ChgState → ChgState) : (m.setChg f).chg = f m.chg := rfl
@[simp] theorem setChg_cyc (m : Mod) (f : ChgState → ChgState) : (m.setChg f).cyc = m.cyc := rfl
@[simp] theorem setChg_inaug (m : Mod) (f : ChgState → ChgState) : (m.setChg f).inaug = m.inaug := rfl
@[simp] theorem setChg_prt (m : Mod) (f : ChgState → ChgState) : (m.setChg f).prt = m.prt := rfl
@[simp] theorem setChg_twn (m : Mod) (f : ChgState → ChgState) : (m.setChg f).twn = m.twn := rfl
@[simp] theorem setChg_can (m : Mod) (f : ChgState → ChgState) : (m.setChg f).can = m.can := rfl
@[simp] theorem setChg_gw (m : Mod) (f : ChgState → ChgState) : (m.setChg f).gw = m.gw := rfl
@[simp] theorem setChg_lbb (m : Mod) (f : ChgState → ChgState) : (m.setChg f).lbb = m.lbb := rfl
@[simp] theorem setChg_dio (m : Mod) (f : ChgState → ChgState) : (m.setChg f).dio = m.dio := rfl
@[simp] theorem setChg_crossings (m : Mod) (f : ChgState → ChgState) : (m.setChg f).crossings = m.crossings := rfl
@[simp] theorem setChg_upd (m : Mod) (f : ChgState → ChgState) : (m.setChg f).upd = m.upd := rfl
@[simp] theorem setChg_env (m : Mod) (f : ChgState → ChgState) : (m.setChg f).env = m.env := rfl
@[simp] theorem setChg_get (m : Mod) (f : ChgState → ChgState) (g : Fld) (i j : Nat) : (m.setChg f).get g i j = m.get g i j := rfl
@[simp] theorem setChg_rd8 (m : Mod) (f : ChgState → ChgState) (x : Nat) : (m.setChg f).rd8 x = m.rd8 x := rfl

/-! ### setCyc -/

@[simp] theorem setCyc_regs (m : Mod) (f : CycState → CycState) : (m.setCyc f).regs = m.regs := rfl
@[simp] theorem setCyc_mem (m : Mod) (f : CycState → CycState) : (m.setCyc f).mem = m.mem := rfl
@[simp] theorem setCyc_now (m : Mod) (f : CycState → CycState) : (m.setCyc f).now = m.now := rfl
@[simp] theorem setCyc_modTime (m : Mod) (f : CycState → CycState) : (m.setCyc f).modTime = m.modTime := rfl
@[simp] theorem setCyc_free (m : Mod) (f : CycState → CycState) : (m.setCyc f).free = m.free := rfl
@[simp] theorem setCyc_out (m : Mod) (f : CycState → CycState) : (m.setCyc f).out = m.out := rfl
@[simp] theorem setCyc_resp (m : Mod) (f : CycState → CycState) : (m.setCyc f).resp = m.resp := rfl
@[simp] theorem setCyc_fc (m : Mod) (f : CycState → CycState) : (m.setCyc f).fc = m.fc := rfl
@[simp] theorem setCyc_dbk (m : Mod) (f : CycState → CycState) : (m.setCyc f).dbk = m.dbk := rfl
@[simp] theorem setCyc_tim (m : Mod) (f : CycState → CycState) : (m.setCyc f).tim = m.tim := rfl
@[simp] theorem setCyc_cfg (m : Mod) (f : CycState → CycState) : (m.setCyc f).cfg = m.cfg := rfl
@[simp] theorem setCyc_sec (m : Mod) (f : CycState → CycState) : (m.setCyc f).sec = m.sec := rfl
@[simp] theorem setCyc_lanes (m : Mod) (f : CycState → CycState) : (m.setCyc f).lanes = m.lanes := rfl
@[simp] theorem setCyc_scl (m : Mod) (f : CycState → CycState) : (m.setCyc f).scl = m.scl := rfl
@[simp] theorem setCyc_task (m : Mod) (f : CycState → CycState) : (m.setCyc f).task = m.task := rfl
@[simp] theorem setCyc_lgr (m : Mod) (f : CycState → CycState) : (m.setCyc f).lgr = m.lgr := rfl
@[simp] theorem setCyc_chg (m : Mod) (f : CycState → CycState) : (m.setCyc f).chg = m.chg := rfl
@[simp] theorem setCyc_cyc (m : Mod) (f : CycState → CycState) : (m.setCyc f).cyc = f m.cyc := rfl
@[simp] theorem setCyc_inaug (m : Mod) (f : CycState → CycState) : (m.setCyc f).inaug = m.inaug := rfl
@[simp] theorem setCyc_prt (m : Mod) (f : CycState → CycState) : (m.setCyc f).prt = m.prt := rfl
@[simp] theorem setCyc_twn (m : Mod) (f : CycState → CycState) : (m.setCyc f).twn = m.twn := rfl
@[simp] theorem setCyc_can (m : Mod) (f : CycState → CycState) : (m.setCyc f).can = m.can := rfl
@[simp] theorem setCyc_gw (m : Mod) (f : CycState → CycState) : (m.setCyc f).gw = m.gw := rfl
@[simp] theorem setCyc_lbb (m : Mod) (f : CycState → CycState) : (m.setCyc f).lbb = m.lbb := rfl
@[simp] theorem setCyc_dio (m : Mod) (f : CycState → CycState) : (m.setCyc f).dio = m.dio := rfl
@[simp] theorem setCyc_crossings (m : Mod) (f : CycState → CycState) : (m.setCyc f).crossings = m.crossings := rfl
@[simp] theorem setCyc_upd (m : Mod) (f : CycState → CycState) : (m.setCyc f).upd = m.upd := rfl
@[simp] theorem setCyc_env (m : Mod) (f : CycState → CycState) : (m.setCyc f).env = m.env := rfl
@[simp] theorem setCyc_get (m : Mod) (f : CycState → CycState) (g : Fld) (i j : Nat) : (m.setCyc f).get g i j = m.get g i j := rfl
@[simp] theorem setCyc_rd8 (m : Mod) (f : CycState → CycState) (x : Nat) : (m.setCyc f).rd8 x = m.rd8 x := rfl

/-! ### setInaug -/

@[simp] theorem setInaug_regs (m : Mod) (f : InaugState → InaugState) : (m.setInaug f).regs = m.regs := rfl
@[simp] theorem setInaug_mem (m : Mod) (f : InaugState → InaugState) : (m.setInaug f).mem = m.mem := rfl
@[simp] theorem setInaug_now (m : Mod) (f : InaugState → InaugState) : (m.setInaug f).now = m.now := rfl
@[simp] theorem setInaug_modTime (m : Mod) (f : InaugState → InaugState) : (m.setInaug f).modTime = m.modTime := rfl
@[simp] theorem setInaug_free (m : Mod) (f : InaugState → InaugState) : (m.setInaug f).free = m.free := rfl
@[simp] theorem setInaug_out (m : Mod) (f : InaugState → InaugState) : (m.setInaug f).out = m.out := rfl
@[simp] theorem setInaug_resp (m : Mod) (f : InaugState → InaugState) : (m.setInaug f).resp = m.resp := rfl
@[simp] theorem setInaug_fc (m : Mod) (f : InaugState → InaugState) : (m.setInaug f).fc = m.fc := rfl
@[simp] theorem setInaug_dbk (m : Mod) (f : InaugState → InaugState) : (m.setInaug f).dbk = m.dbk := rfl
@[simp] theorem setInaug_tim (m : Mod) (f : InaugState → InaugState) : (m.setInaug f).tim = m.tim := rfl
@[simp] theorem setInaug_cfg (m : Mod) (f : InaugState → InaugState) : (m.setInaug f).cfg = m.cfg := rfl
@[simp] theorem setInaug_sec (m : Mod) (f : InaugState → InaugState) : (m.setInaug f).sec = m.sec := rfl
@[simp] theorem setInaug_lanes (m : Mod) (f : InaugState → InaugState) : (m.setInaug f).lanes = m.lanes := rfl
@[simp] theorem setInaug_scl (m : Mod) (f : InaugState → InaugState) : (m.setInaug f).scl = m.scl := rfl
@[simp] theorem setInaug_task (m : Mod) (f : InaugState → InaugState) : (m.setInaug f).task = m.task := rfl
@[simp] theorem setInaug_lgr (m : Mod) (f : InaugState → InaugState) : (m.setInaug f).lgr = m.lgr := rfl
@[simp] theorem setInaug_chg (m : Mod) (f : InaugState → InaugState) : (m.setInaug f).chg = m.chg := rfl
@[simp] theorem setInaug_cyc (m : Mod) (f : InaugState → InaugState) : (m.setInaug f).cyc = m.cyc := rfl
@[simp] theorem setInaug_inaug (m : Mod) (f : InaugState → InaugState) : (m.setInaug f).inaug = f m.inaug := rfl
@[simp] theorem setInaug_prt (m : Mod) (f : InaugState → InaugState) : (m.setInaug f).prt = m.prt := rfl
@[simp] theorem setInaug_twn (m : Mod) (f : InaugState → InaugState) : (m.setInaug f).twn = m.twn := rfl
@[simp] theorem setInaug_can (m : Mod) (f : InaugState → InaugState) : (m.setInaug f).can = m.can := rfl
@[simp] theorem setInaug_gw (m : Mod) (f : InaugState → InaugState) : (m.setInaug f).gw = m.gw := rfl
@[simp] theorem setInaug_lbb (m : Mod) (f : InaugState → InaugState) : (m.setInaug f).lbb = m.lbb := rfl
@[simp] theorem setInaug_dio (m : Mod) (f : InaugState → InaugState) : (m.setInaug f).dio = m.dio := rfl
@[simp] theorem setInaug_crossings (m : Mod) (f : InaugState → InaugState) : (m.setInaug f).crossings = m.crossings := rfl
@[simp] theorem setInaug_upd (m : Mod) (f : InaugState → InaugState) : (m.setInaug f).upd = m.upd := rfl
@[simp] theorem setInaug_env (m : Mod) (f : InaugState → InaugState) : (m.setInaug f).env = m.env := rfl
@[simp] theorem setInaug_get (m : Mod) (f : InaugState → InaugState) (g : Fld) (i j : Nat) : (m.setInaug f).get g i j = m.get g i j := rfl
@[simp] theorem setInaug_rd8 (m : Mod) (f : InaugState → InaugState) (x : Nat) : (m.setInaug f).rd8 x = m.rd8 x := rfl

/-! ### setTwn -/

@[simp] theorem setTwn_regs (m : Mod) (f : TwnState → TwnState) : (m.setTwn f).regs = m.regs := rfl
@[simp] theorem setTwn_mem (m : Mod) (f : TwnState → TwnState) : (m.setTwn f).mem = m.mem := rfl
@[simp] theorem setTwn_now (m : Mod) (f : TwnState → TwnState) : (m.setTwn f).now = m.now := rfl
@[simp] theorem setTwn_modTime (m : Mod) (f : TwnState → TwnState) : (m.setTwn f).modTime = m.modTime := rfl
@[simp] theorem setTwn_free (m : Mod) (f : TwnState → TwnState) : (m.setTwn f).free = m.free := rfl
@[simp] theorem setTwn_out (m : Mod) (f : TwnState → TwnState) : (m.setTwn f).out = m.out := rfl
@[simp] theorem setTwn_resp (m : Mod) (f : TwnState → TwnState) : (m.setTwn f).resp = m.resp := rfl
@[simp] theorem setTwn_fc (m : Mod) (f : TwnState → TwnState) : (m.setTwn f).fc = m.fc := rfl
@[simp] theorem setTwn_dbk (m : Mod) (f : TwnState → TwnState) : (m.setTwn f).dbk = m.dbk := rfl
@[simp] theorem setTwn_tim (m : Mod) (f : TwnState → TwnState) : (m.setTwn f).tim = m.tim := rfl
@[simp] theorem setTwn_cfg (m : Mod) (f : TwnState → TwnState) : (m.setTwn f).cfg = m.cfg := rfl
@[simp] theorem setTwn_sec (m : Mod) (f : TwnState → TwnState) : (m.setTwn f).sec = m.sec := rfl
@[simp] theorem setTwn_lanes (m : Mod) (f : TwnState → TwnState) : (m.setTwn f).lanes = m.lanes := rfl
@[simp] theorem setTwn_scl (m : Mod) (f : TwnState → TwnState) : (m.setTwn f).scl = m.scl := rfl
@[simp] theorem setTwn_task (m : Mod) (f : TwnState → TwnState) : (m.setTwn f).task = m.task := rfl
@[simp] theorem setTwn_lgr (m : Mod) (f : TwnState → TwnState) : (m.setTwn f).lgr = m.lgr := rfl
@[simp] theorem setTwn_chg (m : Mod) (f : TwnState → TwnState) : (m.setTwn f).chg = m.chg := rfl
@[simp] theorem setTwn_cyc (m : Mod) (f : TwnState → TwnState) : (m.setTwn f).cyc = m.cyc := rfl
@[simp] theorem setTwn_inaug (m : Mod) (f : TwnState → TwnState) : (m.setTwn f).inaug = m.inaug := rfl
@[simp] theorem setTwn_prt (m : Mod) (f : TwnState → TwnState) : (m.setTwn f).prt = m.prt := rfl
@[simp] theorem setTwn_twn (m : Mod) (f : TwnState → TwnState) : (m.setTwn f).twn = f m.twn := rfl
@[simp] theorem setTwn_can (m : Mod) (f : TwnState → TwnState) : (m.setTwn f).can = m.can := rfl
@[simp] theorem setTwn_gw (m : Mod) (f : TwnState → TwnState) : (m.setTwn f).gw = m.gw := rfl
@[simp] theorem setTwn_lbb (m : Mod) (f : TwnState → TwnState) : (m.setTwn f).lbb = m.lbb := rfl
@[simp] theorem setTwn_dio (m : Mod) (f : TwnState → TwnState) : (m.setTwn f).dio = m.dio := rfl
@[simp] theorem setTwn_crossings (m : Mod) (f : TwnState → TwnState) : (m.setTwn f).crossings = m.crossings := rfl
@[simp] theorem setTwn_upd (m : Mod) (f : TwnState → TwnState) : (m.setTwn f).upd = m.upd := rfl
@[simp] theorem setTwn_env (m : Mod) (f : TwnState → TwnState) : (m.setTwn f).env = m.env := rfl
@[simp] theorem setTwn_get (m : Mod) (f : TwnState → TwnState) (g : Fld) (i j : Nat) : (m.setTwn f).get g i j = m.get g i j := rfl
@[simp] theorem setTwn_rd8 (m : Mod) (f : TwnState → TwnState) (x : Nat) : (m.setTwn f).rd8 x = m.rd8 x := rfl

/-! ### setGw -/

@[simp] theorem setGw_regs (m : Mod) (f : GwState → GwState) : (m.setGw f).regs = m.regs := rfl
@[simp] theorem setGw_mem (m : Mod) (f : GwState → GwState) : (m.setGw f).mem = m.mem := rfl
@[simp] theorem setGw_now (m : Mod) (f : GwState → GwState) : (m.setGw f).now = m.now := rfl
@[simp] theorem setGw_modTime (m : Mod) (f : GwState → GwState) : (m.setGw f).modTime = m.modTime := rfl
@[simp] theorem setGw_free (m : Mod) (f : GwState → GwState) : (m.setGw f).free = m.free := rfl
@[simp] theorem setGw_out (m : Mod) (f : GwState → GwState) : (m.setGw f).out = m.out := rfl
@[simp] theorem setGw_resp (m : Mod) (f : GwState → GwState) : (m.setGw f).resp = m.resp := rfl
@[simp] theorem setGw_fc (m : Mod) (f : GwState → GwState) : (m.setGw f).fc = m.fc := rfl
@[simp] theorem setGw_dbk (m : Mod) (f : GwState → GwState) : (m.setGw f).dbk = m.dbk := rfl
@[simp] theorem setGw_tim (m : Mod) (f : GwState → GwState) : (m.setGw f).tim = m.tim := rfl
@[simp] theorem setGw_cfg (m : Mod) (f : GwState → GwState) : (m.setGw f).cfg = m.cfg := rfl
@[simp] theorem setGw_sec (m : Mod) (f : GwState → GwState) : (m.setGw f).sec = m.sec := rfl
@[simp] theorem setGw_lanes (m : Mod) (f : GwState → GwState) : (m.setGw f).lanes = m.lanes := rfl
@[simp] theorem setGw_scl (m : Mod) (f : GwState → GwState) : (m.setGw f).scl = m.scl := rfl
@[simp] theorem setGw_task (m : Mod) (f : GwState → GwState) : (m.setGw f).task = m.task := rfl
@[simp] theorem setGw_lgr (m : Mod) (f : GwState → GwState) : (m.setGw f).lgr = m.lgr := rfl
@[simp] theorem setGw_chg (m : Mod) (f : GwState → GwState) : (m.setGw f).chg = m.chg := rfl
@[simp] theorem setGw_cyc (m : Mod) (f : GwState → GwState) : (m.setGw f).cyc = m.cyc := rfl
@[simp] theorem setGw_inaug (m : Mod) (f : GwState → GwState) : (m.setGw f).inaug = m.inaug := rfl
@[simp] theorem setGw_prt (m : Mod) (f : GwState → GwState) : (m.setGw f).prt = m.prt := rfl
@[simp] theorem setGw_twn (m : Mod) (f : GwState → GwState) : (m.setGw f).twn = m.twn := rfl
@[simp] theorem setGw_can (m : Mod) (f : GwState → GwState) : (m.setGw f).can = m.can := rfl
@[simp] theorem setGw_gw (m : Mod) (f : GwState → GwState) : (m.setGw f).gw = f m.gw := rfl
@[simp] theorem setGw_lbb (m : Mod) (f : GwState → GwState) : (m.setGw f).lbb = m.lbb := rfl
@[simp] theorem setGw_dio (m : Mod) (f : GwState → GwState) : (m.setGw f).dio = m.dio := rfl
@[simp] theorem setGw_crossings (m : Mod) (f : GwState → GwState) : (m.setGw f).crossings = m.crossings := rfl
@[simp] theorem setGw_upd (m : Mod) (f : GwState → GwState) : (m.setGw f).upd = m.upd := rfl
@[simp] theorem setGw_env (m : Mod) (f : GwState → GwState) : (m.setGw f).env = m.env := rfl
@[simp] theorem setGw_get (m : Mod) (f : GwState → GwState) (g : Fld) (i j : Nat) : (m.setGw f).get g i j = m.get g i j := rfl
@[simp] theorem setGw_rd8 (m : Mod) (f : GwState → GwState) (x : Nat) : (m.setGw f).rd8 x = m.rd8 x := rfl

/-! ### setLbb -/

@[simp] theorem setLbb_regs (m : Mod) (f : LbbState → LbbState) : (m.setLbb f).regs = m.regs := rfl
@[simp] theorem setLbb_mem (m : Mod) (f : LbbState → LbbState) : (m.setLbb f).mem = m.mem := rfl
@[simp] theorem setLbb_now (m : Mod) (f : LbbState → LbbState) : (m.setLbb f).now = m.now := rfl
@[simp] theorem setLbb_modTime (m : Mod) (f : LbbState → LbbState) : (m.setLbb f).modTime = m.modTime := rfl
@[simp] theorem setLbb_free (m : Mod) (f : LbbState → LbbState) : (m.setLbb f).free = m.free := rfl
@[simp] theorem setLbb_out (m : Mod) (f : LbbState → LbbState) : (m.setLbb f).out = m.out := rfl
@[simp] theorem setLbb_resp (m : Mod) (f : LbbState → LbbState) : (m.setLbb f).resp = m.resp := rfl
@[simp] theorem setLbb_fc (m : Mod) (f : LbbState → LbbState) : (m.setLbb f).fc = m.fc := rfl
@[simp] theorem setLbb_dbk (m : Mod) (f : LbbState → LbbState) : (m.setLbb f).dbk = m.dbk := rfl
@[simp] theorem setLbb_tim (m : Mod) (f : LbbState → LbbState) : (m.setLbb f).tim = m.tim := rfl
@[simp] theorem setLbb_cfg (m : Mod) (f : LbbState → LbbState) : (m.setLbb f).cfg = m.cfg := rfl
@[simp] theorem setLbb_sec (m : Mod) (f : LbbState → LbbState) : (m.setLbb f).sec = m.sec := rfl
@[simp] theorem setLbb_lanes (m : Mod) (f : LbbState → LbbState) : (m.setLbb f).lanes = m.lanes := rfl
@[simp] theorem setLbb_scl (m : Mod) (f : LbbState → LbbState) : (m.setLbb f).scl = m.scl := rfl
@[simp] theorem setLbb_task (m : Mod) (f : LbbState → LbbState) : (m.setLbb f).task = m.task := rfl
@[simp] theorem setLbb_lgr (m : Mod) (f : LbbState → LbbState) : (m.setLbb f).lgr = m.lgr := rfl
@[simp] theorem setLbb_chg (m : Mod) (f : LbbState → LbbState) : (m.setLbb f).chg = m.chg := rfl
@[simp] theorem setLbb_cyc (m : Mod) (f : LbbState → LbbState) : (m.setLbb f).cyc = m.cyc := rfl
@[simp] theorem setLbb_inaug (m : Mod) (f : LbbState → LbbState) : (m.setLbb f).inaug = m.inaug := rfl
@[simp] theorem setLbb_prt (m : Mod) (f : LbbState → LbbState) : (m.setLbb f).prt = m.prt := rfl
@[simp] theorem setLbb_twn (m : Mod) (f : LbbState → LbbState) : (m.setLbb f).twn = m.twn := rfl
@[simp] theorem setLbb_can (m : Mod) (f : LbbState → LbbState) : (m.setLbb f).can = m.can := rfl
@[simp] theorem setLbb_gw (m : Mod) (f : LbbState → LbbState) : (m.setLbb f).gw = m.gw := rfl
@[simp] theorem setLbb_lbb (m : Mod) (f : LbbState → LbbState) : (m.setLbb f).lbb = f m.lbb := rfl
@[simp] theorem setLbb_dio (m : Mod) (f : LbbState → LbbState) : (m.setLbb f).dio = m.dio := rfl
@[simp] theorem setLbb_crossings (m : Mod) (f : LbbState → LbbState) : (m.setLbb f).crossings = m.crossings := rfl
@[simp] theorem setLbb_upd (m : Mod) (f : LbbState → LbbState) : (m.setLbb f).upd = m.upd := rfl
@[simp] theorem setLbb_env (m : Mod) (f : LbbState → LbbState) : (m.setLbb f).env = m.env := rfl
@[simp] theorem setLbb_get (m : Mod) (f : LbbState → LbbState) (g : Fld) (i j : Nat) : (m.setLbb f).get g i j = m.get g i j := rfl
@[simp] theorem setLbb_rd8 (m : Mod) (f : LbbState → LbbState) (x : Nat) : (m.setLbb f).rd8 x = m.rd8 x := rfl

/-! ### setDio -/

@[simp] theorem setDio_regs (m : Mod) (f : DioState → DioState) : (m.setDio f).regs = m.regs := rfl
@[simp] theorem setDio_mem (m : Mod) (f : DioState → DioState) : (m.setDio f).mem = m.mem := rfl
@[simp] theorem setDio_now (m : Mod) (f : DioState → DioState) : (m.setDio f).now = m.now := rfl
@[simp] theorem setDio_modTime (m : Mod) (f : DioState → DioState) : (m.setDio f).modTime = m.modTime := rfl
@[simp] theorem setDio_free (m : Mod) (f : DioState → DioState) : (m.setDio f).free = m.free := rfl
@[simp] theorem setDio_out (m : Mod) (f : DioState → DioState) : (m.setDio f).out = m.out := rfl
@[simp] theorem setDio_resp (m : Mod) (f : DioState → DioState) : (m.setDio f).resp = m.resp := rfl
@[simp] theorem setDio_fc (m : Mod) (f : DioState → DioState) : (m.setDio f).fc = m.fc := rfl
@[simp] theorem setDio_dbk (m : Mod) (f : DioState → DioState) : (m.setDio f).dbk = m.dbk := rfl
@[simp] theorem setDio_tim (m : Mod) (f : DioState → DioState) : (m.setDio f).tim = m.tim := rfl
@[simp] theorem setDio_cfg (m : Mod) (f : DioState → DioState) : (m.setDio f).cfg = m.cfg := rfl
@[simp] theorem setDio_sec (m : Mod) (f : DioState → DioState) : (m.setDio f).sec = m.sec := rfl
@[simp] theorem setDio_lanes (m : Mod) (f : DioState → DioState) : (m.setDio f).lanes = m.lanes := rfl
@[simp] theorem setDio_scl (m : Mod) (f : DioState → DioState) : (m.setDio f).scl = m.scl := rfl
@[simp] theorem setDio_task (m : Mod) (f : DioState → DioState) : (m.setDio f).task = m.task := rfl
@[simp] theorem setDio_lgr (m : Mod) (f : DioState → DioState) : (m.setDio f).lgr = m.lgr := rfl
@[simp] theorem setDio_chg (m : Mod) (f : DioState → DioState) : (m.setDio f).chg = m.chg := rfl
@[simp] theorem setDio_cyc (m : Mod) (f : DioState → DioState) : (m.setDio f).cyc = m.cyc := rfl
@[simp] theorem setDio_inaug (m : Mod) (f : DioState → DioState) : (m.setDio f).inaug = m.inaug := rfl
@[simp] theorem setDio_prt (m : Mod) (f : DioState → DioState) : (m.setDio f).prt = m.prt := rfl
@[simp] theorem setDio_twn (m : Mod) (f : DioState → DioState) : (m.setDio f).twn = m.twn := rfl
@[simp] theorem setDio_can (m : Mod) (f : DioState → DioState) : (m.setDio f).can = m.can := rfl
@[simp] theorem setDio_gw (m : Mod) (f : DioState → DioState) : (m.setDio f).gw = m.gw := rfl
@[simp] theorem setDio_lbb (m : Mod) (f : DioState → DioState) : (m.setDio f).lbb = m.lbb := rfl
@[simp] theorem setDio_dio (m : Mod) (f : DioState → DioState) : (m.setDio f).dio = f m.dio := rfl
@[simp] theorem setDio_crossings (m : Mod) (f : DioState → DioState) : (m.setDio f).crossings = m.crossings := rfl
@[simp] theorem setDio_upd (m : Mod) (f : DioState → DioState) : (m.setDio f).upd = m.upd := rfl
@[simp] theorem setDio_env (m : Mod) (f : DioState → DioState) : (m.setDio f).env = m.env := rfl
@[simp] theorem setDio_get (m : Mod) (f : DioState → DioState) (g : Fld) (i j : Nat) : (m.setDio f).get g i j = m.get g i j := rfl
@[simp] theorem setDio_rd8 (m : Mod) (f : DioState → DioState) (x : Nat) : (m.setDio f).rd8 x = m.rd8 x := rfl

/-! ### setUpd -/

@[simp] theorem setUpd_regs (m : Mod) (f : UpdState → UpdState) : (m.setUpd f).regs = m.regs := rfl
@[simp] theorem setUpd_mem (m : Mod) (f : UpdState → UpdState) : (m.setUpd f).mem = m.mem := rfl
@[simp] theorem setUpd_now (m : Mod) (f : UpdState → UpdState) : (m.setUpd f).now = m.now := rfl
@[simp] theorem setUpd_modTime (m : Mod) (f : UpdState → UpdState) : (m.setUpd f).modTime = m.modTime := rfl
@[simp] theorem setUpd_free (m : Mod) (f : UpdState → UpdState) : (m.setUpd f).free = m.free := rfl
@[simp] theorem setUpd_out (m : Mod) (f : UpdState → UpdState) : (m.setUpd f).out = m.out := rfl
@[simp] theorem setUpd_resp (m : Mod) (f : UpdState → UpdState) : (m.setUpd f).resp = m.resp := rfl
@[simp] theorem setUpd_fc (m : Mod) (f : UpdState → UpdState) : (m.setUpd f).fc = m.fc := rfl
@[simp] theorem setUpd_dbk (m : Mod) (f : UpdState → UpdState) : (m.setUpd f).dbk = m.dbk := rfl
@[simp] theorem setUpd_tim (m : Mod) (f : UpdState → UpdState) : (m.setUpd f).tim = m.tim := rfl
@[simp] theorem setUpd_cfg (m : Mod) (f : UpdState → UpdState) : (m.setUpd f).cfg = m.cfg := rfl
@[simp] theorem setUpd_sec (m : Mod) (f : UpdState → UpdState) : (m.setUpd f).sec = m.sec := rfl
@[simp] theorem setUpd_lanes (m : Mod) (f : UpdState → UpdState) : (m.setUpd f).lanes = m.lanes := rfl
@[simp] theorem setUpd_scl (m : Mod) (f : UpdState → UpdState) : (m.setUpd f).scl = m.scl := rfl
@[simp] theorem setUpd_task (m : Mod) (f : UpdState → UpdState) : (m.setUpd f).task = m.task := rfl
@[simp] theorem setUpd_lgr (m : Mod) (f : UpdState → UpdState) : (m.setUpd f).lgr = m.lgr := rfl
@[simp] theorem setUpd_chg (m : Mod) (f : UpdState → UpdState) : (m.setUpd f).chg = m.chg := rfl
@[simp] theorem setUpd_cyc (m : Mod) (f : UpdState → UpdState) : (m.setUpd f).cyc = m.cyc := rfl
@[simp] theorem setUpd_inaug (m : Mod) (f : UpdState → UpdState) : (m.setUpd f).inaug = m.inaug := rfl
@[simp] theorem setUpd_prt (m : Mod) (f : UpdState → UpdState) : (m.setUpd f).prt = m.prt := rfl
@[simp] theorem setUpd_twn (m : Mod) (f : UpdState → UpdState) : (m.setUpd f).twn = m.twn := rfl
@[simp] theorem setUpd_can (m : Mod) (f : UpdState → UpdState) : (m.setUpd f).can = m.can := rfl
@[simp] theorem setUpd_gw (m : Mod) (f : UpdState → UpdState) : (m.setUpd f).gw = m.gw := rfl
@[simp] theorem setUpd_lbb (m : Mod) (f : UpdState → UpdState) : (m.setUpd f).lbb = m.lbb := rfl
@[simp] theorem setUpd_dio (m : Mod) (f : UpdState → UpdState) : (m.setUpd f).dio = m.dio := rfl
@[simp] theorem setUpd_crossings (m : Mod) (f : UpdState → UpdState) : (m.setUpd f).crossings = m.crossings := rfl
@[simp] theorem setUpd_upd (m : Mod) (f : UpdState → UpdState) : (m.setUpd f).upd = f m.upd := rfl
@[simp] theorem setUpd_env (m : Mod) (f : UpdState → UpdState) : (m.setUpd f).env = m.env := rfl
@[simp] theorem setUpd_get (m : Mod) (f : UpdState → UpdState) (g : Fld) (i j : Nat) : (m.setUpd f).get g i j = m.get g i j := rfl
@[simp] theorem setUpd_rd8 (m : Mod) (f : UpdState → UpdState) (x : Nat) : (m.setUpd f).rd8 x = m.rd8 x := rfl

/-! ### setPrt -/

@[simp] theorem setPrt_regs (m : Mod) (s : Nat) (f : PrtState → PrtState) : (m.setPrt s f).regs = m.regs := rfl
@[simp] theorem setPrt_mem (m : Mod) (s : Nat) (f : PrtState → PrtState) : (m.setPrt s f).mem = m.mem := rfl
@[simp] theorem setPrt_now (m : Mod) (s : Nat) (f : PrtState → PrtState) : (m.setPrt s f).now = m.now := rfl
@[simp] theorem setPrt_modTime (m : Mod) (s : Nat) (f : PrtState → PrtState) : (m.setPrt s f).modTime = m.modTime := rfl
@[simp] theorem setPrt_free (m : Mod) (s : Nat) (f : PrtState → PrtState) : (m.setPrt s f).free = m.free := rfl
@[simp] theorem setPrt_out (m : Mod) (s : Nat) (f : PrtState → PrtState) : (m.setPrt s f).out = m.out := rfl
@[simp] theorem setPrt_resp (m : Mod) (s : Nat) (f : PrtState → PrtState) : (m.setPrt s f).resp = m.resp := rfl
@[simp] theorem setPrt_fc (m : Mod) (s : Nat) (f : PrtState → PrtState) : (m.setPrt s f).fc = m.fc := rfl
@[simp] theorem setPrt_dbk (m : Mod) (s : Nat) (f : PrtState → PrtState) : (m.setPrt s f).dbk = m.dbk := rfl
@[simp] theorem setPrt_tim (m : Mod) (s : Nat) (f : PrtState → PrtState) : (m.setPrt s f).tim = m.tim := rfl
@[simp] theorem setPrt_cfg (m : Mod) (s : Nat) (f : PrtState → PrtState) : (m.setPrt s f).cfg = m.cfg := rfl
@[simp] theorem setPrt_sec (m : Mod) (s : Nat) (f : PrtState → PrtState) : (m.setPrt s f).sec = m.sec := rfl
@[simp] theorem setPrt_lanes (m : Mod) (s : Nat) (f : PrtState → PrtState) : (m.setPrt s f).lanes = m.lanes := rfl
@[simp] theorem setPrt_scl (m : Mod) (s : Nat) (f : PrtState → PrtState) : (m.setPrt s f).scl = m.scl := rfl
@[simp] theorem setPrt_task (m : Mod) (s : Nat) (f : PrtState → PrtState) : (m.setPrt s f).task = m.task := rfl
@[simp] theorem setPrt_lgr (m : Mod) (s : Nat) (f : PrtState → PrtState) : (m.setPrt s f).lgr = m.lgr := rfl
@[simp] theorem setPrt_chg (m : Mod) (s : Nat) (f : PrtState → PrtState) : (m.setPrt s f).chg = m.chg := rfl
@[simp] theorem setPrt_cyc (m : Mod) (s : Nat) (f : PrtState → PrtState) : (m.setPrt s f).cyc = m.cyc := rfl
@[simp] theorem setPrt_inaug (m : Mod) (s : Nat) (f : PrtState → PrtState) : (m.setPrt s f).inaug = m.inaug := rfl
@[simp] theorem setPrt_prt (m : Mod) (s : Nat) (f : PrtState → PrtState) : (m.setPrt s f).prt = updAt m.prt s f := rfl
@[simp] theorem setPrt_twn (m : Mod) (s : Nat) (f : PrtState → PrtState) : (m.setPrt s f).twn = m.twn := rfl
@[simp] theorem setPrt_can (m : Mod) (s : Nat) (f : PrtState → PrtState) : (m.setPrt s f).can = m.can := rfl
@[simp] theorem setPrt_gw (m : Mod) (s : Nat) (f : PrtState → PrtState) : (m.setPrt s f).gw = m.gw := rfl
@[simp] theorem setPrt_lbb (m : Mod) (s : Nat) (f : PrtState → PrtState) : (m.setPrt s f).lbb = m.lbb := rfl
@[simp] theorem setPrt_dio (m : Mod) (s : Nat) (f : PrtState → PrtState) : (m.setPrt s f).dio = m.dio := rfl
@[simp] theorem setPrt_crossings (m : Mod) (s : Nat) (f : PrtState → PrtState) : (m.setPrt s f).crossings = m.crossings := rfl
@[simp] theorem setPrt_upd (m : Mod) (s : Nat) (f : PrtState → PrtState) : (m.setPrt s f).upd = m.upd := rfl
@[simp] theorem setPrt_env (m : Mod) (s : Nat) (f : PrtState → PrtState) : (m.setPrt s f).env = m.env := rfl
@[simp] theorem setPrt_get (m : Mod) (s : Nat) (f : PrtState → PrtState) (g : Fld) (i j : Nat) : (m.setPrt s f).get g i j = m.get g i j := rfl
@[simp] theorem setPrt_rd8 (m : Mod) (s : Nat) (f : PrtState → PrtState) (x : Nat) : (m.setPrt s f).rd8 x = m.rd8 x := rfl

/-! ### setCan -/

@[simp] theorem setCan_regs (m : Mod) (n : Nat) (f : CanState → CanState) : (m.setCan n f).regs = m.regs := rfl
@[simp] theorem setCan_mem (m : Mod) (n : Nat) (f : CanState → CanState) : (m.setCan n f).mem = m.mem := rfl
@[simp] theorem setCan_now (m : Mod) (n : Nat) (f : CanState → CanState) : (m.setCan n f).now = m.now := rfl
@[simp] theorem setCan_modTime (m : Mod) (n : Nat) (f : CanState → CanState) : (m.setCan n f).modTime = m.modTime := rfl
@[simp] theorem setCan_free (m : Mod) (n : Nat) (f : CanState → CanState) : (m.setCan n f).free = m.free := rfl
@[simp] theorem setCan_out (m : Mod) (n : Nat) (f : CanState → CanState) : (m.setCan n f).out = m.out := rfl
@[simp] theorem setCan_resp (m : Mod) (n : Nat) (f : CanState → CanState) : (m.setCan n f).resp = m.resp := rfl
@[simp] theorem setCan_fc (m : Mod) (n : Nat) (f : CanState → CanState) : (m.setCan n f).fc = m.fc := rfl
@[simp] theorem setCan_dbk (m : Mod) (n : Nat) (f : CanState → CanState) : (m.setCan n f).dbk = m.dbk := rfl
@[simp] theorem setCan_tim (m : Mod) (n : Nat) (f : CanState → CanState) : (m.setCan n f).tim = m.tim := rfl
@[simp] theorem setCan_cfg (m : Mod) (n : Nat) (f : CanState → CanState) : (m.setCan n f).cfg = m.cfg := rfl
@[simp] theorem setCan_sec (m : Mod) (n : Nat) (f : CanState → CanState) : (m.setCan n f).sec = m.sec := rfl
@[simp] theorem setCan_lanes (m : Mod) (n : Nat) (f : CanState → CanState) : (m.setCan n f).lanes = m.lanes := rfl
@[simp] theorem setCan_scl (m : Mod) (n : Nat) (f : CanState → CanState) : (m.setCan n f).scl = m.scl := rfl
@[simp] theorem setCan_task (m : Mod) (n : Nat) (f : CanState → CanState) : (m.setCan n f).task = m.task := rfl
@[simp] theorem setCan_lgr (m : Mod) (n : Nat) (f : CanState → CanState) : (m.setCan n f).lgr = m.lgr := rfl
@[simp] theorem setCan_chg (m : Mod) (n : Nat) (f : CanState → CanState) : (m.setCan n f).chg = m.chg := rfl
@[simp] theorem setCan_cyc (m : Mod) (n : Nat) (f : CanState → CanState) : (m.setCan n f).cyc = m.cyc := rfl
@[simp] theorem setCan_inaug (m : Mod) (n : Nat) (f : CanState → CanState) : (m.setCan n f).inaug = m.inaug := rfl
@[simp] theorem setCan_prt (m : Mod) (n : Nat) (f : CanState → CanState) : (m.setCan n f).prt = m.prt := rfl
@[simp] theorem setCan_twn (m : Mod) (n : Nat) (f : CanState → CanState) : (m.setCan n f).twn = m.twn := rfl
@[simp] theorem setCan_can (m : Mod) (n : Nat) (f : CanState → CanState) : (m.setCan n f).can = updAt m.can n f := rfl
@[simp] theorem setCan_gw (m : Mod) (n : Nat) (f : CanState → CanState) : (m.setCan n f).gw = m.gw := rfl
@[simp] theorem setCan_lbb (m : Mod) (n : Nat) (f : CanState → CanState) : (m.setCan n f).lbb = m.lbb := rfl
@[simp] theorem setCan_dio (m : Mod) (n : Nat) (f : CanState → CanState) : (m.setCan n f).dio = m.dio := rfl
@[simp] theorem setCan_crossings (m : Mod) (n : Nat) (f : CanState → CanState) : (m.setCan n f).crossings = m.crossings := rfl
@[simp] theorem setCan_upd (m : Mod) (n : Nat) (f : CanState → CanState) : (m.setCan n f).upd = m.upd := rfl
@[simp] theorem setCan_env (m : Mod) (n : Nat) (f : CanState → CanState) : (m.setCan n f).env = m.env := rfl
@[simp] theorem setCan_get (m : Mod) (n : Nat) (f : CanState → CanState) (g : Fld) (i j : Nat) : (m.setCan n f).get g i j = m.get g i j := rfl
@[simp] theorem setCan_rd8 (m : Mod) (n : Nat) (f : CanState → CanState) (x : Nat) : (m.setCan n f).rd8 x = m.rd8 x := rfl

/-! ### raise -/

@[simp] theorem raise_regs (m : Mod) (s k a : Nat) (l : List Nat) : (m.raise s k a l).regs = m.regs := rfl
@[simp] theorem raise_mem (m : Mod) (s k a : Nat) (l : List Nat) : (m.raise s k a l).mem = m.mem := rfl
@[simp] theorem raise_now (m : Mod) (s k a : Nat) (l : List Nat) : (m.raise s k a l).now = m.now := rfl
@[simp] theorem raise_modTime (m : Mod) (s k a : Nat) (l : List Nat) : (m.raise s k a l).modTime = m.modTime := rfl
@[simp] theorem raise_free (m : Mod) (s k a : Nat) (l : List Nat) : (m.raise s k a l).free = m.free := rfl
@[simp] theorem raise_out (m : Mod) (s k a : Nat) (l : List Nat) : (m.raise s k a l).out = m.out := rfl
@[simp] theorem raise_resp (m : Mod) (s k a : Nat) (l : List Nat) : (m.raise s k a l).resp = m.resp := rfl
@[simp] theorem raise_dbk (m : Mod) (s k a : Nat) (l : List Nat) : (m.raise s k a l).dbk = m.dbk := rfl
@[simp] theorem raise_tim (m : Mod) (s k a : Nat) (l : List Nat) : (m.raise s k a l).tim = m.tim := rfl
@[simp] theorem raise_cfg (m : Mod) (s k a : Nat) (l : List Nat) : (m.raise s k a l).cfg = m.cfg := rfl
@[simp] theorem raise_sec (m : Mod) (s k a : Nat) (l : List Nat) : (m.raise s k a l).sec = m.sec := rfl
@[simp] theorem raise_lanes (m : Mod) (s k a : Nat) (l : List Nat) : (m.raise s k a l).lanes = m.lanes := rfl
@[simp] theorem raise_scl (m : Mod) (s k a : Nat) (l : List Nat) : (m.raise s k a l).scl = m.scl := rfl
@[simp] theorem raise_task (m : Mod) (s k a : Nat) (l : List Nat) : (m.raise s k a l).task = m.task := rfl
@[simp] theorem raise_lgr (m : Mod) (s k a : Nat) (l : List Nat) : (m.raise s k a l).lgr = m.lgr := rfl
@[simp] theorem raise_chg (m : Mod) (s k a : Nat) (l : List Nat) : (m.raise s k a l).chg = m.chg := rfl
@[simp] theorem raise_cyc (m : Mod) (s k a : Nat) (l : List Nat) : (m.raise s k a l).cyc = m.cyc := rfl
@[simp] theorem raise_inaug (m : Mod) (s k a : Nat) (l : List Nat) : (m.raise s k a l).inaug = m.inaug := rfl
@[simp] theorem raise_prt (m : Mod) (s k a : Nat) (l : List Nat) : (m.raise s k a l).prt = m.prt := rfl
@[simp] theorem raise_twn (m : Mod) (s k a : Nat) (l : List Nat) : (m.raise s k a l).twn = m.twn := rfl
@[simp] theorem raise_can (m : Mod) (s k a : Nat) (l : List Nat) : (m.raise s k a l).can = m.can := rfl
@[simp] theorem raise_gw (m : Mod) (s k a : Nat) (l : List Nat) : (m.raise s k a l).gw = m.gw := rfl
@[simp] theorem raise_lbb (m : Mod) (s k a : Nat) (l : List Nat) : (m.raise s k a l).lbb = m.lbb := rfl
@[simp] theorem raise_dio (m : Mod) (s k a : Nat) (l : List Nat) : (m.raise s k a l).dio = m.dio := rfl
@[simp] theorem raise_crossings (m : Mod) (s k a : Nat) (l : List Nat) : (m.raise s k a l).crossings = m.crossings := rfl
@[simp] theorem raise_upd (m : Mod) (s k a : Nat) (l : List Nat) : (m.raise s k a l).upd = m.upd := rfl
@[simp] theorem raise_env (m : Mod) (s k a : Nat) (l : List Nat) : (m.raise s k a l).env = m.env := rfl
@[simp] theorem raise_get (m : Mod) (s k a : Nat) (l : List Nat) (g : Fld) (i j : Nat) : (m.raise s k a l).get g i j = m.get g i j := rfl
@[simp] theorem raise_rd8 (m : Mod) (s k a : Nat) (l : List Nat) (x : Nat) : (m.raise s k a l).rd8 x = m.rd8 x := rfl

/-! ### put -/

@[simp] theorem put_mem (m : Mod) (g : Fld) (v i j : Nat) : (m.put g v i j).mem = m.mem := by simp only [Mod.put]; split <;> rfl
@[simp] theorem put_now (m : Mod) (g : Fld) (v i j : Nat) : (m.put g v i j).now = m.now := by simp only [Mod.put]; split <;> rfl
@[simp] theorem put_modTime (m : Mod) (g : Fld) (v i j : Nat) : (m.put g v i j).modTime = m.modTime := by simp only [Mod.put]; split <;> rfl
@[simp] theorem put_free (m : Mod) (g : Fld) (v i j : Nat) : (m.put g v i j).free = m.free := by simp only [Mod.put]; split <;> rfl
@[simp] theorem put_out (m : Mod) (g : Fld) (v i j : Nat) : (m.put g v i j).out = m.out := by simp only [Mod.put]; split <;> rfl
@[simp] theorem put_resp (m : Mod) (g : Fld) (v i j : Nat) : (m.put g v i j).resp = m.resp := by simp only [Mod.put]; split <;> rfl
@[simp] theorem put_fc (m : Mod) (g : Fld) (v i j : Nat) : (m.put g v i j).fc = m.fc := by simp only [Mod.put]; split <;> rfl
@[simp] theorem put_dbk (m : Mod) (g : Fld) (v i j : Nat) : (m.put g v i j).dbk = m.dbk := by simp only [Mod.put]; split <;> rfl
@[simp] theorem put_tim (m : Mod) (g : Fld) (v i j : Nat) : (m.put g v i j).tim = m.tim := by simp only [Mod.put]; split <;> rfl
@[simp] theorem put_cfg (m : Mod) (g : Fld) (v i j : Nat) : (m.put g v i j).cfg = m.cfg := by simp only [Mod.put]; split <;> rfl
@[simp] theorem put_sec (m : Mod) (g : Fld) (v i j : Nat) : (m.put g v i j).sec = m.sec := by simp only [Mod.put]; split <;> rfl
@[simp] theorem put_lanes (m : Mod) (g : Fld) (v i j : Nat) : (m.put g v i j).lanes = m.lanes := by simp only [Mod.put]; split <;> rfl
@[simp] theorem put_scl (m : Mod) (g : Fld) (v i j : Nat) : (m.put g v i j).scl = m.scl := by simp only [Mod.put]; split <;> rfl
@[simp] theorem put_task (m : Mod) (g : Fld) (v i j : Nat) : (m.put g v i j).task = m.task := by simp only [Mod.put]; split <;> rfl
@[simp] theorem put_lgr (m : Mod) (g : Fld) (v i j : Nat) : (m.put g v i j).lgr = m.lgr := by simp only [Mod.put]; split <;> rfl
@[simp] theorem put_chg (m : Mod) (g : Fld) (v i j : Nat) : (m.put g v i j).chg = m.chg := by simp only [Mod.put]; split <;> rfl
@[simp] theorem put_cyc (m : Mod) (g : Fld) (v i j : Nat) : (m.put g v i j).cyc = m.cyc := by simp only [Mod.put]; split <;> rfl
@[simp] theorem put_inaug (m : Mod) (g : Fld) (v i j : Nat) : (m.put g v i j).inaug = m.inaug := by simp only [Mod.put]; split <;> rfl
@[simp] theorem put_prt (m : Mod) (g : Fld) (v i j : Nat) : (m.put g v i j).prt = m.prt := by simp only [Mod.put]; split <;> rfl
@[simp] theorem put_twn (m : Mod) (g : Fld) (v i j : Nat) : (m.put g v i j).twn = m.twn := by simp only [Mod.put]; split <;> rfl
@[simp] theorem put_can (m : Mod) (g : Fld) (v i j : Nat) : (m.put g v i j).can = m.can := by simp only [Mod.put]; split <;> rfl
@[simp] theorem put_gw (m : Mod) (g : Fld) (v i j : Nat) : (m.put g v i j).gw = m.gw := by simp only [Mod.put]; split <;> rfl
@[simp] theorem put_lbb (m : Mod) (g : Fld) (v i j : Nat) : (m.put g v i j).lbb = m.lbb := by simp only [Mod.put]; split <;> rfl
@[simp] theorem put_dio (m : Mod) (g : Fld) (v i j : Nat) : (m.put g v i j).dio = m.dio := by simp only [Mod.put]; split <;> rfl
@[simp] theorem put_crossings (m : Mod) (g : Fld) (v i j : Nat) : (m.put g v i j).crossings = m.crossings := by simp only [Mod.put]; split <;> rfl
@[simp] theorem put_upd (m : Mod) (g : Fld) (v i j : Nat) : (m.put g v i j).upd = m.upd := by simp only [Mod.put]; split <;> rfl
@[simp] theorem put_env (m : Mod) (g : Fld) (v i j : Nat) : (m.put g v i j).env = m.env := by simp only [Mod.put]; split <;> rfl

/-! ### wr8 -/

@[simp] theorem wr8_regs (m : Mod) (a : Nat) (b : Byte) : (m.wr8 a b).regs = m.regs := by simp only [Mod.wr8]; split <;> rfl
@[simp] theorem wr8_now (m : Mod) (a : Nat) (b : Byte) : (m.wr8 a b).now = m.now := by simp only [Mod.wr8]; split <;> rfl
@[simp] theorem wr8_modTime (m : Mod) (a : Nat) (b : Byte) : (m.wr8 a b).modTime = m.modTime := by simp only [Mod.wr8]; split <;> rfl
@[simp] theorem wr8_free (m : Mod) (a : Nat) (b : Byte) : (m.wr8 a b).free = m.free := by simp only [Mod.wr8]; split <;> rfl
@[simp] theorem wr8_out (m : Mod) (a : Nat) (b : Byte) : (m.wr8 a b).out = m.out := by simp only [Mod.wr8]; split <;> rfl
@[simp] theorem wr8_resp (m : Mod) (a : Nat) (b : Byte) : (m.wr8 a b).resp = m.resp := by simp only [Mod.wr8]; split <;> rfl
@[simp] theorem wr8_fc (m : Mod) (a : Nat) (b : Byte) : (m.wr8 a b).fc = m.fc := by simp only [Mod.wr8]; split <;> rfl
@[simp] theorem wr8_dbk (m : Mod) (a : Nat) (b : Byte) : (m.wr8 a b).dbk = m.dbk := by simp only [Mod.wr8]; split <;> rfl
@[simp] theorem wr8_tim (m : Mod) (a : Nat) (b : Byte) : (m.wr8 a b).tim = m.tim := by simp only [Mod.wr8]; split <;> rfl
@[simp] theorem wr8_cfg (m : Mod) (a : Nat) (b : Byte) : (m.wr8 a b).cfg = m.cfg := by simp only [Mod.wr8]; split <;> rfl
@[simp] theorem wr8_sec (m : Mod) (a : Nat) (b : Byte) : (m.wr8 a b).sec = m.sec := by simp only [Mod.wr8]; split <;> rfl
@[simp] theorem wr8_lanes (m : Mod) (a : Nat) (b : Byte) : (m.wr8 a b).lanes = m.lanes := by simp only [Mod.wr8]; split <;> rfl
@[simp] theorem wr8_scl (m : Mod) (a : Nat) (b : Byte) : (m.wr8 a b).scl = m.scl := by simp only [Mod.wr8]; split <;> rfl
@[simp] theorem wr8_task (m : Mod) (a : Nat) (b : Byte) : (m.wr8 a b).task = m.task := by simp only [Mod.wr8]; split <;> rfl
@[simp] theorem wr8_lgr (m : Mod) (a : Nat) (b : Byte) : (m.wr8 a b).lgr = m.lgr := by simp only [Mod.wr8]; split <;> rfl
@[simp] theorem wr8_chg (m : Mod) (a : Nat) (b : Byte) : (m.wr8 a b).chg = m.chg := by simp only [Mod.wr8]; split <;> rfl
@[simp] theorem wr8_cyc (m : Mod) (a : Nat) (b : Byte) : (m.wr8 a b).cyc = m.cyc := by simp only [Mod.wr8]; split <;> rfl
@[simp] theorem wr8_inaug (m : Mod) (a : Nat) (b : Byte) : (m.wr8 a b).inaug = m.inaug := by simp only [Mod.wr8]; split <;> rfl
@[simp] theorem wr8_prt (m : Mod) (a : Nat) (b : Byte) : (m.wr8 a b).prt = m.prt := by simp only [Mod.wr8]; split <;> rfl
@[simp] theorem wr8_twn (m : Mod) (a : Nat) (b : Byte) : (m.wr8 a b).twn = m.twn := by simp only [Mod.wr8]; split <;> rfl
@[simp] theorem wr8_can (m : Mod) (a : Nat) (b : Byte) : (m.wr8 a b).can = m.can := by simp only [Mod.wr8]; split <;> rfl
@[simp] theorem wr8_gw (m : Mod) (a : Nat) (b : Byte) : (m.wr8 a b).gw = m.gw := by simp only [Mod.wr8]; split <;> rfl
@[simp] theorem wr8_lbb (m : Mod) (a : Nat) (b : Byte) : (m.wr8 a b).lbb = m.lbb := by simp only [Mod.wr8]; split <;> rfl
@[simp] theorem wr8_dio (m : Mod) (a : Nat) (b : Byte) : (m.wr8 a b).dio = m.dio := by simp only [Mod.wr8]; split <;> rfl
@[simp] theorem wr8_crossings (m : Mod) (a : Nat) (b : Byte) : (m.wr8 a b).crossings = m.crossings := by simp only [Mod.wr8]; split <;> rfl
@[simp] theorem wr8_upd (m : Mod) (a : Nat) (b : Byte) : (m.wr8 a b).upd = m.upd := by simp only [Mod.wr8]; split <;> rfl
@[simp] theorem wr8_env (m : Mod) (a : Nat) (b : Byte) : (m.wr8 a b).env = m.env := by simp only [Mod.wr8]; split <;> rfl

/-! ### setTime -/

@[simp] theorem setTime_regs (m : Mod) (a b : Nat) : (m.setTime a b).regs = m.regs := by cases m; rfl
@[simp] theorem setTime_mem (m : Mod) (a b : Nat) : (m.setTime a b).mem = m.mem := by cases m; rfl
@[simp] theorem setTime_now (m : Mod) (a b : Nat) : (m.setTime a b).now = m.now := by cases m; rfl
@[simp] theorem setTime_free (m : Mod) (a b : Nat) : (m.setTime a b).free = m.free := by cases m; rfl
@[simp] theorem setTime_out (m : Mod) (a b : Nat) : (m.setTime a b).out = m.out := by cases m; rfl
@[simp] theorem setTime_resp (m : Mod) (a b : Nat) : (m.setTime a b).resp = m.resp := by cases m; rfl
@[simp] theorem setTime_fc (m : Mod) (a b : Nat) : (m.setTime a b).fc = m.fc := by cases m; rfl
@[simp] theorem setTime_dbk (m : Mod) (a b : Nat) : (m.setTime a b).dbk = m.dbk := by cases m; rfl
@[simp] theorem setTime_tim (m : Mod) (a b : Nat) : (m.setTime a b).tim = m.tim := by cases m; rfl
@[simp] theorem setTime_cfg (m : Mod) (a b : Nat) : (m.setTime a b).cfg = m.cfg := by cases m; rfl
@[simp] theorem setTime_sec (m : Mod) (a b : Nat) : (m.setTime a b).sec = m.sec := by cases m; rfl
@[simp] theorem setTime_lanes (m : Mod) (a b : Nat) : (m.setTime a b).lanes = m.lanes := by cases m; rfl
@[simp] theorem setTime_scl (m : Mod) (a b : Nat) : (m.setTime a b).scl = m.scl := by cases m; rfl
@[simp] theorem setTime_task (m : Mod) (a b : Nat) : (m.setTime a b).task = m.task := by cases m; rfl
@[simp] theorem setTime_lgr (m : Mod) (a b : Nat) : (m.setTime a b).lgr = m.lgr := by cases m; rfl
@[simp] theorem setTime_chg (m : Mod) (a b : Nat) : (m.setTime a b).chg = m.chg := by cases m; rfl
@[simp] theorem setTime_cyc (m : Mod) (a b : Nat) : (m.setTime a b).cyc = m.cyc := by cases m; rfl
@[simp] theorem setTime_inaug (m : Mod) (a b : Nat) : (m.setTime a b).inaug = m.inaug := by cases m; rfl
@[simp] theorem setTime_prt (m : Mod) (a b : Nat) : (m.setTime a b).prt = m.prt := by cases m; rfl
@[simp] theorem setTime_twn (m : Mod) (a b : Nat) : (m.setTime a b).twn = m.twn := by cases m; rfl
@[simp] theorem setTime_can (m : Mod) (a b : Nat) : (m.setTime a b).can = m.can := by cases m; rfl
@[simp] theorem setTime_gw (m : Mod) (a b : Nat) : (m.setTime a b).gw = m.gw := by cases m; rfl
@[simp] theorem setTime_lbb (m : Mod) (a b : Nat) : (m.setTime a b).lbb = m.lbb := by cases m; rfl
@[simp] theorem setTime_dio (m : Mod) (a b : Nat) : (m.setTime a b).dio = m.dio := by cases m; rfl
@[simp] theorem setTime_crossings (m : Mod) (a b : Nat) : (m.setTime a b).crossings = m.crossings := by cases m; rfl
@[simp] theorem setTime_upd (m : Mod) (a b : Nat) : (m.setTime a b).upd = m.upd := by cases m; rfl
@[simp] theorem setTime_env (m : Mod) (a b : Nat) : (m.setTime a b).env = m.env := by cases m; rfl
@[simp] theorem setTime_modTime (m : Mod) (a b : Nat) : (m.setTime a b).modTime = a * 10 ^ 18 + b * 10 ^ 9 := by cases m; rfl
@[simp] theorem put_rd8 (m : Mod) (g : Fld) (v i j a : Nat) : (m.put g v i j).rd8 a = m.rd8 a := by simp [Mod.rd8]
@[simp] theorem wr8_get (m : Mod) (a : Nat) (b : Byte) (g : Fld) (i j : Nat) : (m.wr8 a b).get g i j = m.get g i j := by simp [Mod.get]

end Sys2Proof.Laws
end

