-- ==== Sys2Proof/Laws/Fields.lean ====
section
/-!
SUPPORT. The sparse lists, the register field store and the memory: read after write, everything else unchanged, and the
canonical form of the memory kept by every operation that writes it.
-/

namespace Sys2Proof.Laws

open Sys2Proof.Machine

/-! ### Lists by key -/

@[simp] theorem alGet_alSet_same {α : Type} (l : List (Nat × α)) (k : Nat) (v : α) : alGet (alSet l k v) k = some v := by
  induction l with
  | nil => simp [alSet, alGet]
  | cons e r ih =>
    obtain ⟨j, w⟩ := e
    by_cases h1 : j < k
    · simp [alSet, alGet, h1, Nat.ne_of_lt h1, ih]
    · by_cases h2 : j = k <;> simp [alSet, alGet, h1, h2]

theorem alGet_alSet_ne {α : Type} (l : List (Nat × α)) (k q : Nat) (v : α) (h : q ≠ k) :
    alGet (alSet l k v) q = alGet l q := by
  induction l with
  | nil => simp [alSet, alGet, h.symm]
  | cons e r ih =>
    obtain ⟨j, w⟩ := e
    by_cases h1 : j < k
    · simp [alSet, alGet, h1, ih]
    · by_cases h2 : j = k
      · subst h2; simp [alSet, alGet, h.symm]
      · simp [alSet, alGet, h1, h2, h.symm]

@[simp] theorem alGet_alDel_same {α : Type} (l : List (Nat × α)) (k : Nat) : alGet (alDel l k) k = none := by
  induction l with
  | nil => rfl
  | cons e r ih =>
    obtain ⟨j, w⟩ := e
    by_cases h : j = k
    · simpa [alDel, h] using ih
    · simpa [alDel, alGet, h] using ih

theorem alGet_alDel_ne {α : Type} (l : List (Nat × α)) (k q : Nat) (h : q ≠ k) : alGet (alDel l k) q = alGet l q := by
  induction l with
  | nil => rfl
  | cons e r ih =>
    obtain ⟨j, w⟩ := e
    by_cases h1 : j = k
    · subst h1; simpa [alDel, alGet, h.symm] using ih
    · by_cases h2 : j = q
      · subst h2; simp [alDel, alGet, h]
      · simpa [alDel, alGet, h1, h2] using ih

/-! ### Register fields -/

/-- A field that has been written reads as the value's low bits. -/
theorem get_put_same (m : Mod) (f : Fld) (v i j : Nat) : (m.put f v i j).get f i j = v % 2 ^ f.width := by
  by_cases h : v % 2 ^ f.width = f.reset <;> simp [Mod.put, Mod.get, h]

/-- A field with another place keeps its value. -/
theorem get_put_key (m : Mod) (f g : Fld) (v i j a b : Nat) (h : g.key a b ≠ f.key i j) :
    (m.put f v i j).get g a b = m.get g a b := by
  by_cases h1 : v % 2 ^ f.width = f.reset <;> simp [Mod.put, Mod.get, h1, alGet_alDel_ne _ _ _ h, alGet_alSet_ne _ _ _ _ h]

/-- The same in the form `simp` uses: the value read is the one written if the places agree. -/
theorem get_put (m : Mod) (f g : Fld) (v i j a b : Nat) (hr : g.key a b = f.key i j → g.reset = f.reset) :
    (m.put f v i j).get g a b = if g.key a b = f.key i j then v % 2 ^ f.width else m.get g a b := by
  by_cases h : g.key a b = f.key i j
  · have := get_put_same m f v i j
    simp only [Mod.get] at this ⊢
    simp only [h, if_true, hr h]; exact this
  · simp [h, get_put_key _ _ _ _ _ _ _ _ h]

/-! ### Memory -/

theorem alSet_wf (l : List Host.Cell) (k : Nat) (v : Byte) (hl : Memory.wf l) (hv : v ≠ 0) : Memory.wf (alSet l k v) := by
  have key : ∀ (l : List Host.Cell) (e : Host.Cell), e ∈ alSet l k v → e = (k, v) ∨ e ∈ l := by
    intro l
    induction l with
    | nil => intro e; simp [alSet]
    | cons x r ih =>
      obtain ⟨j, w⟩ := x
      intro e
      simp only [alSet]
      split
      · intro h
        rcases List.mem_cons.1 h with h | h
        · exact Or.inr (h ▸ List.mem_cons_self)
        · exact (ih e h).imp id (List.mem_cons_of_mem _)
      · split
        · intro h
          rcases List.mem_cons.1 h with h | h
          · exact Or.inl h
          · exact Or.inr (List.mem_cons_of_mem _ h)
        · intro h
          exact (List.mem_cons.1 h)
  refine ⟨?_, ?_⟩
  · obtain ⟨hs, -⟩ := hl
    induction l with
    | nil => simp [alSet]
    | cons x r ih =>
      obtain ⟨j, w⟩ := x
      have hs' := List.pairwise_cons.1 hs
      simp only [alSet]
      split
      · rename_i h1
        refine List.pairwise_cons.2 ⟨?_, ih hs'.2⟩
        intro e he
        rcases key r e he with h | h
        · subst h; exact h1
        · exact hs'.1 e h
      · split
        · rename_i h1 h2
          subst h2
          exact List.pairwise_cons.2 ⟨hs'.1, hs'.2⟩
        · rename_i h1 h2
          have hk : k < j := by omega
          refine List.pairwise_cons.2 ⟨?_, hs⟩
          intro e he
          rcases List.mem_cons.1 he with h | h
          · subst h; exact hk
          · exact Nat.lt_trans hk (hs'.1 e h)
  · intro e he
    rcases key l e he with h | h
    · subst h; exact hv
    · exact hl.2 e h

theorem filter_wf (l : List Host.Cell) (p : Host.Cell → Bool) (hl : Memory.wf l) : Memory.wf (l.filter p) :=
  ⟨hl.1.sublist List.filter_sublist, fun e he => hl.2 e (List.mem_filter.1 he).1⟩

theorem alDel_wf (l : List Host.Cell) (k : Nat) (hl : Memory.wf l) : Memory.wf (alDel l k) := filter_wf _ _ hl

/-- One byte written keeps the canonical form. -/
theorem wr8_wf (m : Mod) (a : Nat) (b : Byte) (h : Memory.wf m.mem) : Memory.wf (m.wr8 a b).mem := by
  unfold Mod.wr8
  split
  · exact alDel_wf _ _ h
  · rename_i hb; exact alSet_wf _ _ _ h hb

/-- Bytes written keep the canonical form. -/
theorem wrBytes_wf (m : Mod) (a : Nat) (l : List Byte) (h : Memory.wf m.mem) : Memory.wf (m.wrBytes a l).mem := by
  induction l generalizing m a with
  | nil => exact h
  | cons b r ih => exact ih _ _ (wr8_wf _ _ _ h)

theorem wrLE_wf (m : Mod) (a n v : Nat) (h : Memory.wf m.mem) : Memory.wf (m.wrLE a n v).mem := wrBytes_wf _ _ _ h
theorem copy_wf (m : Mod) (d s n : Nat) (h : Memory.wf m.mem) : Memory.wf (m.copy d s n).mem := wrBytes_wf _ _ _ h
theorem clear_wf (m : Mod) (a n : Nat) (h : Memory.wf m.mem) : Memory.wf (m.clear a n).mem := filter_wf _ _ h

/-- A byte that has been written reads back. -/
theorem rd8_wr8_same (m : Mod) (a : Nat) (b : Byte) : (m.wr8 a b).rd8 a = b := by
  unfold Mod.wr8
  split
  · rename_i h; simp [Mod.rd8, h]
  · simp [Mod.rd8]

/-- Every other byte keeps its value. -/
theorem rd8_wr8_ne (m : Mod) (a x : Nat) (b : Byte) (h : x ≠ a) : (m.wr8 a b).rd8 x = m.rd8 x := by
  unfold Mod.wr8
  split
  · simp [Mod.rd8, alGet_alDel_ne _ _ _ h]
  · simp [Mod.rd8, alGet_alSet_ne _ _ _ _ h]

/-- Bytes outside a written block keep their value. -/
theorem rd8_wrBytes_out (m : Mod) (a x : Nat) (l : List Byte) (h : x < a ∨ a + l.length ≤ x) :
    (m.wrBytes a l).rd8 x = m.rd8 x := by
  induction l generalizing m a with
  | nil => rfl
  | cons b r ih =>
    simp only [List.length_cons] at h
    have h1 : (m.wr8 a b).rd8 x = m.rd8 x := rd8_wr8_ne _ _ _ _ (by omega)
    exact (ih _ _ (by omega)).trans h1

/-- A written block reads back byte by byte. -/
theorem rd8_wrBytes_in (m : Mod) (a k : Nat) (l : List Byte) (h : k < l.length) :
    (m.wrBytes a l).rd8 (a + k) = l[k] := by
  induction l generalizing m a k with
  | nil => simp at h
  | cons b r ih =>
    cases k with
    | zero =>
      have := rd8_wrBytes_out (m.wr8 a b) (a + 1) a r (by omega)
      simpa [Mod.wrBytes, rd8_wr8_same] using this
    | succ k =>
      have := ih (m.wr8 a b) (a + 1) k (by simpa using h)
      rw [show a + (k + 1) = a + 1 + k by omega]
      simpa [Mod.wrBytes] using this

/-- What a block write leaves of the register fields. -/
@[simp] theorem wrBytes_get (m : Mod) (a : Nat) (l : List Byte) (g : Fld) (i j : Nat) :
    (m.wrBytes a l).get g i j = m.get g i j := by
  induction l generalizing m a with
  | nil => rfl
  | cons b r ih => exact (ih _ _).trans (wr8_get _ _ _ _ _ _)

/-! ### Little-endian numbers -/

/-- The bytes of a number give the number back, as far as they reach. -/
theorem leNat_leBytes (k n : Nat) : leNat (leBytes k n) = n % 256 ^ k := by
  induction k generalizing n with
  | zero => simp [leBytes, leNat, Nat.mod_one]
  | succ k ih =>
    have e : 256 ^ (k + 1) = 256 * 256 ^ k := by rw [pow_succ, Nat.mul_comm]
    rw [leBytes, leNat, ih, BitVec.toNat_ofNat, e, Nat.mod_mul]

/-- A number written to memory reads back. -/
theorem rdLE_wrLE (m : Mod) (a n v : Nat) : (m.wrLE a n v).rdLE a n = v % 256 ^ n := by
  have len : ∀ k w, (leBytes k w).length = k := by
    intro k; induction k with
    | zero => intro w; rfl
    | succ k ih => intro w; simp [leBytes, ih]
  have rd : ∀ (k : Nat) (x : Mod) (b : Nat) (l : List Byte), l.length = k →
      (∀ i (h : i < l.length), x.rd8 (b + i) = l[i]) → x.rdBytes b k = l := by
    intro k
    induction k with
    | zero => intro x b l hl _; simp [Mod.rdBytes, List.length_eq_zero_iff.1 hl]
    | succ k ih =>
      intro x b l hl h
      cases l with
      | nil => simp at hl
      | cons c r =>
        simp only [Mod.rdBytes]
        congr 1
        · have := h 0 (by simp); simp only [Nat.add_zero] at this; exact this
        · refine ih x (b + 1) r (by simpa using hl) (fun i hi => ?_)
          have := h (i + 1) (by simpa using hi)
          rw [show b + 1 + i = b + (i + 1) by omega]
          exact this
  rw [← leNat_leBytes]
  unfold Mod.rdLE Mod.wrLE
  rw [rd n _ a (leBytes n v) (len n v) (fun i h => rd8_wrBytes_in _ _ _ _ h)]

/-! ### Counters and peaks -/

/-- A counter saturates at the field's greatest value. -/
theorem get_count (m : Mod) (f : Fld) (n i j : Nat) :
    (m.count f n i j).get f i j = min (2 ^ f.width - 1) (m.get f i j + n) := by
  have h : 0 < 2 ^ f.width := Nat.two_pow_pos _
  rw [Mod.count, get_put_same, Nat.mod_eq_of_lt (by omega)]

@[simp] theorem count_mem (m : Mod) (f : Fld) (n i j : Nat) : (m.count f n i j).mem = m.mem := by simp [Mod.count]
@[simp] theorem peak_mem (m : Mod) (f : Fld) (n i j : Nat) : (m.peak f n i j).mem = m.mem := by simp [Mod.peak]

end Sys2Proof.Laws
end

