-- ==== Sys2Proof/Laws/Frames.lean ====
section
/-!
SUPPORT. Frames of the shared operations: which parts of the module each one leaves alone.
-/

namespace Sys2Proof.Laws

open Sys2Proof.Machine

/-! ### Folds -/

/-- What every step of a fold keeps, the fold keeps. -/
theorem foldl_keeps {α β : Type} (p : Mod → β) (f : Mod → α → Mod) (h : ∀ m a, p (f m a) = p m) (l : List α) (m : Mod) :
    p (l.foldl f m) = p m := by
  induction l generalizing m with
  | nil => rfl
  | cons a r ih => exact (ih _).trans (h m a)

/-- The same for a fold over pairs of the state and something else. -/
theorem foldl_inv {α σ : Type} (p : σ → Prop) (f : σ → α → σ) (h : ∀ s a, p s → p (f s a)) (l : List α) (s : σ) (hs : p s) :
    p (l.foldl f s) := by
  induction l generalizing s with
  | nil => exact hs
  | cons a r ih => exact ih _ (h s a hs)

/-- A register read depends on the field store alone. -/
theorem get_of_regs {m m' : Mod} (h : m'.regs = m.regs) (f : Fld) (i j : Nat) : m'.get f i j = m.get f i j := by
  simp [Mod.get, h]

theorem rd8_of_mem {m m' : Mod} (h : m'.mem = m.mem) (a : Nat) : m'.rd8 a = m.rd8 a := by simp [Mod.rd8, h]

/-! ### Block writes -/

@[simp] theorem wrBytes_regs (m : Mod) (a : Nat) (l : List Byte) : (m.wrBytes a l).regs = m.regs := by
  induction l generalizing m a with
  | nil => rfl
  | cons b r ih => exact (ih _ _).trans (wr8_regs _ _ _)
@[simp] theorem wrBytes_fc (m : Mod) (a : Nat) (l : List Byte) : (m.wrBytes a l).fc = m.fc := by
  induction l generalizing m a with
  | nil => rfl
  | cons b r ih => exact (ih _ _).trans (wr8_fc _ _ _)
@[simp] theorem wrBytes_lgr (m : Mod) (a : Nat) (l : List Byte) : (m.wrBytes a l).lgr = m.lgr := by
  induction l generalizing m a with
  | nil => rfl
  | cons b r ih => exact (ih _ _).trans (wr8_lgr _ _ _)
@[simp] theorem wrBytes_task (m : Mod) (a : Nat) (l : List Byte) : (m.wrBytes a l).task = m.task := by
  induction l generalizing m a with
  | nil => rfl
  | cons b r ih => exact (ih _ _).trans (wr8_task _ _ _)
@[simp] theorem wrLE_regs (m : Mod) (a n v : Nat) : (m.wrLE a n v).regs = m.regs := wrBytes_regs _ _ _
@[simp] theorem copy_regs (m : Mod) (d s n : Nat) : (m.copy d s n).regs = m.regs := wrBytes_regs _ _ _

/-! ### Register fields and what only other fields change -/

/-- A counter changes its own field only. -/
theorem get_count_key (m : Mod) (f g : Fld) (n i j a b : Nat) (h : g.key a b ≠ f.key i j) :
    (m.count f n i j).get g a b = m.get g a b := get_put_key _ _ _ _ _ _ _ _ h

theorem get_peak_key (m : Mod) (f g : Fld) (n i j a b : Nat) (h : g.key a b ≠ f.key i j) :
    (m.peak f n i j).get g a b = m.get g a b := get_put_key _ _ _ _ _ _ _ _ h

/-- A peak holds the larger of the old and the new value, up to the field's greatest. -/
theorem get_peak (m : Mod) (f : Fld) (v i j : Nat) (h : m.get f i j < 2 ^ f.width) :
    (m.peak f v i j).get f i j = max (m.get f i j) (min (2 ^ f.width - 1) v) := by
  have h' : 0 < 2 ^ f.width := Nat.two_pow_pos _
  rw [Mod.peak, get_put_same, Nat.mod_eq_of_lt]
  omega

/-! ### Events -/

/-- Places of the register fields that the admission of an event may change (R505, R506). -/
def dbkKeys : List Nat :=
  [Reg.DBK_STATUS_PEAK.key 0 0, Reg.DBK_SUPPRESSED_TOTAL.key 0 0, Reg.DBK_OVERFLOWS_TOTAL.key 0 0]

/-- An event changes the Daybook's counters and no other register field. -/
theorem offer_get (m : Mod) (e : Event) (g : Fld) (a b : Nat) (h : g.key a b ∉ dbkKeys) :
    (m.offer e).get g a b = m.get g a b := by
  simp only [dbkKeys, List.mem_cons, List.not_mem_nil, or_false, not_or] at h
  obtain ⟨h1, h2, h3⟩ := h
  unfold Mod.offer
  dsimp only
  split
  · rw [get_count_key _ _ _ _ _ _ _ _ h2]; rfl
  · split
    · rw [get_peak_key _ _ _ _ _ _ _ _ h1]; rfl
    · split
      · rw [get_count_key _ _ _ _ _ _ _ _ h3]; rfl
      · rw [raise_get, get_count_key _ _ _ _ _ _ _ _ h3]; rfl

theorem event_get (m : Mod) (c v : Nat) (l : List Nat) (g : Fld) (a b : Nat) (h : g.key a b ∉ dbkKeys) :
    (m.event c v l).get g a b = m.get g a b := offer_get _ _ _ _ _ h

/-- An event touches the Daybook's intake, its counters and, at an overflow, the report lines. -/
theorem offer_keeps {β : Type} (p : Mod → β) (hp : ∀ m f v i j, p (Mod.put m f v i j) = p m)
    (hd : ∀ (m : Mod) d, p { m with dbk := d } = p m) (hr : ∀ m s k a l, p (Mod.raise m s k a l) = p m) (m : Mod) (e : Event) :
    p (m.offer e) = p m := by
  unfold Mod.offer
  dsimp only
  split
  · simp only [Mod.count, hp, Mod.setBucket, hd]
  · split
    · simp only [Mod.peak, hp, Mod.setBucket, hd]
    · split
      · simp only [Mod.count, hp, Mod.setBucket, hd]
      · simp only [hr, Mod.count, hp, Mod.setBucket, hd]

@[simp] theorem event_mem (m : Mod) (c v : Nat) (l : List Nat) : (m.event c v l).mem = m.mem :=
  offer_keeps (fun m => m.mem) (by simp) (fun _ _ => rfl) (fun _ _ _ _ _ => rfl) _ _
@[simp] theorem event_now (m : Mod) (c v : Nat) (l : List Nat) : (m.event c v l).now = m.now :=
  offer_keeps (fun m => m.now) (by simp) (fun _ _ => rfl) (fun _ _ _ _ _ => rfl) _ _
@[simp] theorem event_resp (m : Mod) (c v : Nat) (l : List Nat) : (m.event c v l).resp = m.resp :=
  offer_keeps (fun m => m.resp) (by simp) (fun _ _ => rfl) (fun _ _ _ _ _ => rfl) _ _
@[simp] theorem event_out (m : Mod) (c v : Nat) (l : List Nat) : (m.event c v l).out = m.out :=
  offer_keeps (fun m => m.out) (by simp) (fun _ _ => rfl) (fun _ _ _ _ _ => rfl) _ _
@[simp] theorem event_lgr (m : Mod) (c v : Nat) (l : List Nat) : (m.event c v l).lgr = m.lgr :=
  offer_keeps (fun m => m.lgr) (by simp) (fun _ _ => rfl) (fun _ _ _ _ _ => rfl) _ _
@[simp] theorem event_task (m : Mod) (c v : Nat) (l : List Nat) : (m.event c v l).task = m.task :=
  offer_keeps (fun m => m.task) (by simp) (fun _ _ => rfl) (fun _ _ _ _ _ => rfl) _ _
@[simp] theorem event_cfg (m : Mod) (c v : Nat) (l : List Nat) : (m.event c v l).cfg = m.cfg :=
  offer_keeps (fun m => m.cfg) (by simp) (fun _ _ => rfl) (fun _ _ _ _ _ => rfl) _ _
@[simp] theorem event_sec (m : Mod) (c v : Nat) (l : List Nat) : (m.event c v l).sec = m.sec :=
  offer_keeps (fun m => m.sec) (by simp) (fun _ _ => rfl) (fun _ _ _ _ _ => rfl) _ _
@[simp] theorem event_chg (m : Mod) (c v : Nat) (l : List Nat) : (m.event c v l).chg = m.chg :=
  offer_keeps (fun m => m.chg) (by simp) (fun _ _ => rfl) (fun _ _ _ _ _ => rfl) _ _
@[simp] theorem event_upd (m : Mod) (c v : Nat) (l : List Nat) : (m.event c v l).upd = m.upd :=
  offer_keeps (fun m => m.upd) (by simp) (fun _ _ => rfl) (fun _ _ _ _ _ => rfl) _ _
@[simp] theorem event_cyc (m : Mod) (c v : Nat) (l : List Nat) : (m.event c v l).cyc = m.cyc :=
  offer_keeps (fun m => m.cyc) (by simp) (fun _ _ => rfl) (fun _ _ _ _ _ => rfl) _ _
@[simp] theorem event_twn (m : Mod) (c v : Nat) (l : List Nat) : (m.event c v l).twn = m.twn :=
  offer_keeps (fun m => m.twn) (by simp) (fun _ _ => rfl) (fun _ _ _ _ _ => rfl) _ _
@[simp] theorem event_lanes (m : Mod) (c v : Nat) (l : List Nat) : (m.event c v l).lanes = m.lanes :=
  offer_keeps (fun m => m.lanes) (by simp) (fun _ _ => rfl) (fun _ _ _ _ _ => rfl) _ _

end Sys2Proof.Laws
end

