-- ==== Sys2Proof/Laws/Only.lean ====
section
/-!
SUPPORT. Register blocks that an operation may change: `Only bs m m'` says that every field outside the blocks `bs` of R563
keeps its value. One lemma per shared operation.
-/

namespace Sys2Proof.Laws

open Sys2Proof.Machine

/-- Block of a place in the field store. -/
def keyBlock (k : Nat) : Nat := k / 2097152

/-- Fields outside the blocks `bs` keep their values. -/
def Only (bs : List Nat) (m m' : Mod) : Prop := ∀ (g : Fld) (a b : Nat), keyBlock (g.key a b) ∉ bs → m'.get g a b = m.get g a b

theorem Only.refl (bs : List Nat) (m : Mod) : Only bs m m := fun _ _ _ _ => rfl

theorem Only.trans {bs : List Nat} {a b c : Mod} (h : Only bs a b) (h' : Only bs b c) : Only bs a c :=
  fun _ _ _ hk => (h' _ _ _ hk).trans (h _ _ _ hk)

theorem Only.mono {bs cs : List Nat} {m m' : Mod} (h : Only bs m m') (hs : ∀ x ∈ bs, x ∈ cs) : Only cs m m' :=
  fun _ _ _ hk => h _ _ _ (fun hb => hk (hs _ hb))

/-- An operation that leaves the field store alone. -/
theorem Only.of_regs {bs : List Nat} {m m' : Mod} (h : m'.regs = m.regs) : Only bs m m' :=
  fun _ _ _ _ => get_of_regs h _ _ _

theorem Only.put {bs : List Nat} {m m' : Mod} (h : Only bs m m') (f : Fld) (v i j : Nat) (hf : keyBlock (f.key i j) ∈ bs) :
    Only bs m (m'.put f v i j) :=
  h.trans (fun _ _ _ hk => get_put_key _ _ _ _ _ _ _ _ (fun e => hk (e ▸ hf)))

theorem Only.count {bs : List Nat} {m m' : Mod} (h : Only bs m m') (f : Fld) (n i j : Nat) (hf : keyBlock (f.key i j) ∈ bs) :
    Only bs m (m'.count f n i j) := h.put f _ i j hf

theorem Only.peak {bs : List Nat} {m m' : Mod} (h : Only bs m m') (f : Fld) (n i j : Nat) (hf : keyBlock (f.key i j) ∈ bs) :
    Only bs m (m'.peak f n i j) := h.put f _ i j hf

theorem Only.raise {bs : List Nat} {m m' : Mod} (h : Only bs m m') (s k a : Nat) (l : List Nat) : Only bs m (m'.raise s k a l) :=
  h.trans (.of_regs rfl)

theorem Only.emit {bs : List Nat} {m m' : Mod} (h : Only bs m m') (o : Out) : Only bs m (m'.emit o) := h.trans (.of_regs rfl)

theorem Only.wr8 {bs : List Nat} {m m' : Mod} (h : Only bs m m') (a : Nat) (b : Byte) : Only bs m (m'.wr8 a b) :=
  h.trans (.of_regs (wr8_regs _ _ _))

/-- An event: only counters of the Daybook block. -/
theorem Only.event {bs : List Nat} {m m' : Mod} (h : Only bs m m') (c v : Nat) (l : List Nat) (hb : 14 ∈ bs) :
    Only bs m (m'.event c v l) := by
  refine h.trans (fun g a b hk => event_get _ _ _ _ _ _ _ (fun hd => hk ?_))
  have : keyBlock (g.key a b) = 14 := by
    simp only [dbkKeys, List.mem_cons, List.not_mem_nil, or_false] at hd
    rcases hd with e | e | e <;> rw [e] <;> decide
  rw [this]; exact hb

/-- A fold whose steps keep to the blocks. -/
theorem Only.foldl {α : Type} {bs : List Nat} {m m' : Mod} (h : Only bs m m') (f : Mod → α → Mod) (l : List α)
    (hf : ∀ (x : Mod) (a : α), a ∈ l → Only bs x (f x a)) : Only bs m (l.foldl f m') := by
  induction l generalizing m' with
  | nil => exact h
  | cons a r ih =>
    exact ih (h.trans (hf _ _ List.mem_cons_self)) (fun x b hb => hf x b (List.mem_cons_of_mem _ hb))

theorem Only.ite {bs : List Nat} {m a b : Mod} {p : Prop} [Decidable p] (ha : Only bs m a) (hb : Only bs m b) :
    Only bs m (if p then a else b) := by split <;> assumption

/-! ### DIO (block 12) -/

theorem dioChan_block (f : Fld) (c : Nat) (hc : c < 32) (h : f.s1 * 32 + f.off < 13 * 65536) (h' : 12 * 65536 ≤ f.off) (hl : f.lo < 32)
    (hs : f.s2 = 0) : keyBlock (f.key c 0) ∈ [12] := by
  have : f.s1 * c ≤ f.s1 * 32 := Nat.mul_le_mul_left _ (by omega)
  simp only [keyBlock, Fld.key, hs, List.mem_singleton]
  omega

theorem dioSafeBegin_only (m : Mod) (c : Nat) (hc : c < 32) : Only [12] m (m.dioSafeBegin c) := by
  unfold Mod.dioSafeBegin
  refine .ite ?_ (.refl _ _)
  refine .ite (.put (.put (.of_regs rfl) _ _ _ _ ?_) _ _ _ _ ?_) (.put (.of_regs rfl) _ _ _ _ ?_) <;>
    exact dioChan_block _ _ hc (by decide) (by decide) (by decide) rfl

theorem dioSwitch_only (m : Mod) (c : Nat) (hc : c < 32) : Only [12] m (m.dioSwitch c) := by
  unfold Mod.dioSwitch
  refine .ite (.put (.put (.put (.refl _ _) _ _ _ _ ?_) _ _ _ _ ?_) _ _ _ _ ?_) (.refl _ _) <;>
    exact dioChan_block _ _ hc (by decide) (by decide) (by decide) rfl

theorem dioRefresh_only (m : Mod) : Only [12] m m.dioRefresh := by
  unfold Mod.dioRefresh
  refine .put (.foldl (.foldl (.refl _ _) _ _ ?_) _ _ ?_) _ _ _ _ (by decide)
  · exact fun x c hc => dioSafeBegin_only x c (List.mem_range.1 hc)
  · exact fun x c hc => dioSwitch_only x c (List.mem_range.1 hc)

/-! ### LBB (block 11) -/

theorem discardWords_only (m : Mod) (w : Nat) (hw : w < 16) : Only [11] m (m.discardWords w) := by
  unfold Mod.discardWords
  refine .ite (.of_regs rfl) (.count (.of_regs rfl) _ _ _ _ ?_)
  simp only [keyBlock, Fld.key, Reg.LBB_PREFETCH_DISCARDw_WORDS, List.mem_singleton]; omega

theorem busGrant_only (m : Mod) : Only [11] m m.busGrant := by
  unfold Mod.busGrant
  refine .ite (.foldl (.emit (.of_regs (setLbb_regs _ _)) _) _ _ ?_) (.ite (.emit (.of_regs (setLbb_regs _ _)) _) (.refl _ _))
  exact fun x w hw => discardWords_only x w (List.mem_range.1 hw)

theorem lbbRefresh_only (m : Mod) : Only [11] m m.lbbRefresh := by
  unfold Mod.lbbRefresh
  exact .put (.put (busGrant_only m) _ _ _ _ (by decide)) _ _ _ _ (by decide)

theorem window_lt (m : Mod) (a n w : Nat) (h : m.window a n = some w) : w < 16 :=
  List.mem_range.1 (List.mem_of_find?_eq_some h)

theorem safeWrite_only (m : Mod) (a v : Nat) : Only [11] m (m.safeWrite a v) := by
  unfold Mod.safeWrite
  split
  · exact .emit (discardWords_only _ _ (window_lt _ _ _ _ ‹_›)) _
  · exact .emit (.refl _ _) _

/-- The safe table changes no register but the counts of discarded words. -/
theorem lbbSafeWrites_only (m : Mod) : Only [11] m m.lbbSafeWrites := by
  unfold Mod.lbbSafeWrites
  exact .ite (.refl _ _) (.ite (.foldl (.refl _ _) _ _ (fun x e _ => safeWrite_only x e.1 e.2)) (.of_regs (setLbb_regs _ _)))

/-! ### CAN (block 9) -/

theorem can_block (f : Fld) (n : Nat) (hn : n < 8) (h : f.s1 = 0x1000) (h' : f.off < 0x91000) (h2 : 0x90000 ≤ f.off) (hl : f.lo < 32)
    (hs : f.s2 = 0) : keyBlock (f.key n 0) ∈ [9] := by
  simp only [keyBlock, Fld.key, hs, h, List.mem_singleton]
  omega

theorem mbSafe_only (m : Mod) (n k : Nat) (hn : n < 8) : Only [9] m (m.mbSafe n k) := by
  unfold Mod.mbSafe
  refine .ite (.count (.wr8 (.refl _ _) _ _) _ _ _ _ ?_) (.refl _ _)
  exact can_block _ _ hn rfl (by decide) (by decide) (by decide) rfl

theorem canSafe_only (m : Mod) (p : Nat → Nat → Bool) : Only [9] m (m.canSafe p) := by
  unfold Mod.canSafe
  refine .foldl (.refl _ _) _ _ (fun x n hn => .foldl (.refl _ _) _ _ (fun y k _ => ?_))
  exact .ite (mbSafe_only y n k (List.mem_range.1 hn)) (.refl _ _)

/-! ### Unit state -/

theorem onUnitState_only (m : Mod) : Only [9, 11, 12] m m.onUnitState := by
  unfold Mod.onUnitState
  refine Only.trans (Only.trans ?_ ((dioRefresh_only _).mono (by decide))) ((lbbRefresh_only _).mono (by decide))
  refine .ite (.trans ?_ ((canSafe_only _ _).mono (by decide))) ?_ <;>
    exact .ite ((lbbSafeWrites_only m).mono (by decide)) (.refl _ _)

@[simp] theorem loose_regs (m : Mod) (l : List Nat) : (m.loose l).regs = m.regs := rfl

/-- SAFE_LATCH is all that the check sets. -/
theorem checkLatch_get (m : Mod) (g : Fld) (a b : Nat) (h : g.key a b ≠ Reg.SYS_STATE_SAFE_LATCH.key 0 0) :
    m.checkLatch.get g a b = m.get g a b := by
  unfold Mod.checkLatch
  split
  · exact (get_of_regs (loose_regs _ _) _ _ _).trans (get_put_key _ _ _ _ _ _ _ _ h)
  · rfl

theorem noteLastState_regs (m : Mod) (n : Nat) : (m.noteLastState n).regs = m.regs := by
  unfold Mod.noteLastState; split <;> rfl

theorem bootSave_regs (m : Mod) : m.bootSave.regs = m.regs := by unfold Mod.bootSave; split <;> rfl

/-- A transition changes SYS_STATE.STATE and SAFE_LATCH and what follows a state change; every other block keeps its fields. -/
theorem setState_get (m : Mod) (n : Nat) (g : Fld) (a b : Nat) (h : keyBlock (g.key a b) ∉ [9, 11, 12, 14])
    (h1 : g.key a b ≠ Reg.SYS_STATE_STATE.key 0 0) (h2 : g.key a b ≠ Reg.SYS_STATE_SAFE_LATCH.key 0 0) :
    (m.setState n).get g a b = m.get g a b := by
  unfold Mod.setState
  split
  · rfl
  · rw [onUnitState_only _ _ _ _ (by simp at h ⊢; tauto), checkLatch_get _ _ _ _ h2,
      event_get _ _ _ _ _ _ _ (fun hd => by
        have : keyBlock (g.key a b) = 14 := by
          simp only [dbkKeys, List.mem_cons, List.not_mem_nil, or_false] at hd
          rcases hd with e | e | e <;> rw [e] <;> decide
        simp [this] at h), get_put_key _ _ _ _ _ _ _ _ h1, get_of_regs (noteLastState_regs _ _),
      get_of_regs (bootSave_regs m)]

/-- The state that the transition names is the state afterwards. -/
theorem setState_unit (m : Mod) (n : Nat) (hn : n < 8) : (m.setState n).unit = n := by
  unfold Mod.setState
  split
  · assumption
  · unfold Mod.unit
    rw [onUnitState_only _ _ _ _ (by decide), checkLatch_get _ _ _ _ (by decide),
      event_get _ _ _ _ _ _ _ (by decide), get_put_same, Nat.mod_eq_of_lt (by exact hn)]

end Sys2Proof.Laws
end

