-- ==== Sys2Proof/Laws/Building.lean ====
section
/-!
SUPPORT. How the frames of statements (`Frame`, `FrameIn`) are built, one shared operation at a time.
-/

namespace Sys2Proof

open Sys2Proof.Machine Sys2Proof.Laws

theorem ModPart.same_refl (m : Mod) (p : ModPart) : p.same m m := by cases p <;> first | rfl | exact fun _ => rfl

theorem ModPart.same_trans {a b c : Mod} {p : ModPart} (h : p.same a b) (h' : p.same b c) : p.same a c := by
  cases p <;> first | exact fun x => (h' x).trans (h x) | exact Eq.trans h' h

/-- Parts other than the registers keep after a field is put. -/
theorem ModPart.same_put (m : Mod) (f : Fld) (v i j : Nat) (p : ModPart) : p.same m (m.put f v i j) := by
  cases p <;> simp [ModPart.same, MemKept]

theorem frame_refl (ks : List Nat) (ps : List ModPart) (m : Mod) : Frame ks ps m m :=
  ⟨fun _ _ _ _ => rfl, fun p _ => ModPart.same_refl m p⟩

theorem Frame.trans {ks : List Nat} {ps : List ModPart} {a b c : Mod} (h : Frame ks ps a b) (h' : Frame ks ps b c) : Frame ks ps a c :=
  ⟨fun f i j hk => (h'.1 f i j hk).trans (h.1 f i j hk), fun p hp => ModPart.same_trans (h.2 p hp) (h'.2 p hp)⟩

theorem Frame.mono {ks ls : List Nat} {ps qs : List ModPart} {a b : Mod} (h : Frame ks ps a b) (hk : ∀ k ∈ ks, k ∈ ls) (hp : ∀ p ∈ ps, p ∈ qs) :
    Frame ls qs a b := ⟨fun f i j h' => h.1 f i j (fun e => h' (hk _ e)), fun p h' => h.2 p (fun e => h' (hp _ e))⟩

/-- An update that leaves the registers alone and changes only parts that the frame leaves open. -/
theorem Frame.upd {ks : List Nat} {ps : List ModPart} {a b c : Mod} (h : Frame ks ps a b) (hr : c.regs = b.regs)
    (hp : ∀ p, p ∉ ps → p.same b c) : Frame ks ps a c :=
  h.trans ⟨fun f i j _ => get_of_regs hr f i j, hp⟩

theorem Frame.put {ks : List Nat} {ps : List ModPart} {a b : Mod} (h : Frame ks ps a b) (f : Fld) (v i j : Nat) (hk : f.key i j ∈ ks) :
    Frame ks ps a (b.put f v i j) :=
  h.trans ⟨fun _ _ _ hg => get_put_key _ _ _ _ _ _ _ _ (fun e => hg (e ▸ hk)), fun p _ => ModPart.same_put _ _ _ _ _ p⟩

theorem Frame.count {ks : List Nat} {ps : List ModPart} {a b : Mod} (h : Frame ks ps a b) (f : Fld) (n i j : Nat) (hk : f.key i j ∈ ks) :
    Frame ks ps a (b.count f n i j) := h.put f _ i j hk

theorem Frame.peak {ks : List Nat} {ps : List ModPart} {a b : Mod} (h : Frame ks ps a b) (f : Fld) (v i j : Nat) (hk : f.key i j ∈ ks) :
    Frame ks ps a (b.peak f v i j) := h.put f _ i j hk

/-- Only part `q` may differ. -/
theorem ModPart.same_but {m m' : Mod} (q : ModPart) (h : ∀ p, p ≠ q → p.same m m') (ps : List ModPart) (hq : q ∈ ps) : ∀ p, p ∉ ps → p.same m m' :=
  fun p hp => h p (fun e => hp (e ▸ hq))

theorem Frame.answer {ks : List Nat} {ps : List ModPart} {a b : Mod} (h : Frame ks ps a b) (r : Resp) (hq : ModPart.resp ∈ ps) :
    Frame ks ps a (b.answer r) :=
  h.upd rfl (ModPart.same_but .resp (fun p hp => by cases p <;> first | rfl | exact fun _ => rfl | exact absurd rfl hp) ps hq)

theorem Frame.emit {ks : List Nat} {ps : List ModPart} {a b : Mod} (h : Frame ks ps a b) (o : Out) (hq : ModPart.out ∈ ps) :
    Frame ks ps a (b.emit o) :=
  h.upd rfl (ModPart.same_but .out (fun p hp => by cases p <;> first | rfl | exact fun _ => rfl | exact absurd rfl hp) ps hq)

theorem Frame.raise {ks : List Nat} {ps : List ModPart} {a b : Mod} (h : Frame ks ps a b) (s k x : Nat) (l : List Nat) (hq : ModPart.fc ∈ ps) :
    Frame ks ps a (b.raise s k x l) :=
  h.upd rfl (ModPart.same_but .fc (fun p hp => by cases p <;> first | rfl | exact fun _ => rfl | exact absurd rfl hp) ps hq)

theorem Frame.freeNext {ks : List Nat} {ps : List ModPart} {a b : Mod} (h : Frame ks ps a b) (hq : ModPart.free ∈ ps) :
    Frame ks ps a b.freeNext :=
  h.upd rfl (ModPart.same_but .free (fun p hp => by cases p <;> first | rfl | exact fun _ => rfl | exact absurd rfl hp) ps hq)

theorem Frame.setFc {ks : List Nat} {ps : List ModPart} {a b : Mod} (h : Frame ks ps a b) (f : FcState → FcState) (hq : ModPart.fc ∈ ps) :
    Frame ks ps a (b.setFc f) :=
  h.upd rfl (ModPart.same_but .fc (fun p hp => by cases p <;> first | rfl | exact fun _ => rfl | exact absurd rfl hp) ps hq)
theorem Frame.setScl {ks : List Nat} {ps : List ModPart} {a b : Mod} (h : Frame ks ps a b) (f : SclState → SclState) (hq : ModPart.scl ∈ ps) :
    Frame ks ps a (b.setScl f) :=
  h.upd rfl (ModPart.same_but .scl (fun p hp => by cases p <;> first | rfl | exact fun _ => rfl | exact absurd rfl hp) ps hq)
theorem Frame.setTask {ks : List Nat} {ps : List ModPart} {a b : Mod} (h : Frame ks ps a b) (f : TaskState → TaskState) (hq : ModPart.task ∈ ps) :
    Frame ks ps a (b.setTask f) :=
  h.upd rfl (ModPart.same_but .task (fun p hp => by cases p <;> first | rfl | exact fun _ => rfl | exact absurd rfl hp) ps hq)
theorem Frame.setRels {ks : List Nat} {ps : List ModPart} {a b : Mod} (h : Frame ks ps a b) (f : List Release → List Release)
    (hq : ModPart.task ∈ ps) : Frame ks ps a (b.setRels f) :=
  h.upd rfl (ModPart.same_but .task (fun p hp => by cases p <;> first | rfl | exact fun _ => rfl | exact absurd rfl hp) ps hq)
theorem Frame.setLgr {ks : List Nat} {ps : List ModPart} {a b : Mod} (h : Frame ks ps a b) (f : LgrState → LgrState) (hq : ModPart.lgr ∈ ps) :
    Frame ks ps a (b.setLgr f) :=
  h.upd rfl (ModPart.same_but .lgr (fun p hp => by cases p <;> first | rfl | exact fun _ => rfl | exact absurd rfl hp) ps hq)
theorem Frame.setCyc {ks : List Nat} {ps : List ModPart} {a b : Mod} (h : Frame ks ps a b) (f : CycState → CycState) (hq : ModPart.cyc ∈ ps) :
    Frame ks ps a (b.setCyc f) :=
  h.upd rfl (ModPart.same_but .cyc (fun p hp => by cases p <;> first | rfl | exact fun _ => rfl | exact absurd rfl hp) ps hq)
theorem Frame.setTwn {ks : List Nat} {ps : List ModPart} {a b : Mod} (h : Frame ks ps a b) (f : TwnState → TwnState) (hq : ModPart.twn ∈ ps) :
    Frame ks ps a (b.setTwn f) :=
  h.upd rfl (ModPart.same_but .twn (fun p hp => by cases p <;> first | rfl | exact fun _ => rfl | exact absurd rfl hp) ps hq)
theorem Frame.setCfg {ks : List Nat} {ps : List ModPart} {a b : Mod} (h : Frame ks ps a b) (f : CfgState → CfgState) (hq : ModPart.cfg ∈ ps) :
    Frame ks ps a (b.setCfg f) :=
  h.upd rfl (ModPart.same_but .cfg (fun p hp => by cases p <;> first | rfl | exact fun _ => rfl | exact absurd rfl hp) ps hq)
theorem Frame.setGw {ks : List Nat} {ps : List ModPart} {a b : Mod} (h : Frame ks ps a b) (f : GwState → GwState) (hq : ModPart.gw ∈ ps) :
    Frame ks ps a (b.setGw f) :=
  h.upd rfl (ModPart.same_but .gw (fun p hp => by cases p <;> first | rfl | exact fun _ => rfl | exact absurd rfl hp) ps hq)
theorem Frame.setLbb {ks : List Nat} {ps : List ModPart} {a b : Mod} (h : Frame ks ps a b) (f : LbbState → LbbState) (hq : ModPart.lbb ∈ ps) :
    Frame ks ps a (b.setLbb f) :=
  h.upd rfl (ModPart.same_but .lbb (fun p hp => by cases p <;> first | rfl | exact fun _ => rfl | exact absurd rfl hp) ps hq)
theorem Frame.setDio {ks : List Nat} {ps : List ModPart} {a b : Mod} (h : Frame ks ps a b) (f : DioState → DioState) (hq : ModPart.dio ∈ ps) :
    Frame ks ps a (b.setDio f) :=
  h.upd rfl (ModPart.same_but .dio (fun p hp => by cases p <;> first | rfl | exact fun _ => rfl | exact absurd rfl hp) ps hq)
theorem Frame.setSec {ks : List Nat} {ps : List ModPart} {a b : Mod} (h : Frame ks ps a b) (f : SecState → SecState) (hq : ModPart.sec ∈ ps) :
    Frame ks ps a (b.setSec f) :=
  h.upd rfl (ModPart.same_but .sec (fun p hp => by cases p <;> first | rfl | exact fun _ => rfl | exact absurd rfl hp) ps hq)
theorem Frame.setUpd {ks : List Nat} {ps : List ModPart} {a b : Mod} (h : Frame ks ps a b) (f : UpdState → UpdState) (hq : ModPart.upd ∈ ps) :
    Frame ks ps a (b.setUpd f) :=
  h.upd rfl (ModPart.same_but .upd (fun p hp => by cases p <;> first | rfl | exact fun _ => rfl | exact absurd rfl hp) ps hq)
theorem Frame.setLane {ks : List Nat} {ps : List ModPart} {a b : Mod} (h : Frame ks ps a b) (n : Nat) (f : LaneState → LaneState)
    (hq : ModPart.lanes ∈ ps) : Frame ks ps a (b.setLane n f) :=
  h.upd rfl (ModPart.same_but .lanes (fun p hp => by cases p <;> first | rfl | exact fun _ => rfl | exact absurd rfl hp) ps hq)
theorem Frame.setCan {ks : List Nat} {ps : List ModPart} {a b : Mod} (h : Frame ks ps a b) (n : Nat) (f : CanState → CanState)
    (hq : ModPart.can ∈ ps) : Frame ks ps a (b.setCan n f) :=
  h.upd rfl (ModPart.same_but .can (fun p hp => by cases p <;> first | rfl | exact fun _ => rfl | exact absurd rfl hp) ps hq)
theorem Frame.setPrt {ks : List Nat} {ps : List ModPart} {a b : Mod} (h : Frame ks ps a b) (n : Nat) (f : PrtState → PrtState)
    (hq : ModPart.prt ∈ ps) : Frame ks ps a (b.setPrt n f) :=
  h.upd rfl (ModPart.same_but .prt (fun p hp => by cases p <;> first | rfl | exact fun _ => rfl | exact absurd rfl hp) ps hq)
theorem Frame.setDyn {ks : List Nat} {ps : List ModPart} {a b : Mod} (h : Frame ks ps a b) (d : TaskDyn) (hq : ModPart.task ∈ ps) :
    Frame ks ps a (b.setDyn d) :=
  h.upd rfl (ModPart.same_but .task (fun p hp => by cases p <;> first | rfl | exact fun _ => rfl | exact absurd rfl hp) ps hq)
theorem Frame.setBucket {ks : List Nat} {ps : List ModPart} {a b : Mod} (h : Frame ks ps a b) (d : Bucket) (hq : ModPart.dbk ∈ ps) :
    Frame ks ps a (b.setBucket d) :=
  h.upd rfl (ModPart.same_but .dbk (fun p hp => by cases p <;> first | rfl | exact fun _ => rfl | exact absurd rfl hp) ps hq)

theorem Frame.withDbk {ks : List Nat} {ps : List ModPart} {a b : Mod} (h : Frame ks ps a b) (d : DbkState) (hq : ModPart.dbk ∈ ps) :
    Frame ks ps a { b with dbk := d } :=
  h.upd rfl (ModPart.same_but .dbk (fun p hp => by cases p <;> first | rfl | exact fun _ => rfl | exact absurd rfl hp) ps hq)

theorem Frame.wr8 {ks : List Nat} {ps : List ModPart} {a b : Mod} (h : Frame ks ps a b) (x : Nat) (v : Byte) (hq : ModPart.mem ∈ ps) :
    Frame ks ps a (b.wr8 x v) :=
  h.upd (wr8_regs _ _ _) (ModPart.same_but .mem (fun p hp => by
    cases p <;> first | exact absurd rfl hp | (unfold Mod.wr8; split <;> rfl)) ps hq)
theorem Frame.wrBytes {ks : List Nat} {ps : List ModPart} {a b : Mod} (h : Frame ks ps a b) (x : Nat) (l : List Byte) (hq : ModPart.mem ∈ ps) :
    Frame ks ps a (b.wrBytes x l) := by
  induction l generalizing b x with
  | nil => exact h
  | cons v r ih => exact ih (h.wr8 x v hq) _

theorem Frame.foldl {α : Type} {ks : List Nat} {ps : List ModPart} {a b : Mod} (h : Frame ks ps a b) (f : Mod → α → Mod) (l : List α)
    (hf : ∀ (x : Mod) (y : α), y ∈ l → Frame ks ps x (f x y)) : Frame ks ps a (l.foldl f b) := by
  induction l generalizing b with
  | nil => exact h
  | cons y r ih => exact ih (h.trans (hf _ _ List.mem_cons_self)) (fun x z hz => hf x z (List.mem_cons_of_mem _ hz))

theorem Frame.ite {ks : List Nat} {ps : List ModPart} {m a b : Mod} {p : Prop} [Decidable p] (ha : Frame ks ps m a) (hb : Frame ks ps m b) :
    Frame ks ps m (if p then a else b) := by split <;> assumption

/-- An event: the Daybook's intake and its counters, and a report line at an overflow. -/
theorem Frame.event {ks : List Nat} {ps : List ModPart} {a b : Mod} (h : Frame ks ps a b) (c v : Nat) (l : List Nat)
    (hk : ∀ k ∈ dbkKeys, k ∈ ks) (hd : ModPart.dbk ∈ ps) (hf : ModPart.fc ∈ ps) : Frame ks ps a (b.event c v l) := by
  unfold Mod.event Mod.offer
  dsimp only
  have h1 := hk _ (show Reg.DBK_STATUS_PEAK.key 0 0 ∈ dbkKeys by simp [dbkKeys])
  have h2 := hk _ (show Reg.DBK_SUPPRESSED_TOTAL.key 0 0 ∈ dbkKeys by simp [dbkKeys])
  have h3 := hk _ (show Reg.DBK_OVERFLOWS_TOTAL.key 0 0 ∈ dbkKeys by simp [dbkKeys])
  split
  · exact (h.setBucket _ hd).count _ _ _ _ h2
  · split
    · refine Frame.peak ?_ _ _ _ _ h1
      exact (h.setBucket _ hd).withDbk _ hd
    · split
      · exact (h.setBucket _ hd).count _ _ _ _ h3
      · exact ((h.setBucket _ hd).count _ _ _ _ h3).raise _ _ _ _ hf

/-! ### Frames by blocks -/

theorem Frame.inBlocks {ks bs : List Nat} {ps : List ModPart} {a b : Mod} (h : Frame ks ps a b) (hb : ∀ k ∈ ks, k / 0x200000 ∈ bs) :
    FrameIn bs ps a b := ⟨fun f i j hk => h.1 f i j (fun e => hk (hb _ e)), h.2⟩

theorem frameIn_refl (bs : List Nat) (ps : List ModPart) (m : Mod) : FrameIn bs ps m m :=
  ⟨fun _ _ _ _ => rfl, fun p _ => ModPart.same_refl m p⟩

theorem FrameIn.trans {bs : List Nat} {ps : List ModPart} {a b c : Mod} (h : FrameIn bs ps a b) (h' : FrameIn bs ps b c) : FrameIn bs ps a c :=
  ⟨fun f i j hk => (h'.1 f i j hk).trans (h.1 f i j hk), fun p hp => ModPart.same_trans (h.2 p hp) (h'.2 p hp)⟩

theorem FrameIn.mono {bs cs : List Nat} {ps qs : List ModPart} {a b : Mod} (h : FrameIn bs ps a b) (hk : ∀ k ∈ bs, k ∈ cs)
    (hp : ∀ p ∈ ps, p ∈ qs) : FrameIn cs qs a b :=
  ⟨fun f i j h' => h.1 f i j (fun e => h' (hk _ e)), fun p h' => h.2 p (fun e => h' (hp _ e))⟩

theorem FrameIn.foldl {α : Type} {bs : List Nat} {ps : List ModPart} {a b : Mod} (h : FrameIn bs ps a b) (f : Mod → α → Mod) (l : List α)
    (hf : ∀ (x : Mod) (y : α), y ∈ l → FrameIn bs ps x (f x y)) : FrameIn bs ps a (l.foldl f b) := by
  induction l generalizing b with
  | nil => exact h
  | cons y r ih => exact ih (h.trans (hf _ _ List.mem_cons_self)) (fun x z hz => hf x z (List.mem_cons_of_mem _ hz))

/-- A report that has been raised is there. -/
theorem raised_raise (m : Mod) (s k a : Nat) (l : List Nat) : Raised m (m.raise s k a l) s k a := ⟨l, rfl⟩

end Sys2Proof
end

