-- ==== Sys2Proof/Laws/Writes.lean ====
section
/-!
SUPPORT. What a register write does: the whole path of a write that is accepted to a word without TX and RWL fields, and of
one that the initiator check turns away (R13, R625, R635).
-/

namespace Sys2Proof.Laws

open Sys2Proof.Machine

/-- The accepted write of a word whose fields all take effect at once. -/
theorem busWrite_now (m : Mod) (who : Initiator) (o v svc : Nat) (r : RegRow) (i j : Nat) (h4 : o % 4 = 0)
    (ha : m.absentReg o = false) (hf : findReg o = some (r, i, j)) (hw : m.mayWrite who o v = true)
    (hp : m.porterDown o = false) (hv : m.vetoed o v = false)
    (hs : r.flds.all (fun f => !(f.acc == .tx || f.acc == .rwl)) = true) :
    m.busWrite who o v svc = ((m.answer .ok).putNow o v).writeEffect m who svc o v := by
  have hnot : ∀ f ∈ r.flds, f.acc ≠ .tx ∧ f.acc ≠ .rwl := by
    intro f hf'
    have := List.all_eq_true.1 hs f hf'
    simpa using this
  have hr : m.wordRefused (m.insideTxn who) r v i j = (false, false) := by
    have he : r.flds.filter (m.fieldRefused (m.insideTxn who) v i j) = [] := by
      rw [List.filter_eq_nil_iff]
      intro f hf'
      obtain ⟨h1, h2⟩ := hnot f hf'
      simp [Mod.fieldRefused, h1, h2]
    simp [Mod.wordRefused, he]
  have hsh : m.wordShadowed r = false := by
    simp only [Mod.wordShadowed, List.any_eq_false]
    intro f hf'
    obtain ⟨h1, h2⟩ := hnot f hf'
    simp [h1, h2]
  simp [Mod.busWrite, h4, ha, hf, hw, hp, hv, Mod.writeJudged, hr, hsh]

/-- A write that the initiator check turns away: a bus error, and no register changes. -/
theorem busWrite_refused (m : Mod) (who : Initiator) (o v svc : Nat) (x : RegRow × Nat × Nat) (h4 : o % 4 = 0)
    (ha : m.absentReg o = false) (hf : findReg o = some x) (hw : m.mayWrite who o v = false) :
    m.busWrite who o v svc = m.writeRefused who o := by
  obtain ⟨r, i, j⟩ := x
  simp [Mod.busWrite, h4, ha, hf, hw]

/-- Outside the blocks of ports, controllers and test links no register is absent. -/
theorem absentReg_block (m : Mod) (o : Nat) (h7 : o / 0x10000 ≠ 7) (h9 : o / 0x10000 ≠ 9) (h13 : o / 0x10000 ≠ 0x13) :
    m.absentReg o = false := by
  simp [Mod.absentReg, h7, h9, h13]

/-- Only registers of a Porter can be out of reach with it. -/
theorem porterDown_block (m : Mod) (o : Nat) (h7 : o / 0x10000 ≠ 7) : m.porterDown o = false := by
  simp [Mod.porterDown, h7]

end Sys2Proof.Laws
end

