-- ==== Sys2Proof/Laws/Words.lean ====
section
/-!
SUPPORT. The register words that commands write: their rows of the register map, and the path of an accepted write.
-/

namespace Sys2Proof.Laws

open Sys2Proof.Machine

/-! ### Rows -/

theorem row_sysCmd : findReg 0x40c = some (⟨0x40c, 0x0, 1, 0x0, 1, [Reg.SYS_CMD_RESET, Reg.SYS_CMD_KEY]⟩, 0,
    0) := by decide +kernel
theorem row_sysTxnPeak : findReg 0x404 = some (⟨0x404, 0x0, 1, 0x0, 1, [Reg.SYS_TXN_PEAK_CLR, Reg.SYS_TXN_PEAK_POOL_MIN,
    Reg.SYS_TXN_PEAK_PAIR2, Reg.SYS_TXN_PEAK_PAIR1, Reg.SYS_TXN_PEAK_PAIR0]⟩, 0, 0) := by decide +kernel
theorem row_sysFabricErr : findReg 0x408 = some (⟨0x408, 0x0, 1, 0x0, 1, [Reg.SYS_FABRIC_ERR_DRAM_UE,
    Reg.SYS_FABRIC_ERR_DRAM_CE, Reg.SYS_FABRIC_ERR_SRAM_UE, Reg.SYS_FABRIC_ERR_SRAM_CE, Reg.SYS_FABRIC_ERR_DECODE_ERROR,
    Reg.SYS_FABRIC_ERR_CREDIT_ERROR, Reg.SYS_FABRIC_ERR_CROSSING_PARITY, Reg.SYS_FABRIC_ERR_TXN_TIMEOUT]⟩, 0,
    0) := by decide +kernel
theorem row_sysLed : findReg 0x40 = some (⟨0x40, 0x0, 1, 0x0, 1, [Reg.SYS_LED_LAMP_TEST, Reg.SYS_LED_IDENTIFY,
    Reg.SYS_LED_NETB, Reg.SYS_LED_NETA, Reg.SYS_LED_TWIN, Reg.SYS_LED_DEBUG, Reg.SYS_LED_FORCE, Reg.SYS_LED_FAULT,
    Reg.SYS_LED_RUN, Reg.SYS_LED_PWR]⟩, 0, 0) := by decide +kernel
theorem row_lgrCtl : findReg 0x50000 = some (⟨0x50000, 0x0, 1, 0x0, 1, [Reg.LGR_CTL_COLD_START, Reg.LGR_CTL_MIRROR_EN]⟩,
    0, 0) := by decide +kernel
theorem row_lgrMirrorLag : findReg 0x50014 = some (⟨0x50014, 0x0, 1, 0x0, 1, [Reg.LGR_MIRROR_LAG_CLR,
    Reg.LGR_MIRROR_LAG_PEAK, Reg.LGR_MIRROR_LAG_LAG]⟩, 0, 0) := by decide +kernel
theorem row_lgrCommitTime : findReg 0x50400 = some (⟨0x50400, 0x0, 1, 0x0, 1, [Reg.LGR_COMMIT_TIME_CLR,
    Reg.LGR_COMMIT_TIME_PEAK_US, Reg.LGR_COMMIT_TIME_LAST_US]⟩, 0, 0) := by decide +kernel
theorem row_lgrMigrateTime : findReg 0x50408 = some (⟨0x50408, 0x0, 1, 0x0, 1, [Reg.LGR_MIGRATE_TIME_CLR,
    Reg.LGR_MIGRATE_TIME_PEAK_US, Reg.LGR_MIGRATE_TIME_LAST_US]⟩, 0, 0) := by decide +kernel
theorem row_cycCtl : findReg 0x60000 = some (⟨0x60000, 0x0, 1, 0x0, 1, [Reg.CYC_CTL_RETURN, Reg.CYC_CTL_FORCE_FALLBACK,
    Reg.CYC_CTL_AUTO_RETURN, Reg.CYC_CTL_CH_B_EN, Reg.CYC_CTL_CH_A_EN]⟩, 0, 0) := by decide +kernel
theorem row_cycSchedSelect : findReg 0x6000c = some (⟨0x6000c, 0x0, 1, 0x0, 1, [Reg.CYC_SCHED_SELECT_PENDING,
    Reg.CYC_SCHED_SELECT_CASE]⟩, 0, 0) := by decide +kernel
theorem row_twnCtl : findReg 0x80000 = some (⟨0x80000, 0x0, 1, 0x0, 1, [Reg.TWN_CTL_HB_LIMIT, Reg.TWN_CTL_STALE_TAKEOVER,
    Reg.TWN_CTL_PRESTART, Reg.TWN_CTL_SWAP]⟩, 0, 0) := by decide +kernel
theorem row_fcCtl : findReg 0xd0000 = some (⟨0xd0000, 0x0, 1, 0x0, 1, [Reg.FC_CTL_RELEASE, Reg.FC_CTL_ACK]⟩, 0,
    0) := by decide +kernel
theorem row_fcIntakeLo : findReg 0xd0004 = some (⟨0xd0004, 0x0, 1, 0x0, 1, [Reg.FC_INTAKE_LO_MSG_LO]⟩, 0,
    0) := by decide +kernel
theorem row_fcIntakeHi : findReg 0xd0008 = some (⟨0xd0008, 0x0, 1, 0x0, 1, [Reg.FC_INTAKE_HI_MSG_HI]⟩, 0,
    0) := by decide +kernel
theorem row_dbkArchSeqHi : findReg 0xe0404 = some (⟨0xe0404, 0x0, 1, 0x0, 1, [Reg.DBK_ARCH_SEQ_HI_ARCH_HI]⟩, 0,
    0) := by decide +kernel
theorem row_timCtl : findReg 0x1000c = some (⟨0x1000c, 0x0, 1, 0x0, 1, [Reg.TIM_CTL_SOURCE, Reg.TIM_CTL_VALID,
    Reg.TIM_CTL_STEP]⟩, 0, 0) := by decide +kernel
theorem row_timStepSecLo : findReg 0x10014 = some (⟨0x10014, 0x0, 1, 0x0, 1, [Reg.TIM_STEP_SEC_LO_SEC_LO]⟩, 0,
    0) := by decide +kernel
theorem row_timRatePpb : findReg 0x10020 = some (⟨0x10020, 0x0, 1, 0x0, 1, [Reg.TIM_RATE_PPB_PPB]⟩, 0,
    0) := by decide +kernel
theorem row_timUtcOffset : findReg 0x10024 = some (⟨0x10024, 0x0, 1, 0x0, 1, [Reg.TIM_UTC_OFFSET_OFFSET]⟩, 0,
    0) := by decide +kernel
theorem row_cfgTxnBegin : findReg 0xf0000 = some (⟨0xf0000, 0x0, 1, 0x0, 1, [Reg.CFG_TXN_BEGIN_BEGIN]⟩, 0,
    0) := by decide +kernel
theorem row_cfgTxnCommit : findReg 0xf0004 = some (⟨0xf0004, 0x0, 1, 0x0, 1, [Reg.CFG_TXN_COMMIT_PERSIST,
    Reg.CFG_TXN_COMMIT_COMMIT]⟩, 0, 0) := by decide +kernel
theorem row_cfgTxnAbort : findReg 0xf0008 = some (⟨0xf0008, 0x0, 1, 0x0, 1, [Reg.CFG_TXN_ABORT_ABORT]⟩, 0,
    0) := by decide +kernel
theorem row_updCtl : findReg 0x100000 = some (⟨0x100000, 0x0, 1, 0x0, 1, [Reg.UPD_CTL_MODE, Reg.UPD_CTL_CANCEL,
    Reg.UPD_CTL_FALLBACK_NOW, Reg.UPD_CTL_CONFIRM, Reg.UPD_CTL_ACTIVATE]⟩, 0, 0) := by decide +kernel
theorem row_testCtl : findReg 0x130000 = some (⟨0x130000, 0x0, 1, 0x0, 1, [Reg.TEST_CTL_GO, Reg.TEST_CTL_STOP,
    Reg.TEST_CTL_LINK, Reg.TEST_CTL_POLY, Reg.TEST_CTL_LOOP]⟩, 0, 0) := by decide +kernel
theorem row_testLbb : findReg 0x130500 = some (⟨0x130500, 0x0, 1, 0x0, 1, [Reg.TEST_LBB_ERRORS, Reg.TEST_LBB_WINDOW,
    Reg.TEST_LBB_GO, Reg.TEST_LBB_RUNNING, Reg.TEST_LBB_PASS]⟩, 0, 0) := by decide +kernel
theorem row_laneCtl (p : Pair) : findReg (0x20004 + 0x1000 * p.val) = some (⟨0x20004, 0x1000, 3, 0x0, 1,
    [Reg.LANE_CTL_FORCE_MISMATCH, Reg.LANE_CTL_SCRUB_ENABLE, Reg.LANE_CTL_INJ_ENABLE]⟩, p.val, 0) := by
  revert p; decide +kernel
theorem row_laneMismatchInfo (p : Pair) : findReg (0x20400 + 0x1000 * p.val) = some (⟨0x20400, 0x1000, 3, 0x0, 1,
    [Reg.LANE_MISMATCH_INFO_VALID, Reg.LANE_MISMATCH_INFO_GROUP]⟩, p.val, 0) := by
  revert p; decide +kernel
theorem row_sclSkewPeak (p : Pair) : findReg (0x30420 + 4 * p.val) = some (⟨0x30420, 0x4, 3, 0x0, 1,
    [Reg.SCL_SKEW_PEAKn_CLR, Reg.SCL_SKEW_PEAKn_PEAK_US]⟩, p.val, 0) := by
  revert p; decide +kernel
theorem row_taskExecPeak (p : Pair) (t : Task) : findReg (0x4010C + 0x1000 * p.val + 0x10 * t.val) = some (⟨0x4010c,
    0x1000, 3, 0x10, 48, [Reg.TASK_Tn_EXEC_PEAK_CLR, Reg.TASK_Tn_EXEC_PEAK_PEAK_US]⟩, p.val, t.val) := by
  revert p t; decide +kernel
theorem row_canCtl (n : Ctrl) : findReg (0x90000 + 0x1000 * n.val) = some (⟨0x90000, 0x1000, 8, 0x0, 1,
    [Reg.CAN_CTL_FD_EN, Reg.CAN_CTL_TERM, Reg.CAN_CTL_RECOVER, Reg.CAN_CTL_AUTO_RECOVER, Reg.CAN_CTL_ENABLE,
    Reg.CAN_CTL_MODE]⟩, n.val, 0) := by
  revert n; decide +kernel
theorem row_canRxAck (n : Ctrl) : findReg (0x90404 + 0x1000 * n.val) = some (⟨0x90404, 0x1000, 8, 0x0, 1,
    [Reg.CAN_RX_ACK_ENTRY]⟩, n.val, 0) := by
  revert n; decide +kernel
theorem row_lbbPrefetchDiscard (w : Fin 16) : findReg (0xB0104 + 0x10 * w.val) = some (⟨0xb0104, 0x10, 16, 0x0, 1,
    [Reg.LBB_PREFETCH_DISCARDw_CLR, Reg.LBB_PREFETCH_DISCARDw_WORDS]⟩, w.val, 0) := by
  revert w; decide +kernel
theorem row_timTrigCtl (n : Fin 8) : findReg (0x10100 + 0x10 * n.val) = some (⟨0x10100, 0x10, 8, 0x0, 1,
    [Reg.TIM_TRIGn_CTL_SEC_HI, Reg.TIM_TRIGn_CTL_LATE, Reg.TIM_TRIGn_CTL_FIRED, Reg.TIM_TRIGn_CTL_BASE,
    Reg.TIM_TRIGn_CTL_ENABLE]⟩, n.val, 0) := by
  revert n; decide +kernel

/-! ### The path of a write -/

/-- Words whose own rule can answer a write with a bus error. -/
def vetoWord (o : Nat) : Bool :=
  o == 0x6000C || isInst o 0x20004 0x1000 3 || o == 0x50000 || isInst o 0x90404 0x1000 8 || o == 0x1000C || o == 0x10010 ||
    o == 0x10014 || o == 0x10018 || o == 0x10020 || o == 0x40C || o == 0x100000 || o == 0x130500

/-- No other word has such a rule. -/
theorem vetoed_free (m : Mod) (o v : Nat) (h : vetoWord o = false) : m.vetoed o v = false := by
  simp only [vetoWord, Bool.or_eq_false_iff] at h
  obtain ⟨⟨⟨⟨⟨⟨⟨⟨⟨⟨⟨h1, h2⟩, h3⟩, h4⟩, h5⟩, h6⟩, h7⟩, h8⟩, h9⟩, h10⟩, h11⟩, h12⟩ := h
  simp only [Mod.vetoed, Reg.SYS_CMD_RESET, Reg.LANE_CTL_FORCE_MISMATCH, Reg.CYC_SCHED_SELECT_CASE, Reg.LGR_CTL_COLD_START,
    Reg.CAN_RX_ACK_ENTRY, Reg.TIM_CTL_STEP, Reg.TIM_STEP_SEC_HI_SEC_HI, Reg.TIM_STEP_SEC_LO_SEC_LO, Reg.TIM_STEP_NS_NS,
    Reg.TIM_RATE_PPB_PPB, Reg.UPD_CTL_CONFIRM, Reg.TEST_LBB_GO, h1, h2, h3, h4, h5, h6, h7, h8, h9, h10, h11, h12]
  simp

/-- The accepted write, outside a transaction of the writer, of a word that gives its TX fields their values in force. -/
theorem busWrite_settled (m : Mod) (who : Initiator) (o v svc : Nat) (r : RegRow) (i j : Nat) (h4 : o % 4 = 0)
    (ha : m.absentReg o = false) (hf : findReg o = some (r, i, j)) (hw : m.mayWrite who o v = true)
    (hp : m.porterDown o = false) (hv : m.vetoed o v = false) (hs : Settled m who o v)
    (hr : r.flds.all (fun f => !(f.acc == .rwl)) = true) (hc : r.flds.any (fun f => f.acc == .tx) = true) :
    m.busWrite who o v svc = ((m.answer .ok).putNow o v).writeEffect m who svc o v := by
  obtain ⟨hin, ht⟩ := hs
  have hrw : ∀ f ∈ r.flds, f.acc ≠ .rwl := by
    intro f hf'
    have := List.all_eq_true.1 hr f hf'
    simpa using this
  have hb : m.wordRefused (m.insideTxn who) r v i j = (false, false) := by
    have he : r.flds.filter (m.fieldRefused (m.insideTxn who) v i j) = [] := by
      rw [List.filter_eq_nil_iff]
      intro f hf'
      by_cases h : f.acc = .tx
      · simp [Mod.fieldRefused, ht (r, i, j) (by simp [hf]) f hf' h]
      · simp [Mod.fieldRefused, h, hrw f hf']
    simp [Mod.wordRefused, he]
  have hsh : m.wordShadowed r = true := by
    simp only [Mod.wordShadowed, List.any_eq_true] at hc ⊢
    obtain ⟨f, hf', h⟩ := hc
    exact ⟨f, hf', by simp [h]⟩
  have hput : (m.putWord o v (fun a => a == .rwl && !m.cfg.locked)) = m := by
    simp only [Mod.putWord, hf]
    have : ∀ (l : List Fld) (x : Mod), (∀ f ∈ l, f.acc ≠ .rwl) →
        l.foldl (fun a f => if (f.acc == Access.rwl && !m.cfg.locked) = true then a.put f (bitsOf v f.lo f.width) i j else a) x = x := by
      intro l
      induction l with
      | nil => intro x _; rfl
      | cons f l ih =>
        intro x hx
        have h1 : (f.acc == Access.rwl) = false := by simpa using hx f List.mem_cons_self
        simp only [List.foldl_cons, h1, Bool.false_and]
        exact ih x (fun g hg => hx g (List.mem_cons_of_mem _ hg))
    exact this _ _ hrw
  rw [hin] at hb
  simp [Mod.busWrite, h4, ha, hf, hw, hp, hv, Mod.writeJudged, hb, hsh, hin, hput]

end Sys2Proof.Laws
end

