-- ==== Sys2Proof/WellFormed.lean ====
section
/-!
DEFINITION. Well-formed commands: every operand lies in the range that the field it stands for has in the manual. The
meanings are total and do not ask for it; statements and tests do.
-/

namespace Sys2Proof

/-- A value that fits a field of `w` bits. -/
def fits (w n : Nat) : Bool := decide (n < 2 ^ w)

/-- A signed value that fits a field of `w` bits. -/
def fitsSigned (w : Nat) (z : Int) : Bool := decide (-(2 ^ (w - 1) : Nat) ≤ z ∧ z < (2 ^ (w - 1) : Nat))

/-- The header layout of R236. -/
def FrameHdr.wf (h : FrameHdr) : Bool :=
  fits 8 h.version && fits 8 h.subtype && fits 16 h.src && fits 16 h.dst && fits 8 h.case_ && fits 1 h.channel &&
  fits 32 h.cycle && fits 16 h.bodyLen

/-- The record layout of R241. -/
def DsRecord.wf (r : DsRecord) : Bool :=
  fits 16 r.ds && fits 8 r.pstatus && fits 16 r.len && decide (r.payload.length = r.len) && fits 32 r.dchk

/-- The layout of R239. -/
def PollBody.wf (b : PollBody) : Bool :=
  fits 48 b.timeSec && fits 32 b.timeNs && fits 3 b.group && fits 2 b.twinRole && fits 2 b.fallback && fits 8 b.nextCase &&
  fits 8 b.nextKind && fits 32 b.nextCycle && fits 16 b.bcQ && fits 8 b.macro_ && decide (b.named.length ≤ 255) &&
  b.named.all (fun e => fits 10 e.1 && fitsSigned 16 e.2)

/-- The layout of R310. -/
def ReplyBody.wf (b : ReplyBody) : Bool :=
  fits 10 b.node && fits 32 b.linkDelay && fitsSigned 32 b.ratePpb && decide (b.idHash.length = 16)

/-- The layout of R313: 1 to 9 entries, identities that are never 0. -/
def InaugBody.wf (b : InaugBody) : Bool :=
  fits 32 b.consistId && b.consistId != 0 && fits 16 b.type && fits 1 b.from_ && fits 32 b.round && fits 8 b.stable &&
  decide (1 ≤ b.list.length ∧ b.list.length ≤ 9) && b.list.all (fun c => fits 32 c.id && fits 16 c.type && fits 8 c.orient)

/-- The layout of R341. -/
def ClaimBody.wf (b : ClaimBody) : Bool :=
  decide (1 ≤ b.unit ∧ b.unit ≤ 2) && fits 3 b.state && fits 32 b.cycleSeen && fits 64 b.commit

/-- The layout of R342. -/
def SurrenderBody.wf (b : SurrenderBody) : Bool :=
  decide (1 ≤ b.unit ∧ b.unit ≤ 2) && decide (b.reason ≤ 2) && fits 32 b.lastCycle && fits 64 b.commit

/-- The layout of R306. -/
def ColdstartBody.wf (b : ColdstartBody) : Bool :=
  fits 64 b.timeSec && fits 32 b.timeNs && fits 16 b.bcQ && fits 8 b.macro_ && fits 8 b.case_ && fits 32 b.firstPoll

/-- The layout of R338. -/
def Heartbeat.wf (b : Heartbeat) : Bool :=
  decide (1 ≤ b.unit ∧ b.unit ≤ 2) && fits 3 b.state && fits 3 b.role && fits 32 b.cycle && fits 64 b.commit

/-- The layout of R339: ports 0 to 23 in EXCLUDED, up to four fault messages. -/
def PorterStatusMsg.wf (m : PorterStatusMsg) : Bool :=
  fits 32 m.prtStatus && fits 24 m.excluded && fits 32 m.stagedId && decide (m.faults.length ≤ 4)

def FrameBody.wf : FrameBody → Bool
  | .poll b => b.wf
  | .data | .mgmt => true
  | .reply b => b.wf
  | .claim b => b.wf
  | .surrender b => b.wf
  | .coldstart b => b.wf
  | .inaug b => b.wf
  | .test _ => true

/-- Cycle numbers of 32 bits and composition cases 0 to 31 (R236, R299). -/
def PorterFrame.wf (f : PorterFrame) : Bool := fits 32 f.cycle && fits 16 f.src && fits 8 f.case_ && f.body.wf

/-- The bytes that a CAN data length code stands for (ISO 11898-1, R386). -/
def canBytes (fdf : Bool) (dlc : Nat) : Nat :=
  if dlc ≤ 8 then dlc else if fdf then [12, 16, 20, 24, 32, 48, 64].getD (dlc - 9) 64 else 8

/-- The layout of R371 and R386: an identifier of 11 or 29 bits, a data length code and its payload. -/
def CanFrame.wf (f : CanFrame) : Bool :=
  fits (if f.ide then 29 else 11) f.id && fits 4 f.dlc && fits 32 f.ts && !(f.fdf && f.rtr) &&
  decide (f.data.length = if f.rtr then 0 else canBytes f.fdf f.dlc)

/-- Granules of 256 bytes (R168, R190). -/
def MirrorCommit.wf (c : MirrorCommit) : Bool :=
  fits 64 c.commit && decide (c.layoutIds.length ≤ 3) && decide (c.programIds.length ≤ 3) &&
  c.layoutIds.all (fits 32) && c.programIds.all (fits 32) && fits 64 c.timeSec && fits 32 c.timeNs && fits 32 c.releases &&
  c.granules.all (fun g => decide (g.2.length = 256))

/-- The trigger record of R129 and R140. -/
def TrigData.wf (d : TrigData) : Bool := fits 8 d.src && fits 8 d.opt && fits 16 d.id && fits 32 d.param && fits 64 d.time

/-- Addresses in ascending order, none erased. -/
def TallyKey.wf (k : TallyKey) : Bool :=
  fits 64 k.serial && decide (k.flash.Pairwise (fun a b => a.1 < b.1)) && k.flash.all (fun c => c.2 != 0xFF)

/-- Every operand of the command lies in its range. Operands of a bit-vector or `Fin` type cannot leave theirs. -/
def Instr.wf : Instr → Bool
  | .bodyReturn _ _ us => fits 32 us
  | .eventTrigger _ _ d => d.wf
  | .mirrorReceive c => c.wf
  | .mirrorAck n _ => fits 64 n
  | .dataFrameReceived _ _ h rs _ => h.wf && rs.all DsRecord.wf
  | .masterPollReceived _ _ h b => h.wf && b.wf
  | .discoveryReply _ _ h b => h.wf && b.wf
  | .inauguration _ _ b d => b.wf && fits 32 d
  | .porterFrame _ _ f => f.wf
  | .cascadeLinkUp _ d => fits 32 d
  | .heartbeatReceived _ b => b.wf
  | .porterStatusReceived _ m => m.wf
  | .surrenderReceived _ b _ => b.wf
  | .canFrameSent _ _ _ c => fits 9 c.tec && fits 8 c.rec_
  | .canBusError _ c => fits 9 c.tec && fits 8 c.rec_
  | .canFrameReceived _ f c => f.wf && fits 9 c.tec && fits 8 c.rec_
  | .keyReturned k => k.wf
  | .supplyOn _ c _ => fits 8 c
  | _ => true

end Sys2Proof
end

