-- ==== Sys2Proof/Tests/Slice0.lean ====
section
/-!
SUPPORT. Tests: an ill-formed term for each check of WellFormed, for every obligation states and operands that meet its
hypotheses, and one step of a few commands against results written out from the spec.
-/

namespace Sys2Proof.Tests

open Sys2Proof Sys2Proof.Machine

set_option Elab.async false

/-! ### Small states -/

def st (f : Mod → Mod) : State := { State.reset with mod := f State.reset.mod }
def at' (u : Nat) (f : Mod → Mod) : State := st (fun m => f (m.put Reg.SYS_STATE_STATE u))
def rst (ph : RestartPhase) : Restart := ⟨ph, true, false, false, false, 0⟩
/-- The word of the register at `o` with every field at its value in force, and `v` more. -/
def word (m : Mod) (o v : Nat) : Word32 := BitVec.ofNat 32 (m.wordAt o (fun _ => true) + v)
def dCyc : TaskDesc := ⟨0, 0, false, true, true, 0, 4, 0, 0, 0, 0, [], [⟨0x10, 8, 1, 0⟩], []⟩
def dEvt : TaskDesc := ⟨47, 1, false, true, true, 0, 0, 0, 0, 0, 0, [], [], [⟨5, 0, 0, 0⟩]⟩
def prt' (p : Nat) (ret : Bool) : Part := ⟨p, true, ret, false, false, false, false, false, []⟩
def rel' (p : Nat) (d : TaskDesc) (ps : List Part) : Release :=
  ⟨p, d, 9, 4, 100, 5, 6, 1, false, 50, none, ps, false, false, .running, false, 0, none, false⟩
/-- RUN_ACTIVE with pair 2 in RUN and a task release table that gives it a cyclic task and an event task, both enabled. -/
def tasks (f : Mod → Mod) : State := at' stACTIVE (fun m =>
  f ((((m.setLstate 2 lnRUN).setTask (fun t => { t with table := some ⟨false, 4, 8, [[], [], [dCyc, dEvt]], 1, [0, 0, 0]⟩ })).put
    Reg.TASK_Tn_STATUS_ENABLED 1 2 0).put Reg.TASK_Tn_STATUS_ENABLED 1 2 47))
def rels (rs : List Release) (m : Mod) : Mod := m.setTask (fun t => { t with releases := rs })
def vote (ds : List DigestRec) (w : Option Nat) (rl : Option (Nat × Nat)) : VoteRec :=
  ⟨0, 9, [0, 1, 2], [], ds, w, false, rl, false, false, [], []⟩
/-- TRIAD with one release of three pairs whose bodies have returned, and its vote. -/
def triads (f : Mod → Mod) (v : VoteRec) (r : Release) : State := at' stACTIVE (fun m =>
  f ((rels [r] ((((((m.put Reg.SYS_PROFILE_PROFILE 1).setLstate 0 lnRUN).setLstate 1 lnRUN).setLstate 2 lnRUN).setVstate 0 vsVOTING).setVstate 1
    vsVOTING |>.setVstate 2 vsVOTING)).setScl (fun c => { c with votes := [v] })))
def rel3 : Release := rel' 0 dCyc [prt' 0 true, prt' 1 true, prt' 2 true]
def dig (p t : Nat) : DigestRec := ⟨p, (triads id (vote [] none none) rel3).mod.digestOf p rel3, t⟩
def cmt (rs : List (Nat × Nat)) (sw : Bool) : Commit := ⟨rs, [], [], 0, 5, 6, sw⟩
def key1 : TallyKey := ⟨5, true, []⟩
def twin (u role : Nat) (f : Mod → Mod) : State := at' u (fun m => f ((m.put Reg.SYS_PROFILE_TWIN_POS 1).setRole role))
def beat (u : Nat) : Heartbeat := ⟨u, 3, 1, true, true, false, false, false, 5, 9⟩
def master (u : Nat) (f : Mod → Mod) : State := at' u (fun m => f (m.put Reg.CYC_STATUS_ROLE cyMASTER))
def dIn : DsDesc := ⟨1023, false, 0, true, false, false, 24, 5, 3, [⟨0, 0x100, 24⟩], List.replicate 24 7⟩
def dOut : DsDesc := ⟨6, true, 0, true, false, false, 8, 1, 3, [⟨0, 0x200, 8⟩], List.replicate 8 7⟩
/-- A schedule directory of one case with the same entries in all its tables, and the two data sets. -/
def sched (es : List SchedEntry) (m : Mod) : Mod :=
  let t := fun ch k => some (⟨ch, k, 0, 8, 4, 0, 0, 0, es⟩ : SchedTable)
  m.setCyc (fun c => { c with dir := some ⟨1, [⟨0, [t 0 0, t 1 0, t 0 1, t 1 2]⟩]⟩, ioc := some ⟨1, [dIn, dOut]⟩ })
def hdr (sub src ch : Nat) : FrameHdr := ⟨true, false, 1, sub, src, 0x3FF, 0, ch, 0, 100, 100⟩
/-- A window directory of channel B: port 3 has one window of kind 2 from tick 100 on, length 50. -/
def wdir : WindowDir :=
  let t : WindowTable := ⟨0, 0, (List.range 27).map (fun p => if p = 3 then [⟨100, 0, 50, 0x1F, 2, 0⟩] else [])⟩
  ⟨1, 1, 10, 4, 8, 0x07FFFFFF, List.replicate 27 5, [(1, some t, some t)]⟩
def porter (st' : Nat) (f : Mod → Mod) : State := at' stACTIVE (fun m => f ((m.setPrtState 1 st').setPrt 1 (fun p => { p with current := some wdir })))
def pfr (tick : Nat) (b : FrameBody) : PorterFrame := ⟨true, 0, tick, 5, 0, b⟩
def poll0 : PollBody := ⟨0, 0, 0, false, 0, 0, 0, 0, 0xFFFFFFFF, 4, 8, []⟩
def mx : CanMatrix := ⟨false, 1000, 1, [⟨0, 10, 5, 1⟩], [[0x7F]], [⟨0x123, 0x1FFFFFFF, 3⟩]⟩
/-- Controller 2 ACTIVE with a matrix of one cell. -/
def can2 (f : Mod → Mod) : State := at' stACTIVE (fun m => f (((m.put Reg.CAN_STATUS_STATE cnACTIVE 2).put Reg.CAN_STATUS_MATRIX_RUN 1 2).setCan 2
  (fun c => { c with matrix := some mx })))
def att : CanAttempt := ⟨63, 0, true, List.replicate 72 3, []⟩
def cfr : CanFrame := ⟨0x123, false, false, false, false, false, 3, [1, 2, 3], 5, 0⟩
def gwe (src dst : Nat) : GwEntry := ⟨src, dst, 0, 0x345, 0, 0x100, 0x200, 0, 0, 16, 16, 3, 2, 5, -100, 1000, 7⟩
def gmap (e : GwEntry) : GwMap := ⟨1, [⟨0, 1, 0, 0, 1⟩], [e], []⟩
def gws (e : GwEntry) (r : Option GwRun) (f : Mod → Mod) : State :=
  at' stACTIVE (fun m => f (m.setGw (fun g => { g with map := some (gmap e), run := r, started := true })))
/-- The bridge enabled, with window 15 over the F2 address space from 0, readable and writable. -/
def bridge (f : Mod → Mod) : State := at' stACTIVE (fun m =>
  f ((((((m.put Reg.LBB_CTL_ENABLE 1).put Reg.LBB_WINw_CFG_VALID 1 15).put Reg.LBB_WINw_CFG_RD 1 15).put Reg.LBB_WINw_CFG_WR 1 15).put
    Reg.LBB_CTL_GRANT_EN 1).put Reg.LBB_CTL_REQ_POLL_EN 1))
/-- Channel 31 an output of the DIO island, driving, with its group's supply OK. -/
def dio (f : Mod → Mod) : State := master stACTIVE (fun m =>
  f ((((((((sched [] m).put Reg.DIO_CTL_ENABLE 1).put Reg.DIO_CHc_CFG_DIR 1 31).put Reg.DIO_CHc_STATUS_CMD 1 31).put Reg.DIO_CHc_STATUS_DRIVE 1 31).put
    Reg.DIO_CHc_STATUS_LEVEL 1 31).put Reg.DIO_Gg_SUPPLY_STATE suOK 3).put Reg.DIO_Gg_SUPPLY_LATCHED 0 3))
def rep (src kind : Nat) : Report := ⟨src, kind, 0, false, 0, [], 5, 0, 0, false, 0⟩
def frec : FaultRecord := ⟨5, 0, 0, false, [], [], 0⟩
/-- RUN_ACTIVE, one report waiting, and a class table with one row for it. -/
def faults (q : Report) (b : Nat) (re : List Nat) (f : Mod → Mod) : State := at' stACTIVE (fun m =>
  f (m.setFc (fun c => { c with reports := [q], table := some [⟨q.source, q.kind, b, b, 0, re, 0⟩] })))
def ev : Event := ⟨0x0080, 1, false, false, false, 0, 0, [1, 2], 5, 0, 0, false, 0⟩
def recd (n sev : Nat) : Record := ⟨n, { ev with severity := sev }, 0, 0, 0, []⟩
def txn (w : List TxnWrite) : Txn := ⟨.pair 2, w, [], false, 48, false⟩
def inTxn (w : List TxnWrite) (f : Mod → Mod) : State := at' stACTIVE (fun m => f (m.setCfg (fun c => { c with txn := some (txn w) })))
def sess (pm : Nat) (f : Mod → Mod) (u : Nat := stACTIVE) : State :=
  at' u (fun m => f (m.setSec (fun c => { c with sessions := [⟨1, 9, 2 ^ pm, 10 ^ 18⟩] })))
def pkg' (ps : List Nat) : Package :=
  ⟨5, true, 1000, 2, 0, 255, ps.map (fun p => ⟨p, false, 0, 9, 512, 4, [], [], []⟩)⟩
def upd' (u : Nat) (f : UpdState → UpdState) (g : Mod → Mod := id) : State := at' stACTIVE (fun m => g ((m.setUpdState u).setUpd f))
def owner (op : Nat) (f : Mod → Mod) : State := at' stACTIVE (fun m => f (m.wrLE (m.mbox + 6) 2 op))
def zeros (n : Nat) : List Byte := List.replicate n 0
/-- A package of one part with a payload, its signatures zero. -/
def pkgBytes (part enc : Nat) (payload : List Byte) : List Byte :=
  leBytes 4 0x474B5055 ++ leBytes 2 1 ++ [1, 1] ++ leBytes 4 5 ++ leBytes 4 (384 + payload.length) ++ [2, 0, 255, 0] ++ zeros 44 ++
  leBytes 1 part ++ leBytes 1 enc ++ [0, 0] ++ leBytes 4 9 ++ leBytes 4 384 ++ leBytes 4 payload.length ++ zeros 112 ++ zeros 192 ++ payload
/-- A change set for pair 0 whose directory stands alone. -/
def changeBytes : List Byte := leBytes 4 0x43474C4F ++ leBytes 2 1 ++ [1, 0] ++ zeros 28 ++ leBytes 4 64 ++ zeros 24
/-- A generation with one empty item. -/
def genBytes : List Byte :=
  leBytes 4 0x4E454754 ++ leBytes 2 1 ++ leBytes 2 1 ++ leBytes 4 9 ++ leBytes 4 0x110 ++ zeros 20 ++ leBytes 4 7 ++ zeros 216 ++
  leBytes 2 1 ++ zeros 2 ++ leBytes 4 0x110 ++ zeros 8
def pkgOf (l : List Byte) : Package := (parsePackage (listLE l) (sliceB l) l.length).getD ⟨0, false, 0, 0, 0, 0, []⟩

/-- A Daybook with a free slot between an archived record and a newer one. -/
def book : Daybook := ⟨[(0, recd 1 1), (2, recd 2 2)], 2, 1, [recd 1 1]⟩

theorem book_ok : DaybookOk book := ⟨by decide, by decide, by decide, by decide, by decide, by decide⟩

/-- A Daybook with a stronger, unarchived record in each of `n` slots from `k` on. -/
def filled (n k : Nat) : List (Nat × Record) := (List.range' k n).map (fun j => (j, recd (j + 1) 5))
def fullBook : Daybook := ⟨filled daybookSlots 0, 65536, 0, []⟩

theorem firstGap_filled (n k : Nat) : firstGap (filled n k) k = k + n := by
  induction n generalizing k with
  | zero => rfl
  | succ n ih =>
    have h := ih (k + 1)
    simp only [filled, List.range'_succ, List.map_cons, firstGap, if_true] at h ⊢
    omega

theorem fullBook_full : fullBook.slotFor ev.severity = none := by
  have h : firstGap fullBook.slots 0 = daybookSlots := by simpa [fullBook] using firstGap_filled daybookSlots 0
  have hs : ∀ x ∈ fullBook.slots, x.2.ev.severity = 5 ∧ 1 ≤ x.2.seq := by
    intro x hx
    obtain ⟨j, -, rfl⟩ := List.mem_map.mp hx
    exact ⟨rfl, Nat.le_add_left 1 j⟩
  have h1 : fullBook.slots.filter (fun x => x.2.seq ≤ fullBook.archSeq) = [] :=
    List.filter_eq_nil_iff.mpr (fun x hx => by have := (hs x hx).2; simp [fullBook]; omega)
  have h2 : fullBook.slots.filter (fun x => x.2.ev.severity ≤ ev.severity) = [] :=
    List.filter_eq_nil_iff.mpr (fun x hx => by rw [(hs x hx).1]; decide)
  unfold Daybook.slotFor Daybook.empty Daybook.archived Daybook.weaker
  rw [h, h1, h2]
  rfl

/-! ### Witnesses -/

/-- States and operands that meet the hypotheses of Obligations.StepRunsFront, clause by clause. -/
theorem witness_StepRunsFront :
    (∃ (c : Instr) (rest : List Instr) (s : State), s.pending = c :: rest) ∧
    (∃ (s : State), s.pending = []) :=
  ⟨⟨.daybookWrite, [.claimSlot], {State.reset with pending := [.daybookWrite, .claimSlot]}, by decide +kernel⟩,
    ⟨State.reset, by decide +kernel⟩⟩

/-- States and operands that meet the hypotheses of Obligations.DaybookStaysOk, clause by clause. -/
theorem witness_DaybookStaysOk : ∃ (s t : State), step s = .next t ∧ DaybookOk s.daybook :=
  ⟨{ st id with daybook := book }, _, rfl, book_ok⟩

/-- States and operands that meet the hypotheses of Obligations.RecordsGiveWayOnly, clause by clause. -/
theorem witness_RecordsGiveWayOnly : ∃ (s t : State), step s = .next t ∧ DaybookOk s.daybook :=
  ⟨{ st (fun m => { m with dbk := { m.dbk with fifo := [ev] } }) with daybook := book, pending := [.daybookWrite] }, _, rfl,
    book_ok⟩

/-- States and operands that meet the hypotheses of Obligations.OnlyDbkWritesSlots, clause by clause. -/
theorem witness_OnlyDbkWritesSlots : ∃ (c : Instr) (s t : State), exec c s = .next t ∧ c ≠ .daybookWrite :=
  ⟨.archivePass, { st id with daybook := book }, _, rfl, by decide⟩

/-- States and operands that meet the hypotheses of Obligations.WriteWithoutRight, clause by clause. -/
theorem witness_WriteWithoutRight : ∃ (c : Instr) (who : Initiator) (o : Nat) (v : Word32) (s : State), registerWrite c = some
  (who, o, v) ∧ s.mod.absentReg o = false ∧ s.mod.mayWrite who o v.toNat = false :=
  ⟨.lampTest (.split 0 1) 5, .split 0 1, 0x40, 5, State.reset, by decide +kernel⟩

/-- States and operands that meet the hypotheses of Obligations.FieldsJudged, clause by clause. -/
theorem witness_FieldsJudged : ∃ (who : Initiator) (o : Nat) (v : Nat) (m : Mod) (r : RegRow) (i : Nat) (j : Nat) (f : Fld), o % 4
  = 0 ∧ m.absentReg o = false ∧ findReg o = some (r, i, j) ∧ m.mayWrite who o v = true ∧ m.porterDown o = false ∧ m.vetoed o v =
  false ∧ m.insideTxn who = false ∧ f ∈ r.flds ∧ bitsOf v f.lo f.width ≠ m.get f i j ∧ (f.acc = .tx ∨ f.acc = .rwl ∧ m.cfg.locked =
  true) :=
  ⟨.pair 0, 0xB0008, 0, Mod.reset, ((findReg 0xB0008).getD (⟨0, 0, 0, 0, 0, []⟩, 0, 0)).1, 0, 0, Reg.LBB_TIMEOUT_HOLD_US,
    by decide +kernel⟩

/-- States and operands that meet the hypotheses of Obligations.RegisterAccessForm, clause by clause. -/
theorem witness_RegisterAccessForm : ∃ (op : BusOp) (addr : Addr), regBase ≤ addr.toNat ∧ addr.toNat < regBase + 0x140000 ∧
  (opWidth op < 4 ∨ addr.toNat % 4 ≠ 0) :=
  ⟨.read .b2, 0x100000000, by decide +kernel⟩

/-- States and operands that meet the hypotheses of Obligations.MramRights, clause by clause. -/
theorem witness_MramRights :
    (∃ (p : Pair) (w : Width) (addr : Addr) (s : State), s.mod.split p.val = false ∧ mramBase ≤ addr.toNat ∧ addr.toNat + w.bytes
      ≤ 0x43F00000) ∧
    (∃ (who : Initiator) (op : BusOp) (addr : Addr), who ≠ .lgr ∧ opWrites op = true ∧ mramBase ≤ addr.toNat ∧ addr.toNat +
      opWidth op ≤ mramBase + 0x4000000) :=
  ⟨⟨0, .b8, 0x43EFFFF8, State.reset, by decide +kernel⟩,
    ⟨.mc, .write .b1 5, 0x43FFFFFF, by decide +kernel⟩⟩

/-- States and operands that meet the hypotheses of Obligations.TimRights, clause by clause. -/
theorem witness_TimRights :
    (∃ (p : Pair) (o : Nat) (m : Mod), m.split p.val = false ∧ blockOf o = 1) ∧
    (∃ (o : Nat), blockOf o = 1) ∧
    (∃ (who : Initiator) (o : Nat) (s : State), blockOf o = 1 ∧ (findReg o).isSome = true ∧ (∀ p, who = .pair p → s.mod.split
      p.val = true) ∧ (who = .mc → 0x10100 ≤ o)) ∧
    (∃ (p : Pair) (o : Nat) (s : State), s.mod.split p.val = true ∧ blockOf o = 1 ∧ (findReg o).isSome = true) :=
  ⟨⟨2, 0x10000, Mod.reset, by decide +kernel⟩,
    ⟨0x10100, by decide +kernel⟩,
    ⟨.mc, 0x10100, State.reset, by decide +kernel⟩,
    ⟨2, 0x10010, st (fun m => m.put Reg.SYS_PROFILE_PAIR2_MODE 1), by decide +kernel⟩⟩

/-- States and operands that meet the hypotheses of Obligations.RegisterClears, clause by clause. -/
theorem witness_RegisterClears :
    (∃ (who : Initiator) (v : Word32) (s : State), s.mod.mayWrite who 0x404 v.toNat = true ∧ bitOf v.toNat 31 = true) ∧
    (∃ (who : Initiator) (v : Word32) (s : State), s.mod.mayWrite who 0x408 v.toNat = true) ∧
    (∃ (who : Initiator) (p : Pair) (v : Word32) (s : State), s.mod.mayWrite who (0x20400 + 0x1000 * p.val) v.toNat = true ∧ bitOf
      v.toNat 31 = true) ∧
    (∃ (who : Initiator) (p : Pair) (v : Word32) (s : State), s.mod.mayWrite who (0x30420 + 4 * p.val) v.toNat = true ∧ bitOf
      v.toNat 31 = true) ∧
    (∃ (who : Initiator) (v : Word32) (s : State), s.mod.mayWrite who 0x50014 v.toNat = true ∧ bitOf v.toNat 31 = true) ∧
    (∃ (who : Initiator) (v : Word32) (s : State), s.mod.mayWrite who 0x50400 v.toNat = true ∧ bitOf v.toNat 31 = true) ∧
    (∃ (who : Initiator) (v : Word32) (s : State), s.mod.mayWrite who 0x50408 v.toNat = true ∧ bitOf v.toNat 31 = true) ∧
    (∃ (who : Initiator) (p : Pair) (t : Task) (v : Word32) (s : State), s.mod.mayWrite who (0x4010C + 0x1000 * p.val + 0x10 *
      t.val) v.toNat = true ∧ bitOf v.toNat 31 = true) ∧
    (∃ (who : Initiator) (w : Fin 16) (v : Word32) (s : State), s.mod.mayWrite who (0xB0104 + 0x10 * w.val) v.toNat = true ∧ bitOf
      v.toNat 31 = true) :=
  ⟨⟨.mc, 0x80000000, State.reset, by decide +kernel⟩,
    ⟨.mc, 0xFFFFFFFF, st (fun m => m.put Reg.SYS_FABRIC_ERR_SRAM_UE 1), by decide +kernel⟩,
    ⟨.mc, 2, 0x80000000, st (fun m => m.put Reg.LANE_MISMATCH_INFO_VALID 1 2), by decide +kernel⟩,
    ⟨.mc, 2, 0x80000000, st (fun m => m.put Reg.SCL_SKEW_PEAKn_PEAK_US 9 2), by decide +kernel⟩,
    ⟨.mc, 0x80000000, st (fun m => m.put Reg.LGR_MIRROR_LAG_PEAK 9), by decide +kernel⟩,
    ⟨.mc, 0x80000000, st (fun m => m.put Reg.LGR_COMMIT_TIME_PEAK_US 9), by decide +kernel⟩,
    ⟨.mc, 0x80000000, st (fun m => m.put Reg.LGR_MIGRATE_TIME_PEAK_US 9), by decide +kernel⟩,
    ⟨.mc, 2, 47, 0x80000000, st (fun m => m.put Reg.TASK_Tn_EXEC_PEAK_PEAK_US 9 2 47), by decide +kernel⟩,
    ⟨.mc, 15, 0x80000000, st (fun m => m.put Reg.LBB_PREFETCH_DISCARDw_WORDS 9 15), by decide +kernel⟩⟩

/-- States and operands that meet the hypotheses of Obligations.FabricFaults, clause by clause. -/
theorem witness_FabricFaults : ∃ (addr : Addr), addr.toNat < 0x200000000 :=
  ⟨0x1FFFFFFFF, by decide +kernel⟩

/-- States and operands that meet the hypotheses of Obligations.Crossings, clause by clause. -/
theorem witness_Crossings :
    (∃ (a : Island) (b : Island) (s : State), islandCode a ≠ islandCode b ∧ 0 < (s.mod.crossing (islandCode a) (islandCode
      b)).credits ∧ (s.mod.crossing (islandCode a) (islandCode b)).held = []) ∧
    (∃ (a : Island) (b : Island) (s : State), islandCode a ≠ islandCode b ∧ (s.mod.crossing (islandCode a) (islandCode b)).credits
      = 0) ∧
    (∃ (a : Island) (b : Island) (s : State), islandCode a ≠ islandCode b ∧ s.mod.crossing (islandCode a) (islandCode b) =
      ⟨islandCode a, islandCode b, [], [], 16⟩) ∧
    (∃ (i : Island), (∀ k, i ≠ .prt k)) :=
  ⟨⟨.cyc, .dio, State.reset, by decide +kernel⟩,
    ⟨.cyc, .dio, st (fun m => m.setCrossing ⟨islandCode .cyc, islandCode .dio, [], [], 0⟩), by decide +kernel⟩,
    ⟨.cyc, .dio, State.reset, by decide +kernel⟩,
    ⟨.gw, by decide +kernel⟩⟩

/-- States and operands that meet the hypotheses of Obligations.AccessesComplete, clause by clause. -/
theorem witness_AccessesComplete :
    (∃ (p : Pair) (w : Width) (addr : Addr) (s : State), s.mod.split p.val = false ∧ stateBase p.val ≤ addr.toNat ∧ addr.toNat +
      w.bytes ≤ stateBase p.val + 0x80000) ∧
    (∃ (s : State), s.mod.get Reg.TIM_CTL_STEP = 0) ∧
    (∃ (w : Width) (addr : Addr) (s : State), s.mod.get Reg.DBG_STATUS_PORT_LIVE = 1 ∧ mramBase ≤ addr.toNat ∧ addr.toNat +
      w.bytes ≤ 0x43F00000) ∧
    (∃ (s : State), s.mod.get Reg.DBG_STATUS_PORT_LIVE = 0) :=
  ⟨⟨2, .b8, BitVec.ofNat 40 (stateBase 2 + 0x7FFF8), State.reset, by decide +kernel⟩,
    ⟨State.reset, by decide +kernel⟩,
    ⟨.b8, 0x43EFFFF8, st (fun m => m.put Reg.DBG_STATUS_PORT_LIVE 1), by decide +kernel⟩,
    ⟨State.reset, by decide +kernel⟩⟩

/-- States and operands that meet the hypotheses of Obligations.PairStart, clause by clause. -/
theorem witness_PairStart :
    (∃ (p : Pair) (s : State), s.mod.lstate p.val = lnRESET ∧ s.mod.unit ≠ stBOOT ∧ s.mod.split p.val = false) ∧
    (∃ (p : Pair) (s : State), s.mod.lstate p.val = lnSELFTEST ∧ s.mod.split p.val = false) ∧
    (∃ (p : Pair) (v : BitVec 64) (s : State), (v = 1 ∨ v = 3) ∧ ((s.mod.lane p.val).cache.map (·.1)).Nodup) :=
  ⟨⟨2, at' stCONFIG id, by decide +kernel⟩,
    ⟨2, st (fun m => m.setLstate 2 lnSELFTEST), by decide +kernel⟩,
    ⟨2, 3, st (fun m => m.setLane 2 (fun l => { l with cache := [(pairDram 2, ⟨7, true⟩), (pairDram 2 + 1, ⟨8, false⟩)] })),
      by decide +kernel⟩⟩

/-- States and operands that meet the hypotheses of Obligations.PairRestarts, clause by clause. -/
theorem witness_PairRestarts :
    (∃ (p : Pair) (s : State), s.mod.split p.val = false ∧ (s.mod.lstate p.val = lnIDLE ∨ s.mod.lstate p.val = lnRUN) ∧
      s.mod.escalatesNow (laneSource p.val 0) 1 = false ∧ s.mod.classNow (laneSource p.val 0) 1 ≠ clFATAL) ∧
    (∃ (p : Pair) (s : State), s.mod.split p.val = false ∧ (s.mod.lstate p.val = lnIDLE ∨ s.mod.lstate p.val = lnRUN) ∧
      s.mod.escalatesNow (laneSource p.val 0) 1 = false ∧ s.mod.classNow (laneSource p.val 0) 1 ≠ clFATAL) ∧
    (∃ (who : Initiator) (p : Pair) (v : Word32) (s : State), s.mod.mayWrite who (0x20004 + 0x1000 * p.val) v.toNat = true ∧
      Settled s.mod who (0x20004 + 0x1000 * p.val) v.toNat ∧ bitOf v.toNat 2 = true ∧ s.mod.split p.val = false ∧ (s.mod.unit =
      stCONFIG ∨ s.mod.unit = stSAFE) ∧ (s.mod.lstate p.val = lnIDLE ∨ s.mod.lstate p.val = lnRUN) ∧ s.mod.escalatesNow (laneSource
      p.val 0) 1 = false ∧ s.mod.classNow (laneSource p.val 0) 1 ≠ clFATAL) ∧
    (∃ (p : Pair) (addr : Addr) (s : State), s.mod.split p.val = false ∧ (s.mod.lstate p.val = lnIDLE ∨ s.mod.lstate p.val =
      lnRUN) ∧ stateBase p.val ≤ addr.toNat ∧ addr.toNat < tcmBase p.val + 0x400000 ∧ s.mod.classNow (laneSource p.val 3) 5 ≠
      clFATAL) ∧
    (∃ (p : Pair) (s : State), s.mod.split p.val = false ∧ (s.mod.lstate p.val = lnIDLE ∨ s.mod.lstate p.val = lnRUN) ∧
      s.mod.classNow (laneSource p.val 4) 8 ≠ clFATAL) :=
  ⟨⟨2, st (fun m => m.setLstate 2 lnRUN), by decide +kernel⟩,
    ⟨2, st (fun m => m.setLstate 2 lnIDLE), by decide +kernel⟩,
    ⟨.pair 0, 2, word Mod.reset 0x22004 4, at' stSAFE (fun m => m.setLstate 2 lnRUN), by decide +kernel⟩,
    ⟨2, BitVec.ofNat 40 (tcmBase 2 + 0x3FFFFF), st (fun m => m.setLstate 2 lnRUN), by decide +kernel⟩,
    ⟨2, st (fun m => m.setLstate 2 lnRUN), by decide +kernel⟩⟩

/-- States and operands that meet the hypotheses of Obligations.RestartSteps, clause by clause. -/
theorem witness_RestartSteps :
    (∃ (p : Pair) (r : Restart) (s : State), (s.mod.lane p.val).restart = some r ∧ r.phase = .resetting) ∧
    (∃ (p : Pair) (r : Restart) (s : State), (s.mod.lane p.val).restart = some r ∧ r.phase = .waiting ∧ s.mod.restoreWaits p.val r
      = false) ∧
    (∃ (p : Pair) (r : Restart) (s : State), NoTasks s.mod ∧ s.mod.fc.record = none ∧ (s.mod.lane p.val).restart = some r ∧
      r.phase = .restoring ∧ r.migration = false ∧ r.takeover = false ∧ s.mod.writeBackBad p.val = false) :=
  ⟨⟨2, rst .resetting, st (fun m => (m.setLstate 2 lnRESTORE).setLane 2 (fun l => { l with restart := some (rst .resetting) })),
      by decide +kernel⟩,
    ⟨2, rst .waiting, st (fun m => (m.setLstate 2 lnRESTORE).setLane 2 (fun l => { l with restart := some (rst .waiting) })),
      by decide +kernel⟩,
    ⟨2, rst .restoring, st (fun m => (m.setLstate 2 lnRESTORE).setLane 2 (fun l => { l with restart := some (rst .restoring) })),
      by decide +kernel⟩⟩

/-- States and operands that meet the hypotheses of Obligations.PairFails, clause by clause. -/
theorem witness_PairFails :
    (∃ (p : Pair) (s : State), NoTasks s.mod ∧ s.mod.split p.val = false ∧ s.mod.canFail p.val = true) ∧
    (∃ (p : Pair) (s : State), NoTasks s.mod ∧ s.mod.lstate p.val = lnSELFTEST) ∧
    (∃ (p : Pair) (s : State), NoTasks s.mod ∧ s.mod.split p.val = false ∧ s.mod.get Reg.LANE_CTL_INJ_ENABLE p.val = 1 ∧
      (s.mod.lstate p.val = lnIDLE ∨ s.mod.lstate p.val = lnRUN)) ∧
    (∃ (p : Pair) (r : Restart) (s : State), NoTasks s.mod ∧ s.mod.fc.record = none ∧ s.mod.lstate p.val ≠ lnFAILED ∧ (s.mod.lane
      p.val).restart = some r ∧ r.phase = .restoring) ∧
    (∃ (p : Pair) (addr : Addr) (s : State), NoTasks s.mod ∧ s.mod.split p.val = false ∧ s.mod.canFail p.val = true ∧ halfBase
      p.val (s.mod.half p.val) ≤ addr.toNat ∧ addr.toNat < halfBase p.val (s.mod.half p.val) + 0x1C0000) :=
  ⟨⟨2, st (fun m => m.setLstate 2 lnRUN), by decide +kernel⟩,
    ⟨2, st (fun m => m.setLstate 2 lnSELFTEST), by decide +kernel⟩,
    ⟨2, st (fun m => (m.setLstate 2 lnRUN).put Reg.LANE_CTL_INJ_ENABLE 1 2), by decide +kernel⟩,
    ⟨2, rst .restoring, st (fun m => (m.setLstate 2 lnRESTORE).setLane 2 (fun l => { l with restart := some (rst .restoring) })),
      by decide +kernel⟩,
    ⟨2, BitVec.ofNat 40 (halfBase 2 0 + 0x1BFFFF), st (fun m => m.setLstate 2 lnRUN), by decide +kernel⟩⟩

/-- States and operands that meet the hypotheses of Obligations.FailedAlways, clause by clause. -/
theorem witness_FailedAlways : ∃ (p : Pair) (s : State), s.mod.split p.val = false ∧ s.mod.canFail p.val = true :=
  ⟨2, st (fun m => m.setLstate 2 lnRUN), by decide +kernel⟩

/-- States and operands that meet the hypotheses of Obligations.LaneTests, clause by clause. -/
theorem witness_LaneTests :
    (∃ (p : Pair) (k : Fin 3) (s : State), s.mod.split p.val = false ∧ s.mod.get Reg.LANE_CTL_INJ_ENABLE p.val = 1 ∧ (s.mod.lstate
      p.val = lnIDLE ∨ s.mod.lstate p.val = lnRUN) ∧ k ≠ 0) ∧
    (∃ (p : Pair) (s : State), s.mod.classNow (laneSource p.val 3) 6 ≠ clFATAL) ∧
    (∃ (p : Pair) (s : State), s.mod.classNow (laneSource p.val 4) 7 ≠ clFATAL) ∧
    (∃ (p : Pair) (s : State), s.mod.split p.val = true ∧ s.mod.lstate p.val = lnRUN) ∧
    (∃ (v : Word32) (s : State), s.mod.get Reg.DBG_STATUS_PORT_LIVE = 1 ∧ s.mod.get Reg.DBG_CTL_PAIR_EN = 0 ∧ s.mod.get
      Reg.DBG_STATUS_SCOPE = 8 ∧ bitOf v.toNat 3 = true) :=
  ⟨⟨2, 2, st (fun m => (m.setLstate 2 lnRUN).put Reg.LANE_CTL_INJ_ENABLE 1 2), by decide +kernel⟩,
    ⟨2, State.reset, by decide +kernel⟩,
    ⟨2, State.reset, by decide +kernel⟩,
    ⟨2, st (fun m => (m.setLstate 2 lnRUN).put Reg.SYS_PROFILE_PAIR2_MODE 1), by decide +kernel⟩,
    ⟨8, st (fun m => (m.put Reg.DBG_STATUS_PORT_LIVE 1).put Reg.DBG_STATUS_SCOPE 8), by decide +kernel⟩⟩

/-- States and operands that meet the hypotheses of Obligations.Latches, clause by clause. -/
theorem witness_Latches :
    (∃ (p : Pair) (t : Task) (d : TaskDesc) (s : State), s.mod.triad = false ∧ s.mod.running = true ∧ s.mod.desc p.val t.val =
      some d ∧ d.cyclic = true ∧ s.mod.latchBlocked = false ∧ s.mod.latchHeld p.val = false ∧ s.mod.latchCycle d = true ∧
      s.mod.canLatch p.val = true ∧ s.mod.rel p.val t.val = none ∧ (s.mod.dyn p.val t.val).enableReq = none ∧ (s.mod.dyn p.val
      t.val).skipNext = false ∧ s.mod.get Reg.TASK_Tn_STATUS_ENABLED p.val t.val = 1) ∧
    (∃ (p : Pair) (t : Task) (g : TrigData) (d : TaskDesc) (s : State), s.mod.triad = false ∧ s.mod.running = true ∧ s.mod.desc
      p.val t.val = some d ∧ d.cyclic = false ∧ (d.triggers.any (fun e => e.src == g.src)) = true ∧ s.mod.latchBlocked = false ∧
      s.mod.latchHeld p.val = false ∧ s.mod.canLatch p.val = true ∧ s.mod.rel p.val t.val = none ∧ (s.mod.dyn p.val t.val).enableReq
      = none ∧ s.mod.get Reg.TASK_Tn_STATUS_ENABLED p.val t.val = 1) ∧
    (∃ (p : Pair) (t : Task) (g : TrigData) (d : TaskDesc) (s : State), s.mod.triad = false ∧ s.mod.running = true ∧ s.mod.desc
      p.val t.val = some d ∧ d.cyclic = false ∧ (d.triggers.any (fun e => e.src == g.src)) = true ∧ s.mod.lstate p.val ≠ lnFAILED ∧
      (s.mod.rel p.val t.val).isSome = true ∧ (s.mod.dyn p.val t.val).pendingTrig = none ∧ s.mod.get Reg.TASK_Tn_STATUS_ENABLED
      p.val t.val = 1) :=
  ⟨⟨2, 0, dCyc, tasks (id), by decide +kernel⟩,
    ⟨2, 47, ⟨5,0,0,0,0⟩, dEvt, tasks (id), by decide +kernel⟩,
    ⟨2, 47, ⟨5,0,0,0,0⟩, dEvt, tasks (rels [rel' 2 dEvt [prt' 2 false]]), by decide +kernel⟩⟩

/-- States and operands that meet the hypotheses of Obligations.ReleaseEnds, clause by clause. -/
theorem witness_ReleaseEnds :
    (∃ (p : Pair) (t : Task) (r : Release) (s : State), s.mod.triad = false ∧ s.mod.executing p.val t.val = some r ∧ r.stage =
      .running ∧ s.mod.cfg.txn = none ∧ s.mod.lgr.inhibited = false) ∧
    (∃ (p : Pair) (t : Task) (r : Release) (s : State), s.mod.triad = false ∧ s.mod.rel p.val t.val = some r ∧ r.overrun = false) ∧
    (∃ (p : Pair) (t : Task) (r : Release) (s : State), s.mod.executing p.val t.val = some r ∧ s.mod.get Reg.TASK_CTL_BUDGET_CHECK
      = 1 ∧ (∀ q ∈ r.parts, q.budgetRaised = false)) ∧
    (∃ (p : Pair) (t : Task) (r : Release) (s : State), s.mod.triad = false ∧ s.mod.executing p.val t.val = some r ∧ s.mod.cfg.txn
      = none ∧ (s.mod.dyn p.val t.val).pendingTrig = none) :=
  ⟨⟨2, 0, rel' 2 dCyc [prt' 2 false], tasks (rels [rel' 2 dCyc [prt' 2 false]]), by decide +kernel⟩,
    ⟨2, 0, rel' 2 dCyc [prt' 2 false], tasks (rels [rel' 2 dCyc [prt' 2 false]]), by decide +kernel⟩,
    ⟨2, 0, rel' 2 dCyc [prt' 2 false], tasks (fun m => (rels [rel' 2 dCyc [prt' 2 false]] m).put Reg.TASK_CTL_BUDGET_CHECK 1),
      by decide +kernel⟩,
    ⟨2, 0, rel' 2 dCyc [prt' 2 false], tasks (rels [rel' 2 dCyc [prt' 2 false]]), by decide +kernel⟩⟩

/-- States and operands that meet the hypotheses of Obligations.Voting, clause by clause. -/
theorem witness_Voting :
    (∃ (p : Pair) (t : Task) (r : Release) (v : VoteRec) (s : State), s.mod.triad = true ∧ s.mod.task.releases = [r] ∧ r.pair = 0
      ∧ r.desc.index = t.val ∧ (∃ q ∈ r.parts, q.pair = p.val ∧ q.returned = true ∧ q.digested = false ∧ q.dropped = false) ∧
      s.mod.scl.votes = [v] ∧ v.task = t.val ∧ v.number = r.number ∧ v.voters = [0, 1, 2] ∧ v.digests = [] ∧ v.released = none ∧
      v.window = none ∧ v.final = false ∧ s.mod.vstate p.val = vsVOTING ∧ (s.mod.dyn 0 t.val).pendingTrig = none) ∧
    (∃ (p : Pair) (q : Pair) (t : Task) (r : Release) (v : VoteRec) (t0 : Nat) (s : State), s.mod.triad = true ∧
      s.mod.task.releases = [r] ∧ r.pair = 0 ∧ r.desc.index = t.val ∧ (∃ x ∈ r.parts, x.pair = p.val ∧ x.returned = true ∧
      x.digested = false ∧ x.dropped = false) ∧ s.mod.scl.votes = [v] ∧ v.task = t.val ∧ v.number = r.number ∧ v.voters = [0, 1, 2]
      ∧ q ≠ p ∧ t0 < s.mod.now ∧ v.digests = [⟨q.val, s.mod.digestOf p.val r, t0⟩] ∧ v.released = none ∧ v.window = none ∧ v.final =
      false ∧ v.exempt = [] ∧ s.mod.vstate p.val = vsVOTING ∧ s.mod.vstate q.val = vsVOTING ∧ (s.mod.dyn 0 t.val).pendingTrig =
      none) ∧
    (∃ (t : Task) (src : Pair) (r : Release) (s : State), s.mod.scl.copies.find? (fun c => c.1 == t.val) = some (t.val, src.val) ∧
      s.mod.rel 0 t.val = some r ∧ r.late = false ∧ s.mod.lgr.inhibited = false) ∧
    (∃ (t : Task) (v : VoteRec) (s : State), s.mod.voteOf t.val = some v ∧ v.window.isSome = true ∧ v.windowEnded = false ∧
      v.released.isSome = true ∧ v.missing = [] ∧ (s.mod.dyn 0 t.val).pendingTrig = none) ∧
    (∃ (t : Task) (p : Pair) (v : VoteRec) (s : State), s.mod.voteOf t.val = some v ∧ v.window.isSome = true ∧ v.windowEnded =
      false ∧ v.released.isSome = true ∧ v.missing = [p.val] ∧ s.mod.vstate p.val = vsVOTING ∧ s.mod.escalatesNow (0x41 + p.val) 1 =
      false ∧ (s.mod.dyn 0 t.val).pendingTrig = none) :=
  ⟨⟨2, 0, rel3, vote [] none none, triads id (vote [] none none) rel3, by decide +kernel⟩,
    ⟨2, 1, 0, rel3, vote [dig 1 0] none none, 0, triads (fun m => { m with now := 1 }) (vote [dig 1 0] none none) rel3,
      by decide +kernel⟩,
    ⟨0, 1, rel3, triads (fun m => (m.setScl (fun c => { c with copies := [(0, 1)] })).wr8 (shadowBase 1 + 0x10) 7) (vote [dig 1 0,
      dig 0 1] (some 1) (some (1, 5))) rel3, by decide +kernel⟩,
    ⟨0, vote [dig 1 0, dig 0 1, dig 2 1] (some 1) (some (1, 5)), triads id (vote [dig 1 0, dig 0 1, dig 2 1] (some 1) (some (1,
      5))) rel3, by decide +kernel⟩,
    ⟨0, 2, vote [dig 1 0, dig 0 1] (some 1) (some (1, 5)), triads id (vote [dig 1 0, dig 0 1] (some 1) (some (1, 5))) rel3,
      by decide +kernel⟩⟩

/-- States and operands that meet the hypotheses of Obligations.Services, clause by clause. -/
theorem witness_Services :
    (∃ (p : Pair) (r : Release) (s : State), s.mod.caller p.val = some r) ∧
    (∃ (p : Pair) (r : Release) (q : Part) (s : State), s.mod.caller p.val = some r ∧ s.mod.task.releases.find? (fun x => x.pair
      == r.pair && x.desc.index == r.desc.index && x.number == r.number) = some r ∧ r.parts.find? (fun x => x.pair == p.val) = some
      q ∧ q.requests.length < 32 ∧ s.mod.desc p.val 47 = some dEvt ∧ 5 < s.mod.canCount) :=
  ⟨⟨2, rel' 2 dCyc [prt' 2 false], tasks (rels [rel' 2 dCyc [prt' 2 false]]), by decide +kernel⟩,
    ⟨2, rel' 2 dCyc [prt' 2 false], prt' 2 false, tasks (rels [rel' 2 dCyc [prt' 2 false]]), by decide +kernel⟩⟩

/-- States and operands that meet the hypotheses of Obligations.Commits, clause by clause. -/
theorem witness_Commits :
    (∃ (s : State), s.mod.lgr.commit = none ∧ s.mod.commitsStopped = false ∧ s.mod.chg.switchDue = false ∧ s.mod.lgr.requests ≠ []
      ∧ s.mod.commitSpaced = true) ∧
    (∃ (s : State), s.mod.lgr.commit = none ∧ s.mod.commitsStopped = false ∧ s.mod.lgr.looseDue = true ∧ s.mod.lgr.requests = [] ∧
      s.mod.commitSpaced = true) ∧
    (∃ (c : Commit) (s : State), s.mod.lgr.commit = some c ∧ c.rels = [] ∧ c.switch = false ∧ NoTasks s.mod ∧ s.mod.get
      Reg.LGR_STATUS_MIRROR = miNOPEER ∧ s.mod.task.mcQueue = [] ∧ s.mod.get Reg.LGR_STATUS_STATE = 1 ∧ s.mod.lgr.inhibited = false) ∧
    (∃ (c : Commit) (s : State), s.mod.lgr.commit = some c) :=
  ⟨⟨tasks (fun m => (rels [rel' 2 dCyc [prt' 2 false]] m).setLgr (fun l => { l with requests := [(2, 0)], restored := true })),
      by decide +kernel⟩,
    ⟨st (fun m => m.setLgr (fun l => { l with restored := true, looseDue := true, loose := [5] })), by decide +kernel⟩,
    ⟨cmt [] false, st (fun m => (m.put Reg.LGR_STATUS_STATE 1).setLgr (fun l => { l with commit := some (cmt [] false) })),
      by decide +kernel⟩,
    ⟨cmt [] false, st (fun m => (m.put Reg.LGR_STATUS_STATE 1).setLgr (fun l => { l with commit := some (cmt [] false) })),
      by decide +kernel⟩⟩

/-- States and operands that meet the hypotheses of Obligations.PublicationAtCommit, clause by clause. -/
theorem witness_PublicationAtCommit : ∃ (p : Pair) (t : Task) (c : Commit) (r : Release) (s : State), s.mod.triad = false ∧
  s.mod.lgr.commit = some c ∧ c.rels = [(p.val, t.val)] ∧ c.switch = false ∧ s.mod.rel p.val t.val = some r ∧ (∀ e ∈ r.desc.outputs,
  e.type = 1 ∧ e.start + e.len ≤ 0x10000) ∧ (∀ q ∈ r.parts, q.requests = []) ∧ s.mod.cfg.txn = none ∧ (s.mod.dyn p.val
  t.val).pendingTrig = none ∧ s.mod.get Reg.LGR_STATUS_MIRROR = miNOPEER ∧ s.mod.task.mcQueue = [] ∧ s.mod.forcesOf 3 = [] :=
  ⟨2, 0, cmt [(2, 0)] false, rel' 2 dCyc [prt' 2 false], tasks (fun m => ((rels [rel' 2 dCyc [prt' 2 false]] m).setLgr (fun l =>
    { l with commit := some (cmt [(2, 0)] false) })).wr8 (shadowBase 2 + 0x17) 9), by decide +kernel⟩

/-- States and operands that meet the hypotheses of Obligations.MirrorAndMram, clause by clause. -/
theorem witness_MirrorAndMram :
    (∃ (s : State), s.mod.unit = stSTANDBY ∧ s.mod.chg.standby = none) ∧
    (∃ (s : State), s.mod.get Reg.LGR_STATUS_MIRROR = miSYNC) ∧
    (∃ (n : Nat) (s : State), s.mod.get Reg.LGR_STATUS_MIRROR = miFULL ∧ s.mod.lgr.recorded = [] ∧ s.mod.lgr.commits ≤ n + 2) ∧
    (∃ (addr : Addr) (k : Nat) (g : Nat), k < 8 ∧ g < 6504 ∧ copyAddr k g ≤ addr.toNat ∧ addr.toNat < copyAddr k g + 256) ∧
    (∃ (who : Initiator) (v : Word32) (s : State), s.mod.mayWrite who 0x50000 v.toNat = true ∧ Settled s.mod who 0x50000 v.toNat ∧
      bitOf v.toNat 1 = true ∧ s.mod.unit = stCONFIG) :=
  ⟨⟨at' stSTANDBY id, by decide +kernel⟩,
    ⟨st (fun m => m.put Reg.LGR_STATUS_MIRROR miSYNC), by decide +kernel⟩,
    ⟨5, st (fun m => (m.put Reg.LGR_STATUS_MIRROR miFULL).setLgr (fun l => { l with commits := 7 })), by decide +kernel⟩,
    ⟨BitVec.ofNat 40 (copyAddr 7 6503 + 255), 7, 6503, by decide +kernel⟩,
    ⟨.pair 0, word Mod.reset 0x50000 2, at' stCONFIG id, by decide +kernel⟩⟩

/-- States and operands that meet the hypotheses of Obligations.ChangeRequests, clause by clause. -/
theorem witness_ChangeRequests :
    (∃ (s : State), (s.mod.rd8 (s.mod.chgDesc + 4)).toNat = 1 ∧ s.mod.rdLE s.mod.chgDesc 4 ≠ s.mod.chg.seqSeen ∧ s.mod.chgState =
      chIDLE ∧ s.mod.rdLE (s.mod.chgDesc + 8) 4 = 0xFFFFFFFF ∧ s.mod.triad = false ∧ s.mod.unit = stACTIVE ∧ (∀ p : Pair,
      s.mod.lstate p.val ≠ lnRESTORE ∧ s.mod.lstate p.val ≠ lnFAILED) ∧ s.mod.lgr.requests = [] ∧ s.mod.get Reg.SYS_STATE_TRIAL = 0
      ∧ s.mod.get Reg.UPD_STATE_STATE ≠ 1 ∧ s.mod.mirrors = false) ∧
    (∃ (s : State), (s.mod.rd8 (s.mod.chgDesc + 4)).toNat = 2 ∧ s.mod.rdLE s.mod.chgDesc 4 ≠ s.mod.chg.seqSeen ∧ (s.mod.chgState =
      chLOADING ∨ s.mod.chgState = chARMED)) :=
  ⟨⟨at' stACTIVE (fun m => (((m.wr8 (m.chgDesc + 4) 1).wrLE m.chgDesc 4 9).wrLE (m.chgDesc + 8) 4 0xFFFFFFFF)),
      by decide +kernel⟩,
    ⟨at' stACTIVE (fun m => (((m.wr8 (m.chgDesc + 4) 2).wrLE m.chgDesc 4 9).put Reg.TASK_CHG_STATUS_STATE chARMED)),
      by decide +kernel⟩⟩

/-- States and operands that meet the hypotheses of Obligations.ChangeLoading, clause by clause. -/
theorem witness_ChangeLoading :
    (∃ (s : State), s.mod.chgState = chLOADING ∧ s.mod.chg.checked = false ∧ s.mod.mirrors = false) ∧
    (∃ (s : State), s.mod.chgState = chLOADING ∧ s.mod.chg.checked = true) ∧
    (∃ (s : State), s.mod.chgState = chLOADING ∧ s.mod.chg.checked = true ∧ s.mod.chg.acked = false) ∧
    (∃ (set : List Byte) (g : Package) (q : PkgPart) (x : ChangeSet) (s : State), s.mod.unit = stSTANDBY ∧ parsePackage (listLE
      set) (sliceB set) set.length = some g ∧ g.parts = [q] ∧ parseSet (sliceB set q.off q.len) s.mod.triad = some x) :=
  ⟨⟨at' stACTIVE (fun m => m.put Reg.TASK_CHG_STATUS_STATE chLOADING), by decide +kernel⟩,
    ⟨at' stACTIVE (fun m => (m.put Reg.TASK_CHG_STATUS_STATE chLOADING).setChg (fun c => { c with checked := true })),
      by decide +kernel⟩,
    ⟨at' stACTIVE (fun m => (m.put Reg.TASK_CHG_STATUS_STATE chLOADING).setChg (fun c => { c with checked := true })),
      by decide +kernel⟩,
    ⟨pkgBytes 7 0 changeBytes, pkgOf (pkgBytes 7 0 changeBytes), (pkgOf (pkgBytes 7 0 changeBytes)).parts.headD ⟨0, false, 0, 0,
      0, 0, [], [], []⟩, (parseSet (sliceB (pkgBytes 7 0 changeBytes) ((pkgOf (pkgBytes 7 0 changeBytes)).parts.headD ⟨0, false, 0,
      0, 0, 0, [], [], []⟩).off ((pkgOf (pkgBytes 7 0 changeBytes)).parts.headD ⟨0, false, 0, 0, 0, 0, [], [], []⟩).len) false).get
      (by decide +kernel), at' stSTANDBY id, by decide +kernel, by decide +kernel, by decide +kernel, (Option.some_get _).symm⟩⟩

/-- States and operands that meet the hypotheses of Obligations.ChangeSwitch, clause by clause. -/
theorem witness_ChangeSwitch :
    (∃ (s : State), s.mod.chgState = chHOLD ∧ s.mod.quiescent = true) ∧
    (∃ (s : State), s.mod.chgState = chHOLD ∧ NoTasks s.mod ∧ s.mod.chg.heldLatches = [] ∧ s.mod.get Reg.TASK_CHG_STATUS_POSTPONED
      < 255) ∧
    (∃ (p : Pair) (s : State), s.mod.chgState = chMIGRATING ∧ NoTasks s.mod ∧ s.mod.chg.pairs = [p.val] ∧ s.mod.chg.table = none ∧
      s.mod.chg.heldLatches = [] ∧ s.mod.lgr.commit = none ∧ s.mod.lgr.inhibited = false ∧ s.mod.get Reg.LGR_STATUS_STATE = 0 ∧
      s.mod.half p.val ≤ 1) ∧
    (∃ (s : State), s.mod.chgState = chMIGRATING) :=
  ⟨⟨at' stACTIVE (fun m => (m.put Reg.TASK_CHG_STATUS_STATE chHOLD).setLstate 2 lnRUN |>.setChg (fun c =>
      { c with pairs := [2] })), by decide +kernel⟩,
    ⟨at' stACTIVE (fun m => (m.put Reg.TASK_CHG_STATUS_STATE chHOLD).put Reg.TASK_CHG_STATUS_POSTPONED 254 |>.setChg (fun c =>
      { c with pairs := [2], postponeLimit := 255 })), by decide +kernel⟩,
    ⟨2, at' stACTIVE (fun m => (m.put Reg.TASK_CHG_STATUS_STATE chMIGRATING).setLstate 2 lnRUN |>.setChg (fun c =>
      { c with pairs := [2] })), by decide +kernel⟩,
    ⟨at' stACTIVE (fun m => m.put Reg.TASK_CHG_STATUS_STATE chMIGRATING), by decide +kernel⟩⟩

/-- States and operands that meet the hypotheses of Obligations.Forcing, clause by clause. -/
theorem witness_Forcing :
    (∃ (i : Nat) (e : Nat) (f : Force) (s : State), s.mod.nextRequest = some i ∧ (s.mod.rd8 (s.mod.ringEntry i + 4)).toNat = 1 ∧ 0
      < s.mod.task.forceBudget ∧ s.mod.setResult (s.mod.ringForce i) = .ok (e, f)) ∧
    (∃ (i : Nat) (k : Nat) (s : State), s.mod.nextRequest = some i ∧ (s.mod.rd8 (s.mod.ringEntry i + 4)).toNat = 1 ∧ 0 <
      s.mod.task.forceBudget ∧ s.mod.setResult (s.mod.ringForce i) = .error k) ∧
    (∃ (i : Nat) (e : Nat × Force) (s : State), s.mod.nextRequest = some i ∧ (s.mod.rd8 (s.mod.ringEntry i + 4)).toNat = 2 ∧ 0 <
      s.mod.task.forceBudget ∧ s.mod.task.forces.find? (fun x => x.2.same (s.mod.ringForce i)) = some e) ∧
    (∃ (i : Nat) (s : State), s.mod.nextRequest = some i ∧ (s.mod.rd8 (s.mod.ringEntry i + 4)).toNat = 3 ∧ 0 <
      s.mod.task.forceBudget) :=
  ⟨⟨15, 0, ⟨1, 1, 0, false, 0, 0xEFFE, 0, 0⟩, at' stACTIVE (fun m => (((m.wr8 (m.ringEntry 15 + 4) 1).wrLE (m.ringEntry 15) 4
      9).wr8 (m.ringEntry 15 + 8) 1 |>.wr8 (m.ringEntry 15 + 9) 1 |>.wrLE (m.ringEntry 15 + 12) 4 0xEFFE).setTask (fun t =>
      { t with forceBudget := 1, forces := [] })), by decide +kernel⟩,
    ⟨15, 4, at' stACTIVE (fun m => (((m.wr8 (m.ringEntry 15 + 4) 1).wrLE (m.ringEntry 15) 4 9).wr8 (m.ringEntry 15 + 8) 1 |>.wr8
      (m.ringEntry 15 + 9) 1 |>.wrLE (m.ringEntry 15 + 12) 4 0xF000).setTask (fun t => { t with forceBudget := 1, forces := [] })),
      by decide +kernel⟩,
    ⟨15, (7, ⟨1, 1, 0, false, 0, 0x100, 5, 0⟩), at' stACTIVE (fun m => (((m.wr8 (m.ringEntry 15 + 4) 2).wrLE (m.ringEntry 15) 4
      9).wr8 (m.ringEntry 15 + 8) 1 |>.wr8 (m.ringEntry 15 + 9) 1 |>.wrLE (m.ringEntry 15 + 12) 4 0x100).setTask (fun t =>
      { t with forceBudget := 1, forces := [(7, ⟨1, 1, 0, false, 0, 0x100, 5, 0⟩)] })), by decide +kernel⟩,
    ⟨15, at' stACTIVE (fun m => (((m.wr8 (m.ringEntry 15 + 4) 3).wrLE (m.ringEntry 15) 4 9).wr8 (m.ringEntry 15 + 8) 1 |>.wr8
      (m.ringEntry 15 + 9) 1 |>.wrLE (m.ringEntry 15 + 12) 4 0x100).setTask (fun t =>
      { t with forceBudget := 1, forces := [(7, ⟨1, 1, 0, false, 0, 0x100, 5, 0⟩)] })), by decide +kernel⟩⟩

/-- States and operands that meet the hypotheses of Obligations.HoldUp, clause by clause. -/
theorem witness_HoldUp :
    (∃ (s : State), (s.mod.get Reg.SYS_HOLDUP_STATE = hoCHARGED ∨ s.mod.get Reg.SYS_HOLDUP_STATE = hoCHARGING)) ∧
    (∃ (s : State), s.mod.get Reg.SYS_HOLDUP_STATE = hoDISCHARGING) ∧
    (∃ (s : State), s.mod.get Reg.SYS_HOLDUP_STATE = hoCHARGING) ∧
    (∃ (s : State), s.mod.get Reg.SYS_HOLDUP_STATE = hoDISCHARGING ∧ s.mod.lgr.requests = []) ∧
    (∃ (s : State), s.mod.get Reg.SYS_HOLDUP_STATE ≠ hoLOW ∧ s.mod.lgr.requests = []) ∧
    (∃ (mv : BitVec 18), 165000 < mv.toNat) ∧
    (∃ (j : BitVec 8) (s : State), 110 ≤ j.toInt ∧ s.mod.env.overRaised = false) ∧
    (∃ (j : BitVec 8) (s : State), 120 ≤ j.toInt ∧ s.mod.env.critRaised = false) ∧
    (∃ (j : BitVec 8) (s : State), s.mod.env.critRaised = true ∧ 115 ≤ j.toInt) :=
  ⟨⟨st (fun m => m.put Reg.SYS_HOLDUP_STATE hoCHARGED), by decide +kernel⟩,
    ⟨st (fun m => m.put Reg.SYS_HOLDUP_STATE hoDISCHARGING), by decide +kernel⟩,
    ⟨st (fun m => m.put Reg.SYS_HOLDUP_STATE hoCHARGING), by decide +kernel⟩,
    ⟨st (fun m => m.put Reg.SYS_HOLDUP_STATE hoDISCHARGING), by decide +kernel⟩,
    ⟨st (fun m => m.put Reg.SYS_HOLDUP_STATE hoCHARGED), by decide +kernel⟩,
    ⟨165001, by decide +kernel⟩,
    ⟨110, State.reset, by decide +kernel⟩,
    ⟨120, State.reset, by decide +kernel⟩,
    ⟨115, st (fun m => { m with env := { m.env with critRaised := true } }), by decide +kernel⟩⟩

/-- States and operands that meet the hypotheses of Obligations.SocResets, clause by clause. -/
theorem witness_SocResets :
    (∃ (who : Initiator) (v : Word32) (s : State), s.mod.mayWrite who 0x40C v.toNat = true ∧ bitsOf v.toNat 0 16 = 0xA5A5 ∧ bitOf
      v.toNat 16 = true ∧ s.mod.unit ≠ stDEBUG) ∧
    (∃ (s : State), s.mod.env.low = true ∧ s.mod.fc.reports = [] ∧ s.mod.dbk.fifo = [] ∧ s.mod.lgr.commit = none) ∧
    (∃ (s : State), s.mod.unit = stBOOT ∧ s.mod.get Reg.SYS_RESET_CAUSE_SUPPLY_LOW = 1) ∧
    (∃ (s : State), s.mod.env.thermalHold = false) ∧
    (∃ (s : State), s.mod.env.thermalHold = true) :=
  ⟨⟨.mc, 0x1A5A5, at' stACTIVE (fun m => ((m.wr8 (mramBase + 0x3FFFFFF) 5).wr8 mcDram 5).setLstate 1 lnRUN), by decide +kernel⟩,
    ⟨at' stACTIVE (fun m => { m with env := { m.env with low := true } }), by decide +kernel⟩,
    ⟨st (fun m => m.put Reg.SYS_RESET_CAUSE_SUPPLY_LOW 1), by decide +kernel⟩,
    ⟨at' stACTIVE (id), by decide +kernel⟩,
    ⟨st (fun m => { m with env := { m.env with thermalHold := true } }), by decide +kernel⟩⟩

/-- States and operands that meet the hypotheses of Obligations.StartTransaction, clause by clause. -/
theorem witness_StartTransaction :
    (∃ (s : State), s.mod.unit = stBOOT ∧ s.mod.heldInReset = false ∧ s.mod.upd.boot.trial = false ∧ s.mod.cfg.locked = false ∧
      s.mod.get Reg.UPD_STATE_PHASE ≠ 2 ∧ (∀ p : Pair, s.mod.lstate p.val = lnRESET)) ∧
    (∃ (s : State), s.mod.unit = stCONFIG ∧ s.mod.cfg.key = none) ∧
    (∃ (k : TallyKey) (s : State), s.mod.unit = stCONFIG ∧ s.mod.cfg.key = some k ∧ k.authentic = false ∧ s.mod.upd.boot.trial =
      false) ∧
    (∃ (k : TallyKey) (s : State), s.mod.unit = stCONFIG ∧ s.mod.cfg.key = some k ∧ k.authentic = true ∧ s.mod.upd.boot.trial =
      false ∧ s.mod.upd.boot.fallingBack = false) :=
  ⟨⟨State.reset, by decide +kernel⟩,
    ⟨at' stCONFIG (id), by decide +kernel⟩,
    ⟨{ key1 with authentic := false }, at' stCONFIG (fun m => m.setCfg (fun c =>
      { c with key := some { key1 with authentic := false } })), by decide +kernel⟩,
    ⟨key1, at' stCONFIG (fun m => m.setCfg (fun c => { c with key := some key1 })), by decide +kernel⟩⟩

/-- States and operands that meet the hypotheses of Obligations.RestoreAndFinalState, clause by clause. -/
theorem witness_RestoreAndFinalState :
    (∃ (s : State), s.mod.unit = stSTARTING ∧ s.mod.lgr.restored = false ∧ s.mod.selftestsDone = true ∧ s.mod.upd.boot.fallingBack
      = false ∧ s.mod.selectedMap = none) ∧
    (∃ (slot : Nat) (r : MapRec) (s : State), s.mod.unit = stSTARTING ∧ s.mod.lgr.restored = false ∧ s.mod.selftestsDone = true ∧
      s.mod.upd.boot.fallingBack = false ∧ s.mod.upd.boot.trial = false ∧ s.mod.readsRecord = true ∧ s.mod.selectedMap = some (slot,
      r) ∧ slot < 8) ∧
    (∃ (s : State), s.mod.unit = stSTARTING ∧ s.mod.lgr.restored = true ∧ s.mod.get Reg.UPD_STATE_STATE ≠ 2 ∧ (s.mod.triad = false
      ∨ s.mod.task.table = none)) :=
  ⟨⟨at' stSTARTING (fun m => ((m.setLstate 0 lnIDLE).setLstate 1 lnIDLE).setLstate 2 lnIDLE), by decide +kernel⟩,
    ⟨7, ⟨0, false, [0, 0, 0], [0, 0, 0], 1, 2, 3, [(2047, 5)], 9⟩, at' stSTARTING (fun m => (((m.setLstate 0 lnIDLE).setLstate 1
      lnIDLE).setLstate 2 lnIDLE).setLgr (fun l =>
      { l with maps := [(7, ⟨0, false, [0, 0, 0], [0, 0, 0], 1, 2, 3, [(2047, 5)], 9⟩)] }) |>.wr8 (copyAddr 5 2047 + 255) 9),
      by decide +kernel⟩,
    ⟨at' stSTARTING (fun m => (((m.setLstate 0 lnIDLE).setLstate 1 lnIDLE).setLstate 2 lnIDLE).setLgr (fun l =>
      { l with restored := true }) |>.put Reg.CYC_STATUS_ROLE cyMASTER), by decide +kernel⟩⟩

/-- States and operands that meet the hypotheses of Obligations.TwinMessages, clause by clause. -/
theorem witness_TwinMessages :
    (∃ (b : Heartbeat) (s : State), s.mod.hasTwin = true ∧ b.unit ≠ s.mod.ownNode) ∧
    (∃ (b : Heartbeat) (s : State), s.mod.hasTwin = true ∧ b.unit = s.mod.ownNode ∧ s.mod.twn.conflict = false) ∧
    (∃ (s : State), s.mod.hasTwin = true) ∧
    (∃ (s : State), s.mod.hasTwin = true) ∧
    (∃ (s : State), s.mod.hasTwin = true ∧ s.mod.get Reg.TWN_STATUS_LINK_LOST = 0 ∧ s.mod.get Reg.TWN_CTL_HB_LIMIT ≤ s.mod.get
      Reg.TWN_HEARTBEAT_AGE_LINK_AGE) :=
  ⟨⟨beat 2, twin stSTANDBY rlSTANDBY (id), by decide +kernel⟩,
    ⟨beat 1, twin stSTANDBY rlSTANDBY (id), by decide +kernel⟩,
    ⟨twin stSTANDBY rlSTANDBY (id), by decide +kernel⟩,
    ⟨twin stSTANDBY rlSTANDBY (fun m => m.put (laneOk 1) 1), by decide +kernel⟩,
    ⟨twin stSTANDBY rlSTANDBY (fun m => m.put Reg.TWN_HEARTBEAT_AGE_LINK_AGE (m.get Reg.TWN_CTL_HB_LIMIT) |>.put
      Reg.LGR_STATUS_MIRROR miRECEIVING), by decide +kernel⟩⟩

/-- States and operands that meet the hypotheses of Obligations.Claims, clause by clause. -/
theorem witness_Claims :
    (∃ (s : State), s.mod.hasTwin = true ∧ s.mod.twn.surrender = none ∧ s.mod.unit = stSTANDBY ∧ s.mod.role ≠ rlCLAIMING) ∧
    (∃ (s : State), s.mod.hasTwin = true ∧ s.mod.twn.surrender = none ∧ s.mod.unit = stSTANDBY ∧ s.mod.role = rlCLAIMING ∧
      s.mod.twn.claimNextCycle = false) ∧
    (∃ (r : Nat) (s : State), s.mod.hasTwin = true ∧ s.mod.twn.surrender = some r ∧ r ≠ 2) ∧
    (∃ (b : SurrenderBody) (s : State), s.mod.hasTwin = true ∧ s.mod.unit = stSTANDBY ∧ s.mod.role = rlSTANDBY ∧ b.unit +
      s.mod.ownNode = 3 ∧ s.mod.twn.surrenderSeen ≠ some s.mod.cycle) ∧
    (∃ (s : State), s.mod.hasTwin = true ∧ s.mod.unit = stSTANDBY ∧ s.mod.role = rlSTANDBY ∧ s.mod.twn.polledNow = false ∧ 1 ≤
      s.mod.twn.pollAge) ∧
    (∃ (s : State), s.mod.unit = stSTANDBY ∧ s.mod.role = rlCLAIMING ∧ s.mod.twn.polledNow = false ∧ 7 ≤ s.mod.twn.pollAge) :=
  ⟨⟨twin stSTANDBY rlSTANDBY (id), by decide +kernel⟩,
    ⟨twin stSTANDBY rlCLAIMING (id), by decide +kernel⟩,
    ⟨1, twin stSURRENDERED rlSTANDBY (fun m => m.setTwn (fun w => { w with surrender := some 1 })), by decide +kernel⟩,
    ⟨⟨2, 1, 4, 4⟩, twin stSTANDBY rlSTANDBY (fun m => m.put Reg.TWN_STATUS_CURRENT 1), by decide +kernel⟩,
    ⟨twin stSTANDBY rlSTANDBY (fun m => m.setTwn (fun w => { w with pollAge := 1 })), by decide +kernel⟩,
    ⟨twin stSTANDBY rlCLAIMING (fun m => m.setTwn (fun w => { w with pollAge := 7 })), by decide +kernel⟩⟩

/-- States and operands that meet the hypotheses of Obligations.TakeoverAndSwap, clause by clause. -/
theorem witness_TakeoverAndSwap :
    (∃ (path : Nat) (s : State), s.mod.granted = some path ∧ s.mod.unit = stSTANDBY) ∧
    (∃ (s : State), s.mod.twn.takingOver = true ∧ s.mod.unit = stACTIVE ∧ (∀ p ∈ s.mod.lockstepPairs, s.mod.lstate p ≠ lnSELFTEST)
      ∧ (s.mod.triad = false ∨ s.mod.task.table = none)) ∧
    (∃ (who : Initiator) (v : Word32) (s : State), s.mod.mayWrite who 0x80000 v.toNat = true ∧ Settled s.mod who 0x80000 v.toNat ∧
      bitOf v.toNat 1 = true) ∧
    (∃ (n : Nat) (s : State), s.mod.twn.swap = some (n, true) ∧ s.mod.twn.swapSent = false ∧ s.mod.quiet = true ∧ s.mod.get
      Reg.LGR_MIRROR_LAG_LAG = 0) ∧
    (∃ (s : State), s.mod.hasTwin = true ∧ s.mod.twn.surrender = some 2 ∧ s.mod.unit = stACTIVE ∧ s.mod.upd.fallbackDue = none) ∧
    (∃ (n : Nat) (s : State), s.mod.twn.swap = some (n, true) ∧ s.mod.twn.swapSent = false ∧ 4 ≤ n ∧ s.mod.upd.fallbackDue = none
      ∧ (s.mod.triad = false ∨ s.mod.task.table = none)) :=
  ⟨⟨pathSILENT, twin stSTANDBY rlCLAIMING (fun m => (m.put Reg.TWN_STATUS_CLAIMS 2).setTwn (fun w =>
      { w with claiming := some pathSILENT, pollAge := 5, peerPrt := 6144 }) |>.setLstate 2 lnIDLE |>.setMasterPort m.starPorter
      26), by decide +kernel⟩,
    ⟨twin stACTIVE rlACTIVE (fun m => (m.setLstate 2 lnIDLE).setTwn (fun w =>
      { w with takingOver := true, claiming := some pathSWAP })), by decide +kernel⟩,
    ⟨.pair 0, word Mod.reset 0x80000 2, twin stACTIVE rlACTIVE (id), by decide +kernel⟩,
    ⟨1, twin stACTIVE rlACTIVE (fun m => m.setTwn (fun w => { w with swap := some (1, true) })), by decide +kernel⟩,
    ⟨twin stACTIVE rlACTIVE (fun m => (m.setLstate 2 lnRUN).setTwn (fun w => { w with surrender := some 2 })), by decide +kernel⟩,
    ⟨4, twin stACTIVE rlACTIVE (fun m => m.setTwn (fun w => { w with swap := some (4, true) })), by decide +kernel⟩⟩

/-- States and operands that meet the hypotheses of Obligations.CycleStartAndSlots, clause by clause. -/
theorem witness_CycleStartAndSlots :
    (∃ (s : State), s.mod.cyc.started = true ∧ s.mod.cyc.masterNext = false ∧ (s.mod.mastering = true ∨ s.mod.bcQ * 250000 ≤ 2 *
      (s.mod.now - s.mod.cyc.cycleStart)) ∧ s.mod.upd.fallbackDue = none ∧ s.mod.updState ≠ upTRIAL) ∧
    (∃ (s : State), s.mod.cyc.started = false ∧ s.mod.cyc.masterNext = false) ∧
    (∃ (g : Fin 8), g.val ≠ 0) ∧
    (∃ (ch : Side) (e : Nat) (x : SchedEntry) (s : State), s.mod.entryNow (s.mod.tableNow ch.val) e = some x ∧ s.mod.sends ch.val
      = true ∧ x.type = 2 ∧ x.node = 0 ∧ (∃ n ∈ x.sets, ∃ d, s.mod.ds n = some d ∧ d.outbound = true)) :=
  ⟨⟨master stACTIVE (fun m => ((m.put Reg.TIM_CTL_STEP 1).put Reg.SYS_PROFILE_TWIN_POS 1).setCyc (fun c =>
      { c with started := true })), by decide +kernel⟩,
    ⟨State.reset, by decide +kernel⟩,
    ⟨7, by decide +kernel⟩,
    ⟨1, 0, ⟨0, 0, 10, 2, 0, 0, 0, 0, [6]⟩, master stACTIVE (sched [⟨0, 0, 10, 2, 0, 0, 0, 0, [6]⟩]), by decide +kernel⟩⟩

/-- States and operands that meet the hypotheses of Obligations.InboundData, clause by clause. -/
theorem witness_InboundData :
    (∃ (ch : Side) (e : Nat) (w : Nat) (h : FrameHdr) (r : DsRecord) (x : SchedEntry) (d : DsDesc) (s : State), s.mod.copies =
      true ∧ s.mod.entryNow (s.mod.tableNow ch.val) e = some x ∧ x.type = 2 ∧ x.node ≠ 0 ∧ x.sets = [w] ∧ w < 1024 ∧ s.mod.ds w =
      some d ∧ d.ds = w ∧ d.outbound = false ∧ d.arrival = false ∧ s.mod.discards h ch.val = false ∧ h.subtype = 2 ∧
      (s.mod.mastering = false ∨ s.mod.isNamed x.node = false) ∧ r.ds = w ∧ r.len = d.len ∧ r.payload.length = d.len ∧ r.dchk = dchk
      r.ds h.src h.cycle r.payload) ∧
    (∃ (ch : Side) (e : Nat) (w : Nat) (h : FrameHdr) (r : DsRecord) (x : SchedEntry) (d : DsDesc) (s : State), s.mod.copies =
      true ∧ s.mod.entryNow (s.mod.tableNow ch.val) e = some x ∧ x.type = 2 ∧ x.node ≠ 0 ∧ x.sets = [w] ∧ s.mod.ds w = some d ∧
      d.outbound = false ∧ s.mod.discards h ch.val = false ∧ h.subtype = 2 ∧ w ∉ s.mod.cyc.arrived ∧ (s.mod.mastering = false ∨
      s.mod.isNamed x.node = false) ∧ r.ds = w ∧ r.len = d.len ∧ r.payload.length = d.len ∧ r.dchk ≠ dchk r.ds h.src h.cycle
      r.payload) ∧
    (∃ (ch : Side) (e : Nat) (h : FrameHdr) (x : SchedEntry) (s : State), s.mod.copies = true ∧ s.mod.entryNow (s.mod.tableNow
      ch.val) e = some x ∧ x.type = 2 ∧ x.node ≠ 0 ∧ s.mod.discards h ch.val = true) ∧
    (∃ (ch : Side) (e : Nat) (w : Nat) (x : SchedEntry) (d : DsDesc) (s : State), s.mod.copies = true ∧ s.mod.entryNow
      (s.mod.dueTable ch.val) e = some x ∧ x.type = 2 ∧ x.node ≠ 0 ∧ x.sets = [w] ∧ w < 1024 ∧ s.mod.ds w = some d ∧ d.ds = w ∧
      d.outbound = false ∧ w ∉ s.mod.cyc.stale ∧ w ∉ s.mod.cyc.arrived ∧ (s.mod.mastering = false ∨ s.mod.isNamed x.node = false) ∧
      s.mod.missesOf w < d.missLimit) ∧
    (∃ (d : DsDesc) (s : State), s.mod.unit = stACTIVE ∧ s.mod.cyc.admitDone = false ∧ s.mod.inbound = [d] ∧ d.ds < 1024 ∧
      s.mod.ds d.ds = some d ∧ s.mod.dsStatus d.ds = 0) ∧
    (∃ (d : DsDesc) (s : State), s.mod.copies = true ∧ s.mod.localSet false = some d) ∧
    (∃ (d : DsDesc) (s : State), s.mod.copies = true ∧ s.mod.localSet false = some d ∧ d.ds < 1024 ∧ s.mod.ds d.ds = some d ∧
      s.mod.get Reg.DIO_CTL_ENABLE = 1) :=
  ⟨⟨1, 0, 1023, hdr 2 5 1, ⟨1023, 1, 24, List.replicate 24 9, dchk 1023 5 0 (List.replicate 24 9)⟩, ⟨0, 0, 10, 2, 0, 0, 0, 5,
      [1023]⟩, dIn, master stACTIVE (fun m => (id) (sched [⟨0, 0, 10, 2, 0, 0, 0, 5, [1023]⟩] m)), by decide +kernel⟩,
    ⟨1, 0, 1023, hdr 2 5 1, ⟨1023, 1, 24, List.replicate 24 9, dchk 1023 5 0 (List.replicate 24 9) + 1⟩, ⟨0, 0, 10, 2, 0, 0, 0, 5,
      [1023]⟩, dIn, master stACTIVE (fun m => (id) (sched [⟨0, 0, 10, 2, 0, 0, 0, 5, [1023]⟩] m)), by decide +kernel⟩,
    ⟨1, 0, { hdr 2 5 1 with cycle := 9 }, ⟨0, 0, 10, 2, 0, 0, 0, 5, [1023]⟩, master stACTIVE (fun m => (id) (sched [⟨0, 0, 10, 2,
      0, 0, 0, 5, [1023]⟩] m)), by decide +kernel⟩,
    ⟨1, 0, 1023, ⟨0, 0, 10, 2, 0, 0, 0, 5, [1023]⟩, dIn, master stACTIVE (fun m => (fun m => m.setMisses 1023 2) (sched [⟨0, 0,
      10, 2, 0, 0, 0, 5, [1023]⟩] m)), by decide +kernel⟩,
    ⟨{ dIn with local_ := false }, master stACTIVE (fun m => m.setCyc (fun c =>
      { c with ioc := some ⟨1, [{ dIn with local_ := false }]⟩ })), by decide +kernel⟩,
    ⟨dIn, master stACTIVE (sched []), by decide +kernel⟩,
    ⟨dIn, master stACTIVE (fun m => (sched [] m).put Reg.DIO_CTL_ENABLE 1), by decide +kernel⟩⟩

/-- States and operands that meet the hypotheses of Obligations.ChannelsAndCases, clause by clause. -/
theorem witness_ChannelsAndCases :
    (∃ (ch : Side) (s : State), s.mod.cyc.channels.length = 2 ∧ (s.mod.chan ch.val).lost = false) ∧
    (∃ (ch : Side) (s : State), s.mod.cyc.channels.length = 2 ∧ (s.mod.chan ch.val).lost = true ∧ s.mod.chanForced ch.val = false) ∧
    (∃ (who : Initiator) (v : Word32) (s : State), s.mod.mayWrite who 0x60000 v.toNat = true ∧ Settled s.mod who 0x60000 v.toNat ∧
      bitOf v.toNat 5 = true ∧ s.mod.mastering = true ∧ s.mod.get Reg.CYC_CTL_AUTO_RETURN = 0 ∧ s.mod.kindNow ≠ 0 ∧ (∀ c ∈
      s.mod.cyc.channels, c.lost = false)) ∧
    (∃ (who : Initiator) (v : Word32) (s : State), s.mod.mayWrite who 0x6000C v.toNat = true ∧ s.mod.get
      Reg.CYC_SCHED_SELECT_PENDING = 0) ∧
    (∃ (who : Initiator) (v : Word32) (s : State), s.mod.mayWrite who 0x6000C v.toNat = true ∧ s.mod.get
      Reg.CYC_SCHED_SELECT_PENDING = 1) ∧
    (∃ (ch : Side) (port : Port) (h : FrameHdr) (b : PollBody) (s : State), (s.mod.cycRole = cyLISTENING ∨ s.mod.cycRole =
      cySTANDBY) ∧ port.val ≠ 24 ∧ port.val ≠ 25 ∧ frameWellFormed h ch.val = true ∧ h.subtype = 1 ∧ h.case_ < 32 ∧ h.cycle < 2 ^ 32
      ∧ b.fallback < 3) ∧
    (∃ (ch : Side) (h : FrameHdr), (frameWellFormed h ch.val = false ∨ h.subtype ≠ 1)) ∧
    (∃ (s : State), s.mod.mastering = true ∧ s.mod.cyc.leaderSet = true) :=
  ⟨⟨1, master stACTIVE (sched []), by decide +kernel⟩,
    ⟨1, master stACTIVE (fun m => (sched [] m).setChan 1 (fun _ => ⟨true, false⟩) |>.put Reg.CYC_CTL_AUTO_RETURN 1 |>.put
      Reg.CYC_STATUS_FALLBACK 2), by decide +kernel⟩,
    ⟨.pair 0, word (master stACTIVE (fun m => m.put Reg.CYC_CTL_AUTO_RETURN 0)).mod 0x60000 32, master stACTIVE (fun m => (sched
      [] m).put Reg.CYC_STATUS_FALLBACK 1 |>.put Reg.CYC_CTL_AUTO_RETURN 0), by decide +kernel⟩,
    ⟨.pair 0, 0, master stACTIVE (sched []), by decide +kernel⟩,
    ⟨.pair 0, 0, master stACTIVE (fun m => (sched [] m).put Reg.CYC_SCHED_SELECT_PENDING 1), by decide +kernel⟩,
    ⟨1, 23, hdr 1 5 1, ⟨0,0,0,false,0,2,0,1,9,4,8,[]⟩, master stACTIVE (fun m => (sched [] m).put Reg.CYC_STATUS_ROLE
      cyLISTENING), by decide +kernel⟩,
    ⟨1, hdr 2 5 1, by decide +kernel⟩,
    ⟨master stACTIVE (fun m => m.setCyc (fun c => { c with leaderSet := true })), by decide +kernel⟩⟩

/-- States and operands that meet the hypotheses of Obligations.DiscoveryAndInauguration, clause by clause. -/
theorem witness_DiscoveryAndInauguration :
    (∃ (ch : Side) (port : Port) (h : FrameHdr) (b : ReplyBody) (e : NodeEntry) (s : State), s.mod.mastering = true ∧
      s.mod.discards h ch.val = false ∧ h.subtype = 3 ∧ s.mod.cyc.nodes.find? (fun e => e.idHash == b.idHash && e.port ch.val ==
      port.val) = some e ∧ b.linkDelay ≠ 0xFFFFFFFF ∧ b.linkDelay ≤ e.maxDelay ∧ b.ratePpb.natAbs ≤ 200000 ∧ bitOf e.cases
      s.mod.caseNow = true ∧ (b.node = e.node ∨ b.node = 0x3FF)) ∧
    (∃ (ch : Side) (port : Port) (h : FrameHdr) (b : ReplyBody) (s : State), s.mod.mastering = true ∧ s.mod.discards h ch.val =
      false ∧ h.subtype = 3 ∧ s.mod.cyc.nodes.find? (fun e => e.idHash == b.idHash && e.port ch.val == port.val) = none) ∧
    (∃ (s : State), s.mod.mastering = true ∧ s.mod.inaug.stable < 3) ∧
    (∃ (s : State), s.mod.mastering = true ∧ s.mod.inaug.running = true) ∧
    (∃ (ch : Side) (rear : Bool) (s : State), s.mod.cascadePort ch.val ≠ some (24 + b2n rear)) ∧
    (∃ (s : State), s.mod.mastering = false ∧ s.mod.cycRole = cyLISTENING ∧ s.mod.cyc.started = true) ∧
    (∃ (s : State), s.mod.mastering = true ∧ s.mod.inaug.running = true ∧ s.mod.inaug.agreed = false ∧ s.mod.inaug.stable = 2 ∧
      s.mod.inaugView = s.mod.inaug.view ∧ s.mod.inaug.view.length ≤ 9 ∧ (s.mod.inaug.view.map (·.id)).Nodup) :=
  ⟨⟨1, 3, hdr 3 5 1, ⟨5, false, 1000, -200000, [7]⟩, ⟨5, 3, 3, 1, false, 1000, [7]⟩, master stACTIVE (fun m => (sched []
      m).setCyc (fun c => { c with nodes := [⟨5, 3, 3, 1, false, 1000, [7]⟩] })), by decide +kernel⟩,
    ⟨1, 3, hdr 3 5 1, ⟨5, false, 1000, -200000, [7]⟩, master stACTIVE (sched []), by decide +kernel⟩,
    ⟨master stACTIVE (fun m => m.setInaug (fun i => { i with stable := 2 })), by decide +kernel⟩,
    ⟨master stACTIVE (fun m => m.setInaug (fun i => { i with running := true })), by decide +kernel⟩,
    ⟨1, true, master stACTIVE (id), by decide +kernel⟩,
    ⟨master stACTIVE (fun m => (m.put Reg.CYC_STATUS_ROLE cyLISTENING).setCyc (fun c => { c with started := true })),
      by decide +kernel⟩,
    ⟨master stACTIVE (fun m => let n := m.setInaug (fun i => { i with running := true, stable := 2 }); n.setInaug (fun i =>
      { i with view := n.inaugView })), by decide +kernel⟩⟩

/-- States and operands that meet the hypotheses of Obligations.PorterFrames, clause by clause. -/
theorem witness_PorterFrames :
    (∃ (b : Side) (p : Port) (f : PorterFrame) (d : WindowDir) (i : Nat) (c0 : Nat) (w : Window) (s : State), s.mod.prt.length = 2
      ∧ (s.mod.prtState b.val = psSYNC ∨ s.mod.prtState b.val = psFREERUN) ∧ s.mod.portPresent p.val = true ∧ s.mod.portUsable b.val
      p.val = true ∧ (∀ g ∈ [Reg.PRT_Pp_STATUS_TEST, Reg.PRT_Pp_STATUS_UNINAUGURATED, Reg.PRT_Pp_STATUS_EXCLUDED], s.mod.get g b.val
      p.val = 0) ∧ (s.mod.prtSt b.val).next = none ∧ f.good = true ∧ f.body = .data ∧ s.mod.isUnitPort b.val p.val = false ∧
      (s.mod.prtSt b.val).current = some d ∧ openWindow (s.mod.windowsOf b.val p.val) d.bcQ d.macroN f.cycle f.tick = some (i, w,
      c0) ∧ w.kind = 2 ∧ (p.val, i, c0) ∉ (s.mod.prtSt b.val).used) ∧
    (∃ (b : Side) (p : Port) (f : PorterFrame) (d : WindowDir) (s : State), s.mod.prt.length = 2 ∧ (s.mod.prtState b.val = psSYNC
      ∨ s.mod.prtState b.val = psFREERUN) ∧ s.mod.portPresent p.val = true ∧ s.mod.portUsable b.val p.val = true ∧ (s.mod.prtSt
      b.val).next = none ∧ f.good = true ∧ f.body = .data ∧ s.mod.lateCounts b.val p.val = true ∧ (s.mod.prtSt b.val).current = some
      d ∧ openWindow (s.mod.windowsOf b.val p.val) d.bcQ d.macroN f.cycle f.tick = none) ∧
    (∃ (b : Side) (p : Port) (f : PorterFrame) (s : State), s.mod.prtState b.val = psLISTEN ∧ s.mod.portPresent p.val = true ∧
      s.mod.portUsable b.val p.val = true ∧ (∀ g ∈ [Reg.PRT_Pp_STATUS_TEST, Reg.PRT_Pp_STATUS_UNINAUGURATED], s.mod.get g b.val
      p.val = 0) ∧ (s.mod.prtSt b.val).next = none ∧ f.good = true ∧ s.mod.masterPortAllowed b.val p.val = true) ∧
    (∃ (b : Side) (c : Nat) (f : PorterFrame) (s : State), s.mod.prtState b.val = psRELAY ∧ s.mod.cascadeOf b.val = some c ∧
      s.mod.get Reg.PRT_Pp_STATUS_TEST b.val 26 = 0 ∧ f.good = true ∧ f.body = .data) ∧
    (∃ (b : Side) (p : Port) (i : Nat) (s : State), alGet (s.mod.prtSt b.val).busy p.val = some i ∧ s.mod.lateCounts b.val p.val =
      false) :=
  ⟨⟨1, 3, pfr 100 .data, wdir, 0, 0, ⟨100, 0, 50, 0x1F, 2, 0⟩, porter psSYNC (id), by decide +kernel⟩,
    ⟨1, 3, pfr 99 .data, wdir, porter psFREERUN (fun m => m.setPrt 1 (fun p => { p with nvLimit := 1 })), by decide +kernel⟩,
    ⟨1, 3, pfr 99 (.poll poll0), porter psLISTEN (id), by decide +kernel⟩,
    ⟨1, 24, pfr 99 .data, porter psRELAY (fun m => m.setPrt 1 (fun p => { p with nvMode := 1, nvCascade := 1 })),
      by decide +kernel⟩,
    ⟨1, 3, 0, porter psSYNC (fun m => (m.setPrt 1 (fun p => { p with busy := [(3, 0)] })).put Reg.PRT_Pp_STATUS_EXCLUDED 1 1 3),
      by decide +kernel⟩⟩

/-- States and operands that meet the hypotheses of Obligations.PorterStates, clause by clause. -/
theorem witness_PorterStates :
    (∃ (b : Side) (s : State), s.mod.prtState b.val = psLOADING) ∧
    (∃ (b : Side) (s : State), (s.mod.prtState b.val = psSYNC ∨ s.mod.prtState b.val = psFREERUN)) ∧
    (∃ (b : Side) (s : State), s.mod.prtState b.val = psFREERUN) ∧
    (∃ (b : Side) (s : State), s.mod.prtState b.val = psCOLDHOLD) ∧
    (∃ (b : Side) (s : State), s.mod.prtState b.val ≠ psRESET) ∧
    (∃ (b : Side) (s : State), s.mod.prtState b.val = psRESET) ∧
    (∃ (b : Side) (s : State), s.mod.prt.length = 2 ∧ s.mod.prtState b.val ≠ psRESET ∧ s.mod.prtState b.val ≠ psLOADING) ∧
    (∃ (b : Side) (p : Nat) (s : State), s.mod.cascadeOf b.val = some p ∧ s.mod.prtState b.val ≠ psRESET ∧ s.mod.prtState b.val ≠
      psLOADING) ∧
    (∃ (b : Side) (p : Port) (s : State), s.mod.prtState b.val ≠ psRESET ∧ s.mod.prtState b.val ≠ psLOADING ∧ s.mod.portPresent
      p.val = true ∧ (p.val < 24 ∨ p.val = 26)) ∧
    (∃ (s : State), s.mod.cycRole = cyLISTENING ∧ s.mod.cyc.foreignPoll = false ∧ s.mod.cyc.coldstartSent = false ∧ s.mod.unit ≠
      stDEBUG ∧ s.mod.twn.conflict = false ∧ (∀ b : Side, (s.mod.prtSt b.val).current.map (·.id) = s.mod.cyc.dir.map (·.id))) ∧
    (∃ (s : State), s.mod.cyc.coldstartSent = true) :=
  ⟨⟨1, porter psLOADING (id), by decide +kernel⟩,
    ⟨1, porter psFREERUN (id), by decide +kernel⟩,
    ⟨1, porter psFREERUN (id), by decide +kernel⟩,
    ⟨1, porter psCOLDHOLD (id), by decide +kernel⟩,
    ⟨1, porter psSYNC (id), by decide +kernel⟩,
    ⟨1, porter psRESET (id), by decide +kernel⟩,
    ⟨1, porter psSYNC (id), by decide +kernel⟩,
    ⟨1, 24, porter psSYNC (fun m => m.setPrt 1 (fun p => { p with nvCascade := 1 })), by decide +kernel⟩,
    ⟨1, 26, porter psSYNC (id), by decide +kernel⟩,
    ⟨master stSTARTING (fun m => m.put Reg.CYC_STATUS_ROLE cyLISTENING), by decide +kernel⟩,
    ⟨master stSTARTING (fun m => (m.put Reg.CYC_STATUS_ROLE cyLISTENING).setCyc (fun c => { c with coldstartSent := true })),
      by decide +kernel⟩⟩

/-- States and operands that meet the hypotheses of Obligations.CanSending, clause by clause. -/
theorem witness_CanSending :
    (∃ (n : Ctrl) (x : CanMatrix) (s : State), n.val < s.mod.canCount ∧ s.mod.can.length = 8 ∧ (s.mod.canSt n.val).matrix = some
      x) ∧
    (∃ (n : Ctrl) (col : Fin 32) (x : CanMatrix) (k : Nat) (s : State), s.mod.can.length = 8 ∧ (s.mod.canSt n.val).matrix = some x
      ∧ s.mod.get Reg.CAN_STATUS_MATRIX_RUN n.val = 1 ∧ col.val < x.columns.length ∧ (x.cells.getD (s.mod.get Reg.CAN_STATUS_ROW
      n.val) []).getD col.val 0xFF ≠ 0xFF ∧ (x.cells.getD (s.mod.get Reg.CAN_STATUS_ROW n.val) []).getD col.val 0xFF % 64 = k ∧
      s.mod.mbState n.val k = mbARMED ∧ s.mod.canOnBus n.val = true ∧ s.mod.get Reg.CAN_STATUS_EFF_MODE n.val = 0 ∧ (s.mod.canSt
      n.val).waits = false ∧ (s.mod.canSt n.val).attempt = none) ∧
    (∃ (n : Ctrl) (a : CanAttempt) (s : State), s.mod.can.length = 8 ∧ (s.mod.canSt n.val).attempt = some a ∧ a.mailbox < 64 ∧
      s.mod.mbState n.val a.mailbox = mbSENDING ∧ (s.mod.canSt n.val).rearm = false ∧ s.mod.unit ≠ stSAFE ∧ s.mod.unit ≠ stDEBUG ∧
      (s.mod.unit = stACTIVE → ∀ p : Pair, s.mod.heldPair p.val = true → s.mod.writesMailbox p.val n.val a.mailbox = false)) ∧
    (∃ (n : Ctrl) (a : CanAttempt) (s : State), s.mod.can.length = 8 ∧ (s.mod.canSt n.val).attempt = some a ∧ a.mailbox < 64) ∧
    (∃ (n : Ctrl) (a : CanAttempt) (s : State), s.mod.can.length = 8 ∧ (s.mod.canSt n.val).attempt = some a ∧ a.mailbox < 64 ∧
      s.mod.mbState n.val a.mailbox = mbSENDING ∧ s.mod.unit ≠ stSAFE ∧ s.mod.unit ≠ stDEBUG ∧ (s.mod.unit = stACTIVE → ∀ p : Pair,
      s.mod.heldPair p.val = true → s.mod.writesMailbox p.val n.val a.mailbox = false)) :=
  ⟨⟨2, mx, can2 (fun m => (m.setMbState 2 63 mbARMED).wr8 (mbAddr 2 63 + 6) 1), by decide +kernel⟩,
    ⟨2, 0, mx, 63, can2 (fun m => m.setMbState 2 63 mbARMED), by decide +kernel⟩,
    ⟨2, att, can2 (fun m => (m.setMbState 2 63 mbSENDING).setCan 2 (fun c => { c with attempt := some att })), by decide +kernel⟩,
    ⟨2, att, can2 (fun m => (m.setMbState 2 63 mbSENDING).setCan 2 (fun c => { c with attempt := some att })), by decide +kernel⟩,
    ⟨2, att, can2 (fun m => (m.setMbState 2 63 mbSENDING).setCan 2 (fun c => { c with attempt := some att })), by decide +kernel⟩⟩

/-- States and operands that meet the hypotheses of Obligations.CanErrorStates, clause by clause. -/
theorem witness_CanErrorStates :
    (∃ (n : Ctrl) (s : State), s.mod.can.length = 8 ∧ s.mod.canState n.val = cnACTIVE ∧ s.mod.get Reg.CAN_STATUS_EFF_MODE n.val =
      0) ∧
    (∃ (who : Initiator) (n : Ctrl) (v : Word32) (s : State), n.val < s.mod.canCount ∧ s.mod.mayWrite who (0x90000 + 0x1000 *
      n.val) v.toNat = true ∧ Settled s.mod who (0x90000 + 0x1000 * n.val) v.toNat ∧ bitOf v.toNat 4 = true) ∧
    (∃ (n : Ctrl) (s : State), s.mod.can.length = 8 ∧ s.mod.canState n.val = cnRECOVERING) ∧
    (∃ (n : Ctrl) (s : State), s.mod.can.length = 8 ∧ s.mod.canState n.val = cnINTEGRATING) ∧
    (∃ (n : Ctrl) (s : State), n.val < s.mod.canCount) :=
  ⟨⟨2, can2 (id), by decide +kernel⟩,
    ⟨.pair 0, 2, word Mod.reset 0x92000 16, st (fun m => m.put Reg.CAN_STATUS_STATE cnBUSOFF 2), by decide +kernel⟩,
    ⟨2, can2 (fun m => (m.put Reg.CAN_STATUS_STATE cnRECOVERING 2).setMbState 2 63 mbHELD), by decide +kernel⟩,
    ⟨2, can2 (fun m => m.put Reg.CAN_STATUS_STATE cnINTEGRATING 2), by decide +kernel⟩,
    ⟨2, can2 (id), by decide +kernel⟩⟩

/-- States and operands that meet the hypotheses of Obligations.CanReceiving, clause by clause. -/
theorem witness_CanReceiving :
    (∃ (n : Ctrl) (f : CanFrame) (x : CanFilter) (i : Nat) (s : State), s.mod.can.length = 8 ∧ s.mod.canOnBus n.val = true ∧
      s.mod.get Reg.CAN_STATUS_EFF_MODE n.val ≠ 3 ∧ (f.fdf = true → s.mod.get Reg.CAN_CTL_FD_EN n.val = 1) ∧ s.mod.unit ≠ stSTANDBY
      ∧ ((((s.mod.canSt n.val).matrix.map (·.filters)).getD []).zipIdx).find? (fun y => y.1.fits f) = some (x, i) ∧ bitOf x.flags 1
      = true ∧ bitOf x.flags 2 = false ∧ s.mod.get Reg.CAN_RX_STATUS_WR n.val < 128) ∧
    (∃ (n : Ctrl) (f : CanFrame) (s : State), s.mod.canOnBus n.val = true ∧ s.mod.get Reg.CAN_STATUS_EFF_MODE n.val ≠ 3 ∧
      s.mod.get Reg.CAN_STATUS_EFF_MODE n.val ≠ 0 ∧ (f.fdf = true → s.mod.get Reg.CAN_CTL_FD_EN n.val = 1)) ∧
    (∃ (who : Initiator) (n : Ctrl) (v : Word32) (s : State), n.val < s.mod.canCount ∧ s.mod.mayWrite who (0x90404 + 0x1000 *
      n.val) v.toNat = true ∧ s.mod.triad = false) ∧
    (∃ (who : Initiator) (n : Ctrl) (v : Word32) (s : State), n.val < s.mod.canCount ∧ s.mod.mayWrite who (0x90404 + 0x1000 *
      n.val) v.toNat = true ∧ s.mod.triad = true) ∧
    (∃ (s : State), s.mod.can.length = 8) :=
  ⟨⟨2, cfr, ⟨0x123, 0x1FFFFFFF, 3⟩, 0, can2 (fun m => m.put Reg.CAN_RX_STATUS_WR 127 2), by decide +kernel⟩,
    ⟨2, cfr, can2 (fun m => m.put Reg.CAN_STATUS_EFF_MODE 2 2 |>.setCan 2 (fun c => { c with matrix := none })),
      by decide +kernel⟩,
    ⟨.pair 0, 2, 127, can2 (fun m => m.wr8 (rqAddr 2 127 + 7) 1), by decide +kernel⟩,
    ⟨.pair 0, 2, 127, can2 (fun m => m.put Reg.SYS_PROFILE_PROFILE 1), by decide +kernel⟩,
    ⟨st (fun m => { m with now := 999 }), by decide +kernel⟩⟩

/-- States and operands that meet the hypotheses of Obligations.GatewayPhases, clause by clause. -/
theorem witness_GatewayPhases :
    (∃ (k : Fin 8) (g : GwMap) (p : GwPhase) (s : State), s.mod.gw.map = some g ∧ g.phases[k.val]? = some p ∧ s.mod.gwMayRun =
      true ∧ s.mod.cycle % max 1 p.period = p.phase ∧ s.mod.gw.run = none) ∧
    (∃ (k : Fin 8) (g : GwMap) (p : GwPhase) (e : GwEntry) (i : Nat) (s : State), s.mod.gw.map = some g ∧ g.phases[k.val]? = some
      p ∧ s.mod.gwMayRun = true ∧ s.mod.cycle % max 1 p.period = p.phase ∧ s.mod.gw.run = none ∧ ((g.entries.zipIdx).drop
      p.first).take p.count = [(e, i)] ∧ e.srcKind = 3) ∧
    (∃ (k : Fin 8) (g : GwMap) (p : GwPhase) (e : GwEntry) (i : Nat) (s : State), s.mod.gw.map = some g ∧ g.phases[k.val]? = some
      p ∧ s.mod.gwMayRun = true ∧ s.mod.cycle % max 1 p.period = p.phase ∧ s.mod.gw.run = none ∧ ((g.entries.zipIdx).drop
      p.first).take p.count = [(e, i)] ∧ e.srcKind = 2 ∧ (s.mod.ds e.srcId = none ∨ ∃ d, s.mod.ds e.srcId = some d ∧ bitOf
      (s.mod.dsStatus d.ds) 0 = false)) ∧
    (∃ (r : GwRun) (s : State), s.mod.gw.run = some r ∧ s.mod.gw.map = some r.map ∧ s.mod.gwMayRun = true) ∧
    (∃ (r : GwRun) (s : State), s.mod.gw.run = some r ∧ s.mod.gw.map = some r.map ∧ s.mod.gwMayRun = true ∧ (∀ i ∈ r.entries, ∃ e,
      r.map.entries[i]? = some e ∧ e.dstKind = 4 ∧ ∀ c ∈ e.dstCells, c.1 < 0x10000)) ∧
    (∃ (r : GwRun) (i : Nat) (e : GwEntry) (w : Nat) (s : State), s.mod.gw.run = some r ∧ s.mod.gw.map = some r.map ∧
      s.mod.gwMayRun = true ∧ r.entries = [i] ∧ r.map.entries[i]? = some e ∧ e.dstKind = 5 ∧ bitOf e.flags 6 = false ∧
      f2ContainerWords e.dstBit e.dstLen = 1 ∧ s.mod.window e.dstOff 2 = some w ∧ s.mod.get Reg.LBB_WINw_CFG_WR w = 1 ∧ s.mod.f2Off
      = false ∧ s.mod.f2Free = true) ∧
    (∃ (r : GwRun) (s : State), s.mod.gw.run = some r ∧ s.mod.gwMayRun = false) ∧
    (∃ (r : GwRun) (s : State), s.mod.gw.run = some r) ∧
    (∃ (s : State), s.mod.gw.run = none) :=
  ⟨⟨0, gmap (gwe 3 4), ⟨0, 1, 0, 0, 1⟩, gws (gwe 3 4) (none) (fun m => (id) ((m.put Reg.CYC_STATUS_ROLE cyMASTER).put
      Reg.GW_CTL_ENABLE 1)), by decide +kernel⟩,
    ⟨0, gmap (gwe 3 4), ⟨0, 1, 0, 0, 1⟩, gwe 3 4, 0, gws (gwe 3 4) (none) (fun m => (fun m => (m.wr8 (inBank 0 + 0x100) 0xFF).wr8
      (inBank 0 + 0x101) 0x7F) ((m.put Reg.CYC_STATUS_ROLE cyMASTER).put Reg.GW_CTL_ENABLE 1)), by decide +kernel⟩,
    ⟨0, gmap (gwe 2 4), ⟨0, 1, 0, 0, 1⟩, gwe 2 4, 0, gws (gwe 2 4) (none) (fun m => (id) ((m.put Reg.CYC_STATUS_ROLE cyMASTER).put
      Reg.GW_CTL_ENABLE 1)), by decide +kernel⟩,
    ⟨⟨0, putCells [] (gwe 3 4).dstCells 0x1234, [0], gmap (gwe 3 4)⟩, gws (gwe 3 4) (some ⟨0, putCells [] (gwe 3 4).dstCells
      0x1234, [0], gmap (gwe 3 4)⟩) (fun m => (id) ((m.put Reg.CYC_STATUS_ROLE cyMASTER).put Reg.GW_CTL_ENABLE 1)),
      by decide +kernel⟩,
    ⟨⟨0, putCells [] (gwe 3 4).dstCells 0x1234, [0], gmap (gwe 3 4)⟩, gws (gwe 3 4) (some ⟨0, putCells [] (gwe 3 4).dstCells
      0x1234, [0], gmap (gwe 3 4)⟩) (fun m => (id) ((m.put Reg.CYC_STATUS_ROLE cyMASTER).put Reg.GW_CTL_ENABLE 1)),
      by decide +kernel, by decide +kernel, by decide +kernel, by decide +kernel⟩,
    ⟨⟨0, putCells [] (gwe 3 5).dstCells 0x1234, [0], gmap (gwe 3 5)⟩, 0, gwe 3 5, 15, gws (gwe 3 5) (some ⟨0, putCells [] (gwe 3
      5).dstCells 0x1234, [0], gmap (gwe 3 5)⟩) (fun m => ((bridge id).mod.put Reg.CYC_STATUS_ROLE cyMASTER |>.put Reg.GW_CTL_ENABLE
      1 |>.setGw (fun _ => m.gw))), by decide +kernel⟩,
    ⟨⟨0, putCells [] (gwe 3 4).dstCells 0x1234, [0], gmap (gwe 3 4)⟩, gws (gwe 3 4) (some ⟨0, putCells [] (gwe 3 4).dstCells
      0x1234, [0], gmap (gwe 3 4)⟩) id, by decide +kernel⟩,
    ⟨⟨0, putCells [] (gwe 3 4).dstCells 0x1234, [0], gmap (gwe 3 4)⟩, gws (gwe 3 4) (some ⟨0, putCells [] (gwe 3 4).dstCells
      0x1234, [0], gmap (gwe 3 4)⟩) (fun m => (id) ((m.put Reg.CYC_STATUS_ROLE cyMASTER).put Reg.GW_CTL_ENABLE 1)),
      by decide +kernel⟩,
    ⟨State.reset, by decide +kernel⟩⟩

/-- States and operands that meet the hypotheses of Obligations.BackplaneAccess, clause by clause. -/
theorem witness_BackplaneAccess :
    (∃ (who : Initiator) (addr : Addr) (s : State), f2Base ≤ addr.toNat ∧ addr.toNat < f2Base + 0x1000000 ∧ who ≠ .debug ∧
      (s.mod.get Reg.LBB_CTL_ENABLE = 0 ∨ s.mod.unit = stSTANDBY)) ∧
    (∃ (who : Initiator) (op : BusOp) (addr : Addr) (a w : Nat) (s : State), addr.toNat = f2Base + a ∧ a < 0x1000000 ∧ who ≠
      .debug ∧ s.mod.f2Off = false ∧ s.mod.window a (opWidth op) = some w ∧ s.mod.winAllows w op = true ∧ s.mod.f2May who op a =
      false) ∧
    (∃ (who : Initiator) (op : BusOp) (addr : Addr) (s : State), f2Base ≤ addr.toNat ∧ addr.toNat < f2Base + 0x1000000 ∧
      s.mod.f2Off = false ∧ (who = .debug → s.mod.f2May who op (addr.toNat - f2Base) = true) ∧ (∀ w, s.mod.window (addr.toNat -
      f2Base) (opWidth op) = some w → s.mod.winAllows w op = false)) ∧
    (∃ (op : BusOp) (addr : Addr) (a : Nat) (w : Nat) (s : State), addr.toNat = f2Base + a ∧ a < 0x1000000 ∧ s.mod.f2Off = false ∧
      s.mod.f2Refused .mc op a = false ∧ s.mod.window a (opWidth op) = some w ∧ s.mod.winAllows w op = true ∧ s.mod.f2Free = true ∧
      s.mod.lbb.waiting = [] ∧ s.mod.get Reg.LBB_STATUS_BR = 0 ∧ s.mod.bufWord a = none ∧ opWidth op = 2) ∧
    (∃ (who : Initiator) (op : BusOp) (addr : Addr) (a : Nat) (w : Nat) (s : State), addr.toNat = f2Base + a ∧ a < 0x1000000 ∧
      s.mod.f2Off = false ∧ s.mod.f2Refused who op a = false ∧ s.mod.window a (opWidth op) = some w ∧ s.mod.winAllows w op = true ∧
      s.mod.lbb.granted = true ∧ s.mod.get Reg.LBB_STATUS_BR = 1 ∧ s.mod.f2Queue < 32) ∧
    (∃ (p : Pair) (k : Width) (addr : Addr) (a : Nat) (w : Nat) (r : Release) (h : HeldRead) (s : State), addr.toNat = f2Base + a
      ∧ a < 0x1000000 ∧ s.mod.f2Off = false ∧ s.mod.f2Refused (.pair p) (.read k) a = false ∧ s.mod.window a k.bytes = some w ∧
      s.mod.winAllows w (.read k) = true ∧ s.mod.f2Free = true ∧ s.mod.lbb.waiting = [] ∧ s.mod.get Reg.LBB_STATUS_BR = 0 ∧
      s.mod.triad = true ∧ s.mod.caller p.val = some r ∧ (∀ x ∈ s.mod.lbb.reads, x.1 ≠ p.val) ∧ s.mod.lbb.held.find? (fun x =>
      x.task == r.desc.index && x.number == r.number && x.index == 0) = some h) :=
  ⟨⟨.pair 0, BitVec.ofNat 40 (f2Base + 0xFFFFFF), bridge (fun m => m.put Reg.LBB_CTL_ENABLE 0), by decide +kernel⟩,
    ⟨.pair 2, .read .b2, BitVec.ofNat 40 (f2Base + 0xFFFE), 0xFFFE, 15, bridge (fun m => m.put Reg.SYS_PROFILE_PAIR2_MODE 1),
      by decide +kernel⟩,
    ⟨.pair 0, .read .b2, BitVec.ofNat 40 (f2Base + 0xFFFFFE), bridge id, by decide +kernel⟩,
    ⟨.read .b2, BitVec.ofNat 40 (f2Base + 0xFFFE), 0xFFFE, 15, bridge id, by decide +kernel⟩,
    ⟨.pair 0, .read .b2, BitVec.ofNat 40 (f2Base + 0xFFFE), 0xFFFE, 15, bridge (fun m => (m.setLbb (fun l =>
      { l with granted := true, waiting := List.replicate 31 ⟨.mc, .read .b2, 2, []⟩ })).put Reg.LBB_STATUS_BR 1),
      by decide +kernel⟩,
    ⟨1, .b2, BitVec.ofNat 40 (f2Base + 0xFFFE), 0xFFFE, 15, rel' 0 dCyc [prt' 0 false, prt' 1 false, prt' 2 false], ⟨0, 9, 0,
      f2Base + 0xFFFE, 2, some 7⟩, bridge (fun m => ((rels [rel' 0 dCyc [prt' 0 false, prt' 1 false, prt' 2 false]] ((((m.put
      Reg.SYS_PROFILE_PROFILE 1).setLstate 0 lnRUN).setLstate 1 lnRUN).setLstate 2 lnRUN))).setLbb (fun l =>
      { l with held := [⟨0, 9, 0, f2Base + 0xFFFE, 2, some 7⟩] })), by decide +kernel⟩⟩

/-- States and operands that meet the hypotheses of Obligations.BackplaneBus, clause by clause. -/
theorem witness_BackplaneBus :
    (∃ (x : F2Txn) (r : List F2Txn) (s : State), s.mod.lbb.waiting = x :: r ∧ s.mod.lbb.granted = true ∧ s.mod.get
      Reg.LBB_STATUS_BR = 1 ∧ s.mod.f2Off = false ∧ s.mod.triad = false) ∧
    (∃ (p : Pair) (k : Width) (x : F2Txn) (r : List F2Txn) (c : Release) (s : State), s.mod.lbb.waiting = x :: r ∧ x.who = .pair p
      ∧ x.op = .read k ∧ s.mod.lbb.granted = true ∧ s.mod.get Reg.LBB_STATUS_BR = 1 ∧ s.mod.f2Off = false ∧ s.mod.triad = true ∧
      s.mod.caller p.val = some c ∧ (∀ y ∈ s.mod.lbb.reads, y.1 ≠ p.val) ∧ (∀ y ∈ s.mod.lbb.held, y.task ≠ c.desc.index)) ∧
    (∃ (s : State), s.mod.lbb.granted = false ∧ s.mod.lbbReleased = false ∧ s.mod.get Reg.LBB_STATUS_BR = 0) ∧
    (∃ (s : State), s.mod.lbb.granted = false ∧ s.mod.lbbReleased = false ∧ s.mod.get Reg.LBB_CTL_ENABLE = 1 ∧ s.mod.get
      Reg.LBB_CTL_GRANT_EN = 1 ∧ (∀ x ∈ s.mod.lbb.buffer, x.window < 16)) ∧
    (∃ (s : State), s.mod.lbb.granted = false ∧ (s.mod.get Reg.LBB_CTL_ENABLE = 0 ∨ s.mod.get Reg.LBB_CTL_GRANT_EN = 0)) ∧
    (∃ (s : State), s.mod.lbb.granted = true ∧ s.mod.lbb.waiting = []) ∧
    (∃ (s : State), s.mod.lbb.granted = true) ∧
    (∃ (f2 : BitVec 24) (a : Nat) (base : Nat) (t : Nat) (s : State), s.mod.lbb.granted = true ∧ s.mod.get Reg.LBB_CTL_INBOUND_EN
      = 1 ∧ s.mod.lbb.waiting = [] ∧ a = f2.toNat / 2 * 2 ∧ base = s.mod.get Reg.LBB_IN_CFG_BASE * 65536 ∧ base ≤ a ∧ a < base +
      (s.mod.get Reg.LBB_IN_CFG_SIZEM1 + 1) * 65536 ∧ t = s.mod.get Reg.LBB_IN_TARGET_TARGET * 65536 + (a - base)) ∧
    (∃ (s : State), s.mod.get Reg.LBB_CTL_ENABLE = 1 ∧ s.mod.get Reg.LBB_CTL_REQ_POLL_EN = 1 ∧ s.mod.lbbReleased = false) ∧
    (∃ (w : Nat) (a : Nat) (n : Nat) (s : State), s.mod.lbb.due = some (w, a, n + 1) ∧ s.mod.f2Free = true ∧ s.mod.lbb.waiting =
      [] ∧ s.mod.get Reg.LBB_CTL_ENABLE = 1 ∧ a + 2 ≤ s.mod.winStart w + s.mod.winLen w ∧ s.mod.bufWord a = none) :=
  ⟨⟨⟨.mc, .read .b2, 2, []⟩, [], bridge (fun m => (m.setLbb (fun l =>
      { l with granted := true, waiting := [⟨.mc, .read .b2, 2, []⟩] })).put Reg.LBB_STATUS_BR 1), by decide +kernel⟩,
    ⟨0, .b2, ⟨.pair 0, .read .b2, 2, []⟩, [], rel' 0 dCyc [prt' 0 false, prt' 1 false, prt' 2 false], bridge (fun m => (((rels
      [rel' 0 dCyc [prt' 0 false, prt' 1 false, prt' 2 false]] ((((m.put Reg.SYS_PROFILE_PROFILE 1).setLstate 0 lnRUN).setLstate 1
      lnRUN).setLstate 2 lnRUN))).setLbb (fun l => { l with granted := true, waiting := [⟨.pair 0, .read .b2, 2, []⟩] })).put
      Reg.LBB_STATUS_BR 1), by decide +kernel⟩,
    ⟨bridge (fun m => m.setLbb (fun l => { l with ackStuck := true })), by decide +kernel⟩,
    ⟨bridge (fun m => m.setLbb (fun l => { l with buffer := [⟨15, 2, 7⟩] })), by decide +kernel⟩,
    ⟨bridge (fun m => m.put Reg.LBB_CTL_GRANT_EN 0), by decide +kernel⟩,
    ⟨bridge (fun m => (m.setLbb (fun l => { l with granted := true })).put Reg.LBB_STATUS_BR 1), by decide +kernel⟩,
    ⟨bridge (fun m => (m.setLbb (fun l => { l with granted := true })).put Reg.LBB_STATUS_BR 1), by decide +kernel⟩,
    ⟨0xFFFF, 0xFFFE, 0, mcDram + 0xFFFE, bridge (fun m => (m.setLbb (fun l => { l with granted := true })).put
      Reg.LBB_CTL_INBOUND_EN 1 |>.put Reg.LBB_IN_TARGET_TARGET (mcDram / 65536)), by decide +kernel⟩,
    ⟨bridge (fun m => m.put Reg.LBB_STATUS_REQ 1), by decide +kernel⟩,
    ⟨15, 0xFFFE, 0, bridge (fun m => m.setLbb (fun l => { l with due := some (15, 0xFFFE, 1) })), by decide +kernel⟩⟩

/-- States and operands that meet the hypotheses of Obligations.DioChannels, clause by clause. -/
theorem witness_DioChannels :
    (∃ (c : Chan) (level : Bool) (s : State), s.mod.dioOut c.val = false ∧ bitOf s.mod.dio.filt c.val ≠ level ∧ s.mod.task.table =
      none) ∧
    (∃ (c : Chan) (s : State), s.mod.dioOut c.val = true ∧ s.mod.flag Reg.DIO_CHc_STATUS_DRIVE c.val = true ∧ s.mod.unlatched
      c.val = true ∧ IslandSettled s.mod) ∧
    (∃ (c : Chan) (s : State), s.mod.dioOut c.val = true ∧ s.mod.flag Reg.DIO_CHc_STATUS_DRIVE c.val = true ∧ s.mod.unlatched
      c.val = true ∧ IslandSettled s.mod) ∧
    (∃ (c : Chan) (s : State), s.mod.compares c.val = true ∧ s.mod.flag Reg.DIO_CHc_STATUS_DRIVE c.val = true ∧ s.mod.unlatched
      c.val = true ∧ s.mod.get Reg.DIO_CHc_STATUS_READBACK_ERR c.val = 0) ∧
    (∃ (c : Chan) (s : State), s.mod.compares c.val = true ∧ s.mod.flag Reg.DIO_CHc_STATUS_DRIVE c.val = false ∧ s.mod.get
      Reg.DIO_CHc_STATUS_STUCK_ON c.val = 0) ∧
    (∃ (c : Chan) (s : State), s.mod.compares c.val = true) ∧
    (∃ (c : Chan) (s : State), s.mod.supply (c.val / 8) = suOK) ∧
    (∃ (c : Chan) (s : State), s.mod.timedOpen c.val = true ∧ IslandSettled s.mod) ∧
    (∃ (c : Chan) (s : State), s.mod.dioOut c.val = true ∧ s.mod.flag Reg.DIO_CHc_CFG_TIMED c.val = true ∧ s.mod.get
      Reg.DIO_CHc_CFG_ACTION c.val = 2 ∧ s.mod.get Reg.DIO_CHc_STATUS_SAFE c.val = 0 ∧ IslandSettled s.mod) :=
  ⟨⟨31, true, State.reset, by decide +kernel⟩,
    ⟨31, dio (fun m => m.setDio (fun d => { d with latches := [(31, 0), (31, 0)] })), by decide +kernel⟩,
    ⟨31, dio (id), by decide +kernel⟩,
    ⟨31, dio (fun m => m.put Reg.DIO_CTL_READBACK_EN 1), by decide +kernel⟩,
    ⟨31, dio (fun m => m.put Reg.DIO_CTL_READBACK_EN 1 |>.put Reg.DIO_CHc_STATUS_DRIVE 0 31 |>.put Reg.DIO_CHc_STATUS_CMD 0 31
      |>.put Reg.DIO_CHc_CFG_SAFETY 1 31 |>.put Reg.DIO_CTL_GROUP_CUT_EN 1), by decide +kernel⟩,
    ⟨31, dio (fun m => m.put Reg.DIO_CTL_READBACK_EN 1), by decide +kernel⟩,
    ⟨31, dio (id), by decide +kernel⟩,
    ⟨31, dio (fun m => m.put Reg.DIO_CHc_CFG_TIMED 1 31 |>.put Reg.DIO_CHc_STATUS_DRIVE 0 31), by decide +kernel⟩,
    ⟨31, dio (fun m => m.put Reg.DIO_CHc_CFG_TIMED 1 31 |>.put Reg.DIO_CHc_CFG_ACTION 2 31 |>.setDio (fun d =>
      { d with timed := 2 ^ 31 })), by decide +kernel⟩⟩

/-- States and operands that meet the hypotheses of Obligations.DioSupplies, clause by clause. -/
theorem witness_DioSupplies :
    (∃ (s : State), s.mod.get Reg.DIO_CTL_ENABLE = 1 ∧ (s.mod.localSet true).isSome = true ∧ s.mod.dio.wdtReport = false) ∧
    (∃ (g : Group) (mv : BitVec 16) (s : State), mv.toNat < 19200 ∧ s.mod.supply g.val = suOK) ∧
    (∃ (g : Group) (mv : BitVec 16) (s : State), mv.toNat < 19200 ∧ s.mod.supply g.val ≠ suOK) ∧
    (∃ (g : Group) (mv : BitVec 16) (s : State), mv.toNat < 15000 ∧ (s.mod.supply g.val = suOK ∨ s.mod.supply g.val = suLOW)) ∧
    (∃ (g : Group) (mv : BitVec 16) (s : State), 15500 ≤ mv.toNat ∧ (s.mod.supply g.val = suLOST ∨ s.mod.supply g.val = suLOW)) ∧
    (∃ (g : Group) (s : State), s.mod.supply g.val = suOK ∧ s.mod.flag Reg.DIO_Gg_SUPPLY_LATCHED g.val = true) :=
  ⟨⟨dio (fun m => m.put Reg.DIO_CHc_CFG_SAFE_STATE 2 31 |>.put Reg.DIO_CHc_CFG_RESTART_LOCK 1 31), by decide +kernel⟩,
    ⟨3, 19199, dio (id), by decide +kernel⟩,
    ⟨3, 19199, State.reset, by decide +kernel⟩,
    ⟨3, 14999, dio (id), by decide +kernel⟩,
    ⟨3, 19700, State.reset, by decide +kernel⟩,
    ⟨3, dio (fun m => m.put Reg.DIO_Gg_SUPPLY_LATCHED 1 3 |>.put Reg.DIO_CHc_CFG_RESTART_LOCK 1 31), by decide +kernel⟩⟩

/-- States and operands that meet the hypotheses of Obligations.FaultCollector, clause by clause. -/
theorem witness_FaultCollector :
    (∃ (s : State), s.mod.fc.reports = []) ∧
    (∃ (q : Report) (r : ClassRule) (s : State), nextReport s.mod.fc.reports = some q ∧ r = s.mod.classRule q.source q.kind q.cls
      ∧ r.n = 0 ∧ r.base = clINFO ∧ r.react.getD 0 0 = rRECORD ∧ s.mod.fc.record = none ∧ s.mod.unit ≠ stSURRENDERED ∧ Room s.mod ∧
      s.mod.bucket (faultCode q.source q.kind) = none) ∧
    (∃ (q : Report) (r : ClassRule) (s : State), nextReport s.mod.fc.reports = some q ∧ r = s.mod.classRule q.source q.kind q.cls
      ∧ r.n = 0 ∧ r.base = clDEGRADED ∧ r.react.getD 1 0 = rRECORD + rINTERRUPT ∧ s.mod.fc.record = none ∧ s.mod.unit ≠
      stSURRENDERED ∧ Room s.mod ∧ s.mod.bucket (faultCode q.source q.kind) = none ∧ q.source < 0x400 ∧ q.kind < 0x100) ∧
    (∃ (q : Report) (r : ClassRule) (x : FaultRecord) (s : State), nextReport s.mod.fc.reports = some q ∧ r = s.mod.classRule
      q.source q.kind q.cls ∧ r.n = 0 ∧ r.base = clDEGRADED ∧ r.react.getD 1 0 = rRECORD + rINTERRUPT ∧ s.mod.fc.record = some x ∧
      x.acked = false ∧ s.mod.unit = stACTIVE ∧ s.mod.get Reg.FC_OPEN_REACT = 3 ∧ s.mod.get Reg.FC_OPEN_CLASS ≤ 3 ∧ q.source <
      0x400) ∧
    (∃ (q : Report) (r : ClassRule) (s : State), nextReport s.mod.fc.reports = some q ∧ r = s.mod.classRule q.source q.kind q.cls
      ∧ r.n = 0 ∧ r.base = clSEVERE ∧ r.react.getD 2 0 = rRECORD + rINTERRUPT + rSAFE ∧ s.mod.safeScope q.source q.kind = .unit ∧
      s.mod.fc.record = none ∧ s.mod.unit = stACTIVE) ∧
    (∃ (who : Initiator) (v : Word32) (s : State), s.mod.mayWrite who 0xD0008 v.toNat = true ∧ s.mod.intakeRight who (bitsOf
      v.toNat 22 10) = true) ∧
    (∃ (who : Initiator) (v : Word32) (s : State), s.mod.mayWrite who 0xD0008 v.toNat = true ∧ s.mod.intakeRight who (bitsOf
      v.toNat 22 10) = false) ∧
    (∃ (who : Initiator) (v : Word32) (x : FaultRecord) (s : State), s.mod.mayWrite who 0xD0000 v.toNat = true ∧ bitOf v.toNat 0 =
      true ∧ bitOf v.toNat 1 = false ∧ s.mod.fc.record = some x ∧ s.mod.fcComplete x = true ∧ s.mod.get Reg.FC_OPEN_CLASS < 3 ∧ Room
      s.mod) ∧
    (∃ (who : Initiator) (v : Word32) (x : FaultRecord) (s : State), s.mod.mayWrite who 0xD0000 v.toNat = true ∧ bitOf v.toNat 0 =
      true ∧ bitOf v.toNat 1 = false ∧ s.mod.fc.record = some x ∧ s.mod.fcComplete x = false) ∧
    (∃ (who : Initiator) (v : Word32) (s : State), s.mod.mayWrite who 0xD0000 v.toNat = true ∧ bitOf v.toNat 1 = true ∧ bitOf
      v.toNat 0 = false) ∧
    (∃ (x : FaultRecord) (s : State), s.mod.fc.record = some x ∧ s.mod.fcComplete x = true ∧ s.mod.get Reg.FC_OPEN_CLASS < 3 ∧
      Room s.mod) :=
  ⟨⟨State.reset, by decide +kernel⟩,
    ⟨rep 5 1, ⟨0, 0, 0, 0, [1]⟩, faults (rep 5 1) 0 [1] id, by decide +kernel⟩,
    ⟨rep 5 1, ⟨1, 1, 0, 0, [0, 3]⟩, faults (rep 5 1) 1 [0, 3] id, by decide +kernel⟩,
    ⟨rep 5 1, ⟨1, 1, 0, 0, [0, 3]⟩, frec, faults (rep 5 1) 1 [0, 3] (fun m => (m.put Reg.FC_OPEN_REACT 3).setFc (fun c =>
      { c with record := some frec })), by decide +kernel⟩,
    ⟨rep 0x50 1, ⟨2, 2, 0, 0, [0, 0, 11]⟩, faults (rep 0x50 1) 2 [0, 0, 11] id, by decide +kernel⟩,
    ⟨.mc, 0x50004005, State.reset, by decide +kernel⟩,
    ⟨.pair 0, 0x40004005, State.reset, by decide +kernel⟩,
    ⟨.mc, 1, frec, st (fun m => m.setFc (fun c => { c with record := some frec }) |>.put Reg.FC_OPEN_OPEN 1 |>.put
      Reg.FC_OPEN_CLASS 2), by decide +kernel⟩,
    ⟨.mc, 1, { frec with scopes := [.unit], restarts := [2] }, st (fun m => (m.setLstate 2 lnRESTORE).setFc (fun c =>
      { c with record := some { frec with scopes := [.unit], restarts := [2] } }) |>.put Reg.FC_OPEN_OPEN 1 |>.put Reg.FC_OPEN_CLASS
      2), by decide +kernel⟩,
    ⟨.mc, 2, State.reset, by decide +kernel⟩,
    ⟨frec, st (fun m => m.setFc (fun c => { c with record := some frec }) |>.put Reg.FC_OPEN_OPEN 1 |>.put Reg.FC_OPEN_CLASS 2),
      by decide +kernel⟩⟩

/-- States and operands that meet the hypotheses of Obligations.DaybookEngine, clause by clause. -/
theorem witness_DaybookEngine :
    (∃ (s : State), s.mod.dbk.fifo = []) ∧
    (∃ (e : Event) (rest : List Event) (k : Nat) (s : State), s.mod.dbk.fifo = e :: rest ∧ s.mod.dbk.table = none ∧ e.code ≠
      0x0381 ∧ DaybookOk s.daybook ∧ k < daybookSlots ∧ alGet s.daybook.slots k = none ∧ (∀ j, j < k → (alGet s.daybook.slots
      j).isSome = true)) ∧
    (∃ (e : Event) (rest : List Event) (s : State), s.mod.dbk.fifo = e :: rest ∧ s.daybook.slotFor e.severity = none) ∧
    (∃ (s : State), s.mod.get Reg.DBK_CTL_ARCHIVE_EN = 1 ∧ s.mod.unit ≠ stBOOT ∧ s.mod.heldInReset = false ∧
      s.daybook.archive.length + s.daybook.slots.length ≤ archiveRecords) ∧
    (∃ (v : Word32) (n : Nat) (s : State), n = v.toNat * 2 ^ 32 + s.mod.get Reg.DBK_ARCH_SEQ_LO_ARCH_LO ∧ s.daybook.archSeq ≤ n ∧
      n ≤ s.daybook.lastSeq) ∧
    (∃ (v : Word32) (n : Nat) (s : State), n = v.toNat * 2 ^ 32 + s.mod.get Reg.DBK_ARCH_SEQ_LO_ARCH_LO ∧ (n < s.daybook.archSeq ∨
      s.daybook.lastSeq < n)) :=
  ⟨⟨State.reset, by decide +kernel⟩,
    ⟨ev, [ev], 1, { st (fun m => { m with dbk := { m.dbk with fifo := [ev, ev] } }) with daybook := book }, rfl, rfl, by decide,
      book_ok, by decide, by decide, by decide⟩,
    ⟨ev, [], { st (fun m => { m with dbk := { m.dbk with fifo := [ev] } }) with daybook := fullBook }, rfl, fullBook_full⟩,
    ⟨{ at' stCONFIG id with daybook := ⟨[(0, recd 1 1), (1, recd 2 2)], 2, 1, [recd 1 1]⟩ }, by decide +kernel⟩,
    ⟨0, 2,
      { st (fun m => m.put Reg.DBK_ARCH_SEQ_LO_ARCH_LO 2) with daybook := ⟨[(0, recd 1 1), (1, recd 2 2)], 2, 1, [recd 1 1]⟩ },
      by decide +kernel⟩,
    ⟨0, 3,
      { st (fun m => m.put Reg.DBK_ARCH_SEQ_LO_ARCH_LO 3) with daybook := ⟨[(0, recd 1 1), (1, recd 2 2)], 2, 1, [recd 1 1]⟩ },
      by decide +kernel⟩⟩

/-- States and operands that meet the hypotheses of Obligations.ModuleTime, clause by clause. -/
theorem witness_ModuleTime :
    (∃ (who : Initiator) (v : Word32) (s : State), s.mod.mayWrite who 0x1000C v.toNat = true ∧ bitOf v.toNat 0 = true ∧
      s.mod.timeSteered = false ∧ s.mod.get Reg.TIM_STEP_NS_NS < 1000000000) ∧
    (∃ (who : Initiator) (v : Word32) (s : State), s.mod.mayWrite who 0x1000C v.toNat = true ∧ bitOf v.toNat 0 = true ∧
      (s.mod.timeSteered = true ∨ 1000000000 ≤ s.mod.get Reg.TIM_STEP_NS_NS)) ∧
    (∃ (s : State), s.mod.get Reg.TIM_CTL_STEP = 1 ∧ s.mod.get Reg.TIM_STEP_NS_NS < 1000000000 ∧ s.mod.tim.armed = [] ∧ Room
      s.mod) ∧
    (∃ (s : State), s.mod.get Reg.TIM_CTL_STEP = 0) ∧
    (∃ (who : Initiator) (v : Word32) (s : State), s.mod.mayWrite who 0x10020 v.toNat = true ∧ s.mod.timeSteered = false ∧ (sext
      32 v.toNat).natAbs ≤ 100000 ∧ Room s.mod) ∧
    (∃ (who : Initiator) (v : Word32) (s : State), s.mod.mayWrite who 0x10020 v.toNat = true ∧ (s.mod.timeSteered = true ∨ 100000
      < (sext 32 v.toNat).natAbs)) ∧
    (∃ (who : Initiator) (v : Word32) (s : State), s.mod.mayWrite who 0x10024 v.toNat = true ∧ Room s.mod) ∧
    (∃ (p : Pair) (n : Fin 8) (v : Word32) (fire : Nat) (s : State), s.mod.split p.val = false ∧ bitOf v.toNat 0 = true ∧ bitsOf
      v.toNat 3 2 = 0 ∧ s.mod.task.table = none ∧ fire = (bitsOf v.toNat 16 16 * 2 ^ 32 + s.mod.get Reg.TIM_TRIGn_SEC_LO_SEC_LO
      n.val) * 10 ^ 9 + s.mod.get Reg.TIM_TRIGn_NS_NS n.val) ∧
    (∃ (p : Pair) (v : Word32) (s : State), s.mod.split p.val = false ∧ bitOf v.toNat 0 = false ∧ bitsOf v.toNat 3 2 = 0) ∧
    (∃ (n : Fin 8) (f : Nat) (s : State), alGet s.mod.tim.armed n.val = some f ∧ f ≤ s.mod.trigNow n.val + 1000 ∧ s.mod.task.table
      = none ∧ (s.mod.get Reg.TIM_TRIGn_PERIOD_PERIOD_US n.val = 0 ∨ s.mod.trigNow n.val ≤ f + s.mod.get
      Reg.TIM_TRIGn_PERIOD_PERIOD_US n.val * 1000)) :=
  ⟨⟨.mc, 1, st (fun m => m.put Reg.TIM_STEP_NS_NS 999999999 |>.put Reg.CYC_STATUS_TIME_LEADER 1), by decide +kernel⟩,
    ⟨.mc, 1, st (fun m => m.put Reg.TIM_STEP_NS_NS 1000000000), by decide +kernel⟩,
    ⟨st (fun m => m.put Reg.TIM_CTL_STEP 1 |>.put Reg.TIM_STEP_NS_NS 999999999 |>.put Reg.TIM_STEP_SEC_HI_SEC_HI 1),
      by decide +kernel⟩,
    ⟨State.reset, by decide +kernel⟩,
    ⟨.mc, BitVec.ofInt 32 (-100000), st (fun m => m.put Reg.CYC_STATUS_TIME_LEADER 1), by decide +kernel⟩,
    ⟨.mc, BitVec.ofInt 32 (-100001), State.reset, by decide +kernel⟩,
    ⟨.mc, 0xFFFFFFFF, State.reset, by decide +kernel⟩,
    ⟨2, 7, 0x10001, 2 ^ 32 * 10 ^ 9 + 5, st (fun m => m.put Reg.TIM_TRIGn_NS_NS 5 7), by decide +kernel⟩,
    ⟨2, 0, st (fun m => m.setTim (fun t => { t with armed := [(7, 5)] })), by decide +kernel⟩,
    ⟨7, 1000, st (fun m => (m.put Reg.TIM_TRIGn_PERIOD_PERIOD_US 1 7).put Reg.TIM_TRIGn_CTL_ENABLE 1 7 |>.setTim (fun t =>
      { t with armed := [(7, 1000)] })), by decide +kernel⟩⟩

/-- States and operands that meet the hypotheses of Obligations.Configuration, clause by clause. -/
theorem witness_Configuration :
    (∃ (who : Initiator) (v : Word32) (s : State), s.mod.mayWrite who 0xF0000 v.toNat = true ∧ bitOf v.toNat 0 = true ∧
      s.mod.cfg.txn = none ∧ s.mod.get Reg.CFG_TXN_STATUS_STATE = 0 ∧ s.mod.triad = false) ∧
    (∃ (p : Pair) (v : Word32) (x : Txn) (s : State), s.mod.split p.val = false ∧ bitOf v.toNat 0 = true ∧ s.mod.cfg.txn = some x
      ∧ x.owner ≠ .triad) ∧
    (∃ (p : Pair) (x : Txn) (s : State), s.mod.split p.val = false ∧ s.mod.cfg.txn = some x ∧ x.owner = .pair p.val ∧ x.writes =
      []) ∧
    (∃ (p : Pair) (v : Word32) (x : Txn) (w : Nat) (s : State), s.mod.split p.val = false ∧ bitOf v.toNat 0 = true ∧ bitOf v.toNat
      1 = false ∧ s.mod.cfg.txn = some x ∧ x.owner = .pair p.val ∧ x.task = 48 ∧ s.mod.caller p.val = none ∧ x.overflow = false ∧
      x.writes = [⟨0xB0008, w⟩] ∧ 10 ≤ bitsOf w 8 16 ∧ bitsOf w 8 16 ≤ 10000 ∧ 2 ≤ bitsOf w 0 5 ∧ bitsOf w 0 5 ≤ 20 ∧ lbbCheck s.mod
      = true ∧ s.mod.unit = stACTIVE ∧ Room s.mod) ∧
    (∃ (p : Pair) (v : Word32) (x : Txn) (w : Nat) (s : State), s.mod.split p.val = false ∧ bitOf v.toNat 0 = true ∧ bitOf v.toNat
      1 = false ∧ s.mod.cfg.txn = some x ∧ x.owner = .pair p.val ∧ x.task = 48 ∧ s.mod.caller p.val = none ∧ x.overflow = false ∧
      x.writes = [⟨0xB0008, w⟩] ∧ bitsOf w 8 16 < 10) ∧
    (∃ (p : Pair) (v : Word32) (x : Txn) (s : State), s.mod.split p.val = false ∧ bitOf v.toNat 0 = true ∧ bitOf v.toNat 1 = true
      ∧ s.mod.cfg.txn = some x ∧ x.owner = .pair p.val ∧ x.task = 48 ∧ s.mod.caller p.val = none ∧ (s.mod.get
      Reg.CFG_KEY_STATUS_PRESENT = 0 ∨ s.mod.get Reg.CFG_KEY_STATUS_SAME_KEY = 0)) ∧
    (∃ (p : Pair) (v : Word32) (x : Txn) (s : State), s.mod.split p.val = false ∧ bitOf v.toNat 0 = true ∧ s.mod.cfg.txn = some x
      ∧ x.owner = .pair p.val ∧ x.lists = []) ∧
    (∃ (k : TallyKey) (v : Nat) (l : List Byte) (s : State), s.mod.cfg.key = some k ∧ s.mod.cfg.writing = some (v, l) ∧ v < 2 ∧
      Room s.mod) ∧
    (∃ (k : TallyKey) (s : State), s.mod.cfg.key = some k ∧ s.mod.cfg.writing = none) ∧
    (∃ (s : State), s.mod.cfg.key = none ∧ s.mod.unit = stBOOT) ∧
    (∃ (k : TallyKey) (n : Nat) (s : State), s.mod.cfg.key = none ∧ s.mod.unit ≠ stBOOT ∧ s.mod.unit ≠ stCONFIG ∧
      s.mod.upd.confirmDue = false ∧ s.mod.upd.boot.fallingBack = false ∧ Room s.mod ∧ n = ((s.mod.pickGen k).map (·.2.number)).getD
      0) ∧
    (∃ (svc : Svc) (image : List Byte) (k : TallyKey) (g : Generation) (s : State), s.mod.unit = stCONFIG ∧ s.mod.svcHas svc.val
      pmUPDATE = true ∧ s.mod.cfg.key = some k ∧ k.authentic = true ∧ parseGeneration (listLE image) (sliceB image) = some g ∧
      s.mod.upd.boot.fallingBack = false ∧ s.mod.upd.boot.trial = false) :=
  ⟨⟨.mc, 1, State.reset, by decide +kernel⟩,
    ⟨2, 1, txn [], inTxn [] (id), by decide +kernel⟩,
    ⟨2, txn [], inTxn [] (id), by decide +kernel⟩,
    ⟨2, 1, txn [⟨0xB0008, 10 * 256 + 20⟩], 10 * 256 + 20, inTxn [⟨0xB0008, 10 * 256 + 20⟩] (fun m => m.put
      Reg.CFG_TXN_STATUS_STATE 1), by decide +kernel⟩,
    ⟨2, 1, txn [⟨0xB0008, 9 * 256 + 20⟩], 9 * 256 + 20, inTxn [⟨0xB0008, 9 * 256 + 20⟩] (id), by decide +kernel⟩,
    ⟨2, 3, txn [], inTxn [] (id), by decide +kernel⟩,
    ⟨2, 1, txn [], inTxn [] (fun m => m.put Reg.CFG_TXN_STATUS_STATE 1), by decide +kernel⟩,
    ⟨key1, 1, genBytes, at' stACTIVE (fun m => m.setCfg (fun c => { c with key := some key1, writing := some (1, genBytes) })),
      by decide +kernel⟩,
    ⟨key1, at' stACTIVE (fun m => m.setCfg (fun c => { c with key := some key1 }) |>.put Reg.CFG_KEY_STATUS_PRESENT 1 |>.put
      Reg.CFG_KEY_STATUS_SAME_KEY 1), by decide +kernel⟩,
    ⟨State.reset, by decide +kernel⟩,
    ⟨{ key1 with authentic := false }, 0, at' stACTIVE id, by decide +kernel⟩,
    ⟨1, genBytes, key1, (parseGeneration (listLE genBytes) (sliceB genBytes)).getD ⟨0, 0, 0, 0, 0, 0, [], []⟩, sess pmUPDATE (fun
      m => m.setCfg (fun c => { c with key := some key1 })) stCONFIG, by decide +kernel⟩⟩

/-- States and operands that meet the hypotheses of Obligations.Security, clause by clause. -/
theorem witness_Security :
    (∃ (s : State), SecFree s.mod) ∧
    (∃ (s : State), SecFree s.mod) ∧
    (∃ (s : State), SecFree s.mod) ∧
    (∃ (c : Instr) (op : Nat) (s : State), ownerOp c = some op ∧ SecFree s.mod ∧ s.mod.mboxRd 6 2 = op ∧ (∀ v, c = .session v →
      s.mod.svcPresent v.val = true)) ∧
    (∃ (c : Instr) (op : Nat) (s : State), ownerOp c = some op ∧ SecFree s.mod ∧ s.mod.mboxRd 6 2 = op ∧ (∀ v, c = .session v →
      s.mod.svcPresent v.val = true) ∧ s.mod.ownerFormat = false) ∧
    (∃ (c : Instr) (op : Nat) (s : State), ownerOp c = some op ∧ SecFree s.mod ∧ s.mod.mboxRd 6 2 = op ∧ (∀ v, c = .session v →
      s.mod.svcPresent v.val = true) ∧ s.mod.unit ≠ stCONFIG) ∧
    (∃ (c : Instr) (op : Nat) (s : State), ownerOp c = some op ∧ s.mod.get Reg.SEC_STATUS_BUSY = 1 ∧ s.mod.get Reg.SEC_CMD_OP ≠
      scOWNER) ∧
    (∃ (s : State), Room s.mod) :=
  ⟨⟨at' stACTIVE id, by decide +kernel⟩,
    ⟨at' stACTIVE id, by decide +kernel⟩,
    ⟨at' stACTIVE id, by decide +kernel⟩,
    ⟨.session 1, 5, owner 5 (id), by decide +kernel⟩,
    ⟨.transfer, 2, owner 2 (id), by decide +kernel⟩,
    ⟨.unlatch, 6, owner 6 (id), by decide +kernel⟩,
    ⟨.enrol, 1, at' stACTIVE (fun m => m.put Reg.SEC_STATUS_BUSY 1), by decide +kernel⟩,
    ⟨st (fun m => (m.put Reg.SEC_STATUS_DEBUG_ARMED 1).wr8 (mramBase + 0x3F00000) 5), by decide +kernel⟩⟩

/-- States and operands that meet the hypotheses of Obligations.Updates, clause by clause. -/
theorem witness_Updates :
    (∃ (svc : Svc) (s : State), s.mod.svcHas svc.val pmUPDATE = false) ∧
    (∃ (svc : Svc) (pkg : List Byte) (s : State), s.mod.svcHas svc.val pmUPDATE = true ∧ s.mod.get Reg.UPD_STATE_PHASE = 0 ∧
      s.mod.supplyPoor = false ∧ s.mod.get Reg.SEC_OWNER_LOCK_UPD_LOCK = 0 ∧ parsePackage (listLE pkg) (sliceB pkg) pkg.length =
      none) ∧
    (∃ (svc : Svc) (pkg : List Byte) (g : Package) (s : State), s.mod.svcHas svc.val pmUPDATE = true ∧ s.mod.get
      Reg.UPD_STATE_PHASE = 0 ∧ parsePackage (listLE pkg) (sliceB pkg) pkg.length = some g ∧ s.mod.stageCode (some g) = none ∧ g.has
      7 = false) ∧
    (∃ (g : Package) (p : PkgPart) (s : State), s.mod.upd.pkg = some g ∧ g.parts = [p] ∧ 1 ≤ p.part ∧ p.part ≤ 5 ∧ s.mod.get
      Reg.UPD_STATE_PHASE = 1 ∧ Room s.mod) ∧
    (∃ (v : Word32) (s : State), s.mod.updState = upSTAGED ∧ s.mod.get Reg.UPD_STATE_PHASE = 0 ∧ bitsOf v.toNat 0 4 = 8) ∧
    (∃ (svc : Svc) (v : Word32) (g : Package) (s : State), s.mod.svcHas svc.val pmUPDATE = true ∧ s.mod.get Reg.UPD_STATE_PHASE =
      0 ∧ s.mod.upd.pkg = some g ∧ s.mod.updState = upSTAGED ∧ s.mod.atRest = false ∧ bitsOf v.toNat 0 4 = 1) ∧
    (∃ (svc : Svc) (v : Word32) (g : Package) (s : State), s.mod.svcHas svc.val pmUPDATE = true ∧ s.mod.get Reg.UPD_STATE_PHASE =
      0 ∧ s.mod.upd.pkg = some g ∧ s.mod.updState = upSTAGED ∧ s.mod.activateCode g false = none ∧ g.has 2 = true ∧ bitsOf v.toNat 0
      5 = 1 ∧ Room s.mod) ∧
    (∃ (s : State), s.mod.upd.quiescing = true ∧ s.mod.quiet2 = true ∧ s.mod.pkgHas 6 = false) ∧
    (∃ (s : State), s.mod.upd.quiescing = true ∧ s.mod.quiet2 = false) ∧
    (∃ (p : Nat) (s : State), s.mod.upd.partNow = some p ∧ p ≠ 6 ∧ s.mod.upd.partQueue = []) ∧
    (∃ (s : State), s.mod.upd.partNow = some 2 ∧ s.mod.upd.partQueue = [] ∧ s.mod.upd.partsConfirmed = []) ∧
    (∃ (s : State), s.mod.upd.boot.porters = true ∧ (s.mod.get Reg.UPD_STATE_PHASE = 4 ∨ s.mod.get Reg.UPD_STATE_PHASE = 5) ∧
      s.mod.upd.boot.fallingBack = false) ∧
    (∃ (b : Side) (s : State), s.mod.upd.boot.porters = true ∧ s.mod.get Reg.UPD_STATE_PHASE = 4 + b.val ∧
      s.mod.upd.boot.fallingBack = false ∧ s.mod.updState = upTRIAL ∧ s.mod.upd.fallbackDue = none ∧ s.mod.hasTwin = false ∧
      s.mod.upd.porterDone = [b.val]) ∧
    (∃ (v : Word32) (s : State), s.mod.updState = upTRIAL ∧ s.mod.cleanEnough = true ∧ s.mod.upd.boot.fallingBack = false ∧
      s.mod.pkgHas 6 = false ∧ bitsOf v.toNat 0 4 = 2 ∧ Room s.mod) ∧
    (∃ (v : Word32) (s : State), s.mod.updState = upTRIAL ∧ s.mod.cleanEnough = false ∧ bitOf v.toNat 1 = true) ∧
    (∃ (s : State), s.mod.updState = upTRIAL ∧ s.mod.upd.boot.fallingBack = false ∧ s.mod.upd.confirmDue = false ∧
      s.mod.cleanEnough = true ∧ s.mod.pkgHas 6 = false ∧ Room s.mod) ∧
    (∃ (s : State), s.mod.updState = upTRIAL ∧ s.mod.upd.boot.fallingBack = false ∧ s.mod.upd.confirmDue = false ∧
      s.mod.cleanEnough = false ∧ s.mod.pkgHas 6 = false ∧ s.mod.upd.fallbackDue = none ∧ s.mod.hasTwin = false ∧
      s.mod.upd.boot.porters = false) ∧
    (∃ (v : Word32) (s : State), s.mod.updState = upTRIAL ∧ s.mod.upd.boot.fallingBack = false ∧ s.mod.pkgHas 6 = false ∧
      s.mod.upd.fallbackDue = none ∧ s.mod.hasTwin = false ∧ s.mod.upd.boot.porters = false ∧ bitsOf v.toNat 0 4 = 4) :=
  ⟨⟨1, at' stACTIVE id, by decide +kernel⟩,
    ⟨1, [1, 2], sess pmUPDATE (fun m => m.put Reg.SYS_SUPPLY_MV_MV 100000), by decide +kernel⟩,
    ⟨1, pkgBytes 2 1 (zeros 16), pkgOf (pkgBytes 2 1 (zeros 16)), sess pmUPDATE (fun m => (m.put Reg.SYS_SUPPLY_MV_MV
      100000).setUpd (fun u => { u with slots := [⟨2, 0, [1, 1], [[], []], [[], []]⟩] })), by decide +kernel⟩,
    ⟨pkg' [5], (pkg' [5]).parts.headD ⟨0, false, 0, 0, 0, 0, [], [], []⟩, upd' upIDLE (fun u =>
      { u with pkg := some (pkg' [5]), plain := [(5, [7])] }) (fun m => m.put Reg.UPD_STATE_PHASE 1), by decide +kernel⟩,
    ⟨8, upd' upSTAGED (fun u => { u with pkg := some (pkg' [7]) }), by decide +kernel⟩,
    ⟨1, 1, pkg' [2], sess pmUPDATE (fun m => (m.setUpdState upSTAGED).setUpd (fun u => { u with pkg := some (pkg' [2]) })),
      by decide +kernel⟩,
    ⟨1, 1, pkg' [2], sess pmUPDATE (fun m => (m.setUpdState upSTAGED).setUpd (fun u =>
      { u with slots := [⟨2, 0, [1, 1], [[], []], [[], []]⟩], pkg := some (pkg' [2]) }) |>.put Reg.SYS_SUPPLY_MV_MV 100000)
      stCONFIG, by decide +kernel⟩,
    ⟨upd' upSTAGED (fun u => { u with pkg := some (pkg' [2]), quiescing := true }), by decide +kernel⟩,
    ⟨upd' upSTAGED (fun u => { u with quiescing := true }) (rels [rel' 2 dCyc [prt' 2 false]]), by decide +kernel⟩,
    ⟨5, upd' upSTAGED (fun u => { u with partNow := some 5 }), by decide +kernel⟩,
    ⟨upd' upSTAGED (fun u => { u with partNow := some 2 }), by decide +kernel⟩,
    ⟨upd' upTRIAL (fun u => { u with boot := { u.boot with porters := true }, porterQueue := [1] }) (fun m => m.put
      Reg.UPD_STATE_PHASE 5), by decide +kernel⟩,
    ⟨1, upd' upTRIAL (fun u => { u with boot := { u.boot with porters := true }, porterDone := [1] }) (fun m => m.put
      Reg.UPD_STATE_PHASE 5), by decide +kernel⟩,
    ⟨2, upd' upTRIAL id (fun m => m.put Reg.UPD_CLEAN_COUNT (m.get Reg.UPD_CLEAN_MIN_CLEAN_MIN)), by decide +kernel⟩,
    ⟨2, upd' upTRIAL id (fun m => m.put Reg.UPD_CLEAN_COUNT (m.get Reg.UPD_CLEAN_MIN_CLEAN_MIN - 1)), by decide +kernel⟩,
    ⟨upd' upTRIAL id (fun m => m.put Reg.UPD_CLEAN_COUNT (m.get Reg.UPD_CLEAN_MIN_CLEAN_MIN)), by decide +kernel⟩,
    ⟨upd' upTRIAL id (fun m => m.put Reg.UPD_CLEAN_COUNT (m.get Reg.UPD_CLEAN_MIN_CLEAN_MIN - 1)), by decide +kernel⟩,
    ⟨4, upd' upTRIAL id, by decide +kernel⟩⟩

/-- States and operands that meet the hypotheses of Obligations.LampsAndTests, clause by clause. -/
theorem witness_LampsAndTests :
    (∃ (who : Initiator) (v : Word32) (s : State), s.mod.mayWrite who 0x40 v.toNat = true) ∧
    (∃ (who : Initiator) (v : Word32) (s : State), s.mod.mayWrite who 0x130500 v.toNat = true ∧ bitOf v.toNat 2 = true ∧
      (s.mod.unit = stCONFIG ∨ s.mod.unit = stSAFE) ∧ (∀ f ∈ [Reg.LBB_WINw_CFG_VALID, Reg.LBB_WINw_CFG_RD, Reg.LBB_WINw_CFG_WR,
      Reg.LBB_WINw_CFG_MEMORY_LIKE], s.mod.get f (bitsOf v.toNat 16 4) = 1)) ∧
    (∃ (who : Initiator) (v : Word32) (s : State), s.mod.mayWrite who 0x130500 v.toNat = true ∧ bitOf v.toNat 2 = true ∧
      s.mod.unit ≠ stCONFIG ∧ s.mod.unit ≠ stSAFE) ∧
    (∃ (s : State), s.mod.get Reg.TEST_LBB_RUNNING = 1) ∧
    (∃ (svc : Svc) (v : Word32) (l : Nat) (s : State), s.mod.svcHas svc.val pmTEST = true ∧ bitOf v.toNat 31 = true ∧ bitOf
      v.toNat 30 = false ∧ l = bitsOf v.toNat 16 7 ∧ s.mod.linkPresent l = true ∧ s.mod.testRefusal l (bitsOf v.toNat 4 2) (if
      svc.val = 2 then none else some svc.val) = none) ∧
    (∃ (svc : Svc) (v : Word32) (l : Nat) (c : Nat) (s : State), s.mod.svcHas svc.val pmTEST = true ∧ bitOf v.toNat 31 = true ∧
      bitOf v.toNat 30 = false ∧ l = bitsOf v.toNat 16 7 ∧ s.mod.linkPresent l = true ∧ s.mod.testRefusal l (bitsOf v.toNat 4 2) (if
      svc.val = 2 then none else some svc.val) = some c) ∧
    (∃ (svc : Svc) (v : Word32) (l : Nat) (s : State), s.mod.svcHas svc.val pmTEST = true ∧ bitOf v.toNat 30 = true ∧ bitOf
      v.toNat 31 = false ∧ l = bitsOf v.toNat 16 7 ∧ l < 64 ∧ s.mod.flag Reg.TEST_Ll_STATUS_RUNNING l = true) ∧
    (∃ (lane : Fin 2) (s : State), s.mod.flag Reg.TEST_Ll_STATUS_RUNNING (60 + lane.val) = true) :=
  ⟨⟨.mc, 0xC0000000, State.reset, by decide +kernel⟩,
    ⟨.mc, 0xF0004, at' stSAFE (fun m => (((m.put Reg.LBB_WINw_CFG_VALID 1 15).put Reg.LBB_WINw_CFG_RD 1 15).put
      Reg.LBB_WINw_CFG_WR 1 15).put Reg.LBB_WINw_CFG_MEMORY_LIKE 1 15), by decide +kernel⟩,
    ⟨.mc, 4, at' stACTIVE id, by decide +kernel⟩,
    ⟨st (fun m => m.put Reg.TEST_LBB_RUNNING 1), by decide +kernel⟩,
    ⟨1, 0x803D0000, 61, sess pmTEST (fun m => m.put Reg.SYS_PROFILE_TWIN_POS 1 |>.put Reg.TEST_Ll_ERRORS_BIT_ERRORS 5 61)
      stCONFIG, by decide +kernel⟩,
    ⟨1, 0x803D0000, 61, 2, sess pmTEST (fun m => m.put Reg.SYS_PROFILE_TWIN_POS 1), by decide +kernel⟩,
    ⟨1, 0x403D0000, 61, sess pmTEST (fun m => m.put Reg.TEST_Ll_STATUS_RUNNING 1 61), by decide +kernel⟩,
    ⟨1, st (fun m => m.put Reg.TEST_Ll_STATUS_RUNNING 1 61), by decide +kernel⟩⟩

/-! ### Well-formedness: one ill-formed term for each check -/

def goodHdr : FrameHdr := ⟨true, false, 1, 2, 5, 0x3FF, 0, 1, 0, 100, 100⟩
theorem wf_hdr : goodHdr.wf = true ∧
    ∀ h ∈ [{ goodHdr with version := 256 }, { goodHdr with subtype := 256 }, { goodHdr with src := 65536 }, { goodHdr with dst := 65536 },
      { goodHdr with case_ := 256 }, { goodHdr with channel := 2 }, { goodHdr with cycle := 2 ^ 32 }, { goodHdr with bodyLen := 65536 }],
      h.wf = false := by decide

def goodRec : DsRecord := ⟨5, 1, 1, [7], 9⟩
theorem wf_record : goodRec.wf = true ∧
    ∀ r ∈ [{ goodRec with ds := 65536 }, { goodRec with pstatus := 256 }, { goodRec with len := 65536 }, { goodRec with payload := [] },
      { goodRec with dchk := 2 ^ 32 }], r.wf = false := by decide

def goodPoll : PollBody := ⟨1, 2, 0, false, 0, 0, 0, 0, 0xFFFFFFFF, 4, 8, [(5, -3)]⟩
theorem wf_poll : goodPoll.wf = true ∧
    ∀ b ∈ [{ goodPoll with timeSec := 2 ^ 48 }, { goodPoll with timeNs := 2 ^ 32 }, { goodPoll with group := 8 }, { goodPoll with twinRole := 4 },
      { goodPoll with fallback := 4 }, { goodPoll with nextCase := 256 }, { goodPoll with nextKind := 256 }, { goodPoll with nextCycle := 2 ^ 32 },
      { goodPoll with bcQ := 65536 }, { goodPoll with macro_ := 256 }, { goodPoll with named := List.replicate 256 (5, 0) },
      { goodPoll with named := [(1024, 0)] }, { goodPoll with named := [(5, 32768)] }], b.wf = false := by decide +kernel

def goodReply : ReplyBody := ⟨5, true, 100, -5, List.replicate 16 7⟩
theorem wf_reply : goodReply.wf = true ∧
    ∀ b ∈ [{ goodReply with node := 1024 }, { goodReply with linkDelay := 2 ^ 32 }, { goodReply with ratePpb := 2 ^ 31 }, { goodReply with idHash := [7] }],
      b.wf = false := by decide

def goodInaug : InaugBody := ⟨7, 1, 0, 1, 0, [⟨7, 1, 0⟩]⟩
theorem wf_inaug : goodInaug.wf = true ∧
    ∀ b ∈ [{ goodInaug with consistId := 2 ^ 32 }, { goodInaug with consistId := 0 }, { goodInaug with type := 65536 }, { goodInaug with from_ := 2 },
      { goodInaug with round := 2 ^ 32 }, { goodInaug with stable := 256 }, { goodInaug with list := [] },
      { goodInaug with list := List.replicate 10 ⟨7, 1, 0⟩ }, { goodInaug with list := [⟨2 ^ 32, 1, 0⟩] },
      { goodInaug with list := [⟨7, 65536, 0⟩] }, { goodInaug with list := [⟨7, 1, 256⟩] }], b.wf = false := by decide

def goodClaim : ClaimBody := ⟨1, true, 3, true, false, 5, 6⟩
theorem wf_claim : goodClaim.wf = true ∧
    ∀ b ∈ [{ goodClaim with unit := 0 }, { goodClaim with unit := 3 }, { goodClaim with state := 8 }, { goodClaim with cycleSeen := 2 ^ 32 },
      { goodClaim with commit := 2 ^ 64 }], b.wf = false := by decide

def goodSurrender : SurrenderBody := ⟨1, 2, 5, 6⟩
theorem wf_surrender : goodSurrender.wf = true ∧
    ∀ b ∈ [{ goodSurrender with unit := 3 }, { goodSurrender with reason := 3 }, { goodSurrender with lastCycle := 2 ^ 32 },
      { goodSurrender with commit := 2 ^ 64 }], b.wf = false := by decide

def goodCold : ColdstartBody := ⟨1, 2, 4, 8, 0, 2000⟩
theorem wf_coldstart : goodCold.wf = true ∧
    ∀ b ∈ [{ goodCold with timeSec := 2 ^ 64 }, { goodCold with timeNs := 2 ^ 32 }, { goodCold with bcQ := 65536 }, { goodCold with macro_ := 256 },
      { goodCold with case_ := 256 }, { goodCold with firstPoll := 2 ^ 32 }], b.wf = false := by decide

theorem wf_heartbeat : (beat 2).wf = true ∧
    ∀ b ∈ [beat 0, beat 3, { beat 2 with state := 8 }, { beat 2 with role := 8 }, { beat 2 with cycle := 2 ^ 32 }, { beat 2 with commit := 2 ^ 64 }],
      b.wf = false := by decide

def goodStatus : PorterStatusMsg := ⟨5, 0, 0, [5]⟩
theorem wf_porterStatus : goodStatus.wf = true ∧
    ∀ b ∈ [{ goodStatus with prtStatus := 2 ^ 32 }, { goodStatus with excluded := 2 ^ 24 }, { goodStatus with stagedId := 2 ^ 32 },
      { goodStatus with faults := List.replicate 5 0 }], b.wf = false := by decide

theorem wf_porterFrame : (pfr 5 .data).wf = true ∧
    ∀ f ∈ [{ pfr 5 .data with cycle := 2 ^ 32 }, { pfr 5 .data with src := 65536 }, { pfr 5 .data with case_ := 256 },
      pfr 5 (.poll { goodPoll with group := 8 }), pfr 5 (.reply { goodReply with node := 1024 }), pfr 5 (.claim { goodClaim with unit := 0 }),
      pfr 5 (.surrender { goodSurrender with reason := 3 }), pfr 5 (.coldstart { goodCold with case_ := 256 }),
      pfr 5 (.inaug { goodInaug with consistId := 0 })], f.wf = false := by decide

theorem wf_canFrame : cfr.wf = true ∧
    ∀ f ∈ [{ cfr with id := 2048 }, { cfr with dlc := 16 }, { cfr with ts := 2 ^ 32 }, { cfr with fdf := true, rtr := true, data := [] },
      { cfr with data := [1] }, { cfr with rtr := true }], f.wf = false := by decide

def goodMirror : MirrorCommit := ⟨5, false, [1, 2, 3], [4, 5, 6], 7, 8, 1, [(3, List.replicate 256 7)], false⟩
theorem wf_mirror : goodMirror.wf = true ∧
    ∀ c ∈ [{ goodMirror with commit := 2 ^ 64 }, { goodMirror with layoutIds := [1, 2, 3, 4] }, { goodMirror with programIds := [1, 2, 3, 4] },
      { goodMirror with layoutIds := [2 ^ 32] }, { goodMirror with programIds := [2 ^ 32] }, { goodMirror with timeSec := 2 ^ 64 },
      { goodMirror with timeNs := 2 ^ 32 }, { goodMirror with releases := 2 ^ 32 }, { goodMirror with granules := [(3, [7])] }],
      c.wf = false := by decide +kernel

def goodTrig : TrigData := ⟨1, 0, 5, 6, 7⟩
theorem wf_trig : goodTrig.wf = true ∧
    ∀ d ∈ [{ goodTrig with src := 256 }, { goodTrig with opt := 256 }, { goodTrig with id := 65536 }, { goodTrig with param := 2 ^ 32 },
      { goodTrig with time := 2 ^ 64 }], d.wf = false := by decide

theorem wf_key : key1.wf = true ∧
    ∀ k ∈ [{ key1 with serial := 2 ^ 64 }, { key1 with flash := [(5, 1), (5, 2)] }, { key1 with flash := [(5, 0xFF)] }], k.wf = false := by decide

theorem wf_instr :
    ∀ c ∈ [Instr.bodyReturn 0 0 (2 ^ 32), .eventTrigger 0 0 { goodTrig with src := 256 }, .mirrorReceive { goodMirror with commit := 2 ^ 64 },
      .mirrorAck (2 ^ 64) true, .dataFrameReceived 0 0 { goodHdr with version := 256 } [] 0, .dataFrameReceived 0 0 goodHdr [{ goodRec with payload := [] }] 0,
      .masterPollReceived 0 0 { goodHdr with version := 256 } goodPoll, .masterPollReceived 0 0 goodHdr { goodPoll with group := 8 },
      .discoveryReply 0 0 { goodHdr with version := 256 } goodReply, .discoveryReply 0 0 goodHdr { goodReply with node := 1024 },
      .inauguration 0 true { goodInaug with consistId := 0 } 5, .inauguration 0 true goodInaug (2 ^ 32),
      .porterFrame 0 0 { pfr 5 .data with cycle := 2 ^ 32 }, .cascadeLinkUp 0 (2 ^ 32), .heartbeatReceived 0 (beat 0),
      .porterStatusReceived 0 { goodStatus with excluded := 2 ^ 24 }, .surrenderReceived 0 { goodSurrender with unit := 3 } true,
      .canFrameSent 0 0 0 ⟨512, 0⟩, .canFrameSent 0 0 0 ⟨0, 256⟩, .canBusError 0 ⟨512, 0⟩, .canBusError 0 ⟨0, 256⟩,
      .canFrameReceived 0 { cfr with dlc := 16 } ⟨0, 0⟩, .canFrameReceived 0 cfr ⟨512, 0⟩, .canFrameReceived 0 cfr ⟨0, 256⟩,
      .keyReturned { key1 with serial := 2 ^ 64 }, .supplyOn 0 256 true], c.wf = false := by decide +kernel

/-! ### The spec's worked examples -/

/-- The machine that a step from `s` with `c` in front answers. -/
def after (c : Instr) (s : State) : Mod :=
  match step { s with pending := [c] } with
  | .next t => t.mod
  | _ => Mod.reset

/-- Sources and kinds of the faults that the command raises. -/
def raised (c : Instr) (s : State) : List (Nat × Nat) := ((after c s).fc.reports.drop s.mod.fc.reports.length).map (fun r => (r.source, r.kind))

/-- 17_address_map.md, 'Example: addresses for a snapshot set'. -/
theorem test_snapshotAddresses :
    Reg.TASK_Tn_SKIPS_TOTAL.key 2 5 / 32 = 0x42154 ∧ Reg.PRT_Pp_LATE_TOTAL.key 1 7 / 32 = 0x78174 ∧
    Reg.DIO_CHc_STATUS_DRIVE.key 17 0 / 32 = 0xC0214 ∧ Reg.LBB_PREFETCH_DISCARDw_WORDS.key 3 0 / 32 = 0xB0134 ∧
    rqAddr 3 10 = 0x10014D6F8 ∧ snapAddress 0x14D6F8 = true ∧ snapAddress 0x40500 = false := by decide +kernel

/-- 07_cycle_network.md, R243: with CYC_MACRO 6, CYCLE_WRAP is 4,294,963,200. -/
theorem test_cycleWrap : (Mod.reset.put Reg.CYC_MACRO_COUNT 6).cycleWrap = 4294963200 := by decide +kernel

/-- 11_gateway_legacy_bridge.md, 'Example: a brake pressure signal onto the train network'. -/
def brake : GwEntry := ⟨1, 4, 0x12, 0x3A, 0, 0, 4096, 23, 0, 12, 16, 5, 2, 0, 0, 1200, 0⟩
def brakeRaw (b2 b3 : Byte) : Nat := bitsValue (fun i => [0, 0, b2, b3].getD i 0) brake.srcBits
def brakeOut (b2 b3 : Byte) : Int := max brake.min (min brake.max (roundAway ((brakeRaw b2 b3 : Int) * brake.num) brake.den + brake.offset))
theorem test_brakeSignal : brakeRaw 0x1B 0x2C = 434 ∧ brakeOut 0x1B 0x2C = 0x43D ∧ brakeRaw 0x1B 0x3C = 435 ∧ brakeOut 0x1B 0x3C = 0x440 ∧
    brakeRaw 0xFF 0xF0 = 4095 ∧ brakeOut 0xFF 0xF0 = 0x4B0 := by decide +kernel

/-- 12_digital_io.md, 'Example: a contactor inrush sags group G2': SUPPLY_LOW and SUPPLY_LOST from 0x110, LATCHED set. -/
def group2 : State := st (fun m => (m.put Reg.DIO_Gg_SUPPLY_STATE suOK 2).put Reg.DIO_Gg_SUPPLY_LATCHED 0 2)
theorem test_sagLow : raised (.supplyLow 2 19199) group2 = [(0x110, 5)] ∧ (after (.supplyLow 2 19199) group2).get Reg.DIO_CHc_STATUS_INVALID 20 = 1 := by
  decide +kernel
theorem test_sagLost : (0x110, 6) ∈ raised (.supplyLost 2 14999) group2 ∧ (after (.supplyLost 2 14999) group2).get Reg.DIO_Gg_SUPPLY_LATCHED 2 = 1 := by
  decide +kernel

/-- 02_lockstep_pairs.md, 'Example: two mismatches on a sorter pair': MISMATCH of pair 1 comes from 0x020. -/
theorem test_mismatch : raised (.comparatorMismatch 1 0 0x20_0000_0000) (st (fun m => m.setLstate 1 lnRUN)) = [(0x20, 1)] ∧
    (after (.comparatorMismatch 1 0 0x20_0000_0000) (st (fun m => m.setLstate 1 lnRUN))).lstate 1 = lnRESTORE := by decide +kernel

/-- 04_control_execution.md, 'Example: an overrun in a metro door controller': BUDGET_EXCEEDED of pair 0 comes from 0x051. -/
theorem test_budget : raised (.budgetExceeded 0 0) (at' stACTIVE (fun m => (rels [rel' 0 dCyc [prt' 0 false]] (m.setLstate 0 lnRUN)).put
    Reg.TASK_CTL_BUDGET_CHECK 1)) = [(0x51, 2)] := by decide +kernel

/-- 03_triad_scales.md, 'Example: a slow pair in a shuttle aisle': LAG of pair 2 comes from 0x043, and the pair keeps voting. -/
def slow : State := triads id (vote [dig 0 0, dig 1 1] (some 1) (some (0, 5))) rel3
theorem test_lag : raised (.skewWindowEnd 0) slow = [(0x43, 1)] ∧ (after (.skewWindowEnd 0) slow).vstate 2 = vsVOTING := by decide +kernel

/-- 10_can.md, 'Example: a brake bus goes bus-off': at TEC 256 the controller is BUS_OFF, 0x0E2 raises it, and mailbox 5 is HELD. -/
def brakeBus : State := at' stACTIVE (fun m => ((m.put Reg.CAN_STATUS_STATE cnPASSIVE 2).setMbState 2 5 mbSENDING).setCan 2
  (fun c => { c with matrix := some mx, attempt := some ⟨5, 3, false, [], []⟩ }))
theorem test_busOff : raised (.canBusError 2 ⟨256, 0⟩) brakeBus = [(0xE2, 1)] ∧ (after (.canBusError 2 ⟨256, 0⟩) brakeBus).canState 2 = cnBUSOFF ∧
    (after (.canBusError 2 ⟨256, 0⟩) brakeBus).mbState 2 5 = mbHELD := by decide +kernel
theorem test_tec248 : raised (.canBusError 2 ⟨248, 0⟩) brakeBus = [] ∧ (after (.canBusError 2 ⟨248, 0⟩) brakeBus).canState 2 = cnPASSIVE := by
  decide +kernel

/-- 11_gateway_legacy_bridge.md, 'Example: back-off and a lost FIFO word on a sorter rack': the bus request finds one buffered word,
the bridge grants the bus and discards it, and LBB_PREFETCH_DISCARD3 counts 1. -/
def rack : State := bridge (fun m => m.setLbb (fun l => { l with buffer := [⟨3, 0x410006, 9⟩] }))
theorem test_backOff : (after .busRequest rack).lbb.buffer = [] ∧ (after .busRequest rack).get Reg.LBB_PREFETCH_DISCARDw_WORDS 3 = 1 ∧
    (after .busRequest rack).out = [.fbg true] := by decide +kernel

/-- 08_porter.md, 'Example: both twins cold start in the same tick': unit 1, with its own echo on B and unit 2's frame on A, becomes
master. -/
theorem test_coldstart : (after (.coldstartRoleDecision (some 2) (some 1)) (master stSTARTING (fun m => (m.put Reg.CYC_STATUS_ROLE cyLISTENING).setCyc
    (fun c => { c with coldstartSent := true })))).cyc.masterNext = true := by decide +kernel

/-- CRC-32 and CRC-64 of the nine ASCII digits, as the definitions of the two codes publish them (R237, R83). -/
def nine : List Byte := [0x31, 0x32, 0x33, 0x34, 0x35, 0x36, 0x37, 0x38, 0x39]
theorem test_crc : crc32 nine = 0xCBF43926 ∧ crc64 nine = 0x6C40DF5F0B497347 := by decide +kernel

/-- An empty queue passes one nanosecond. -/
theorem test_idle : (match step State.reset with | .next t => t.mod.now | _ => 0) = 1 := by decide +kernel

end Sys2Proof.Tests
end

section
/-!
PROOF. O10: the rights to the Ledger MRAM (R181, R624). An access that the fabric does not grant ends in a bus error and
changes no byte; every write to the MRAM by an initiator other than LGR is such an access, and a lockstep pair's read below
SEC's own storage is granted.
-/

namespace Sys2Proof.Proofs

open Sys2Proof.Machine Sys2Proof.Laws

/-! ### Regions of the Ledger MRAM (R621) -/

/-- An access below SEC's own storage meets the MRAM region. -/
theorem regionOf_mram {a n : Nat} (ha : mramBase ≤ a) (hn : a + n ≤ 0x43F00000) : regionOf a n = some .mram := by
  have hrow : regionMap.find? (fun r => r.1 ≤ a && a + n ≤ r.1 + r.2.1) = some (0x40000000, 0x3F00000, .mram) := by
    unfold mramBase at ha
    rw [List.find?_eq_some_iff_append]
    refine ⟨by simp; omega, regionMap.take 7, regionMap.drop 8, rfl, fun r hr => ?_⟩
    have hbelow : r.1 + r.2.1 < 0x40000000 := by revert r; decide
    simp; omega
  simp [regionOf, hrow]

/-- An access to the MRAM devices that meets a region meets the MRAM or SEC's own storage at its top. -/
theorem regionOf_mramDevices {a n : Nat} {g : Region} (ha : mramBase ≤ a) (hn : a + n ≤ mramBase + 0x4000000)
    (hg : regionOf a n = some g) : g = .mram ∨ g = .secret := by
  obtain ⟨r, hr, rfl⟩ := Option.map_eq_some_iff.1 hg
  have hin : r.1 ≤ a ∧ a + n ≤ r.1 + r.2.1 := by simpa using List.find?_some hr
  have hmap : ∀ r ∈ regionMap, r.2.2 = .mram ∨ r.2.2 = .secret ∨ r.1 + r.2.1 < mramBase ∨ mramBase + 0x4000000 < r.1 := by
    decide
  obtain h | h | h | h := hmap r (List.mem_of_find?_eq_some hr)
  · exact .inl h
  · exact .inr h
  · omega
  · omega

/-! ### Rights to it (R181, R624) -/

/-- No initiator but LGR is granted a write to the MRAM or to SEC's own storage. -/
theorem mramWrite_not_granted (m : Mod) {who : Initiator} {op : BusOp} {g : Region} (a : Nat) (hw : who ≠ .lgr)
    (ho : opWrites op = true) (hg : g = .mram ∨ g = .secret) : m.verdict who op a g ≠ .granted := by
  have hr : opReads op = false := by simp [opReads, ho]
  unfold Mod.verdict
  cases who with
  | pair p => rcases hg with rfl | rfl <;> simp only [Mod.pairVerdict, hr, grantIf] <;> split <;> simp
  | split p c => rcases hg with rfl | rfl <;> simp only [Mod.splitVerdict, hr] <;> split <;> simp
  | mc => rcases hg with rfl | rfl <;> simp [Mod.mcVerdict, hr, ho]
  | debug => unfold Mod.debugVerdict; rcases hg with rfl | rfl <;> simp [hr]
  | lgr => exact absurd rfl hw
  | cyc | gw | lbb => unfold engineVerdict; rcases hg with rfl | rfl <;> simp [hr] <;> split <;> simp

/-- A lockstep pair is granted every read of the MRAM. -/
theorem pairReadsMram_granted (m : Mod) (p : Pair) (w : Width) (a : Nat) (hs : m.split p.val = false) :
    m.verdict (.pair p) (.read w) a .mram = .granted := by
  simp [Mod.verdict, hs, Mod.pairVerdict, grantIf, opReads, opWrites, opFetches]

/-! ### The path of an access -/

/-- An access counts in at most one of the peaks of R24. -/
theorem trackPeak_cases (m : Mod) (who : Initiator) (g : Region) (a n : Nat) :
    m.trackPeak who g a n = m ∨
    ∃ f ∈ [Reg.SYS_TXN_PEAK_PAIR0, Reg.SYS_TXN_PEAK_PAIR1, Reg.SYS_TXN_PEAK_PAIR2], ∃ v, m.trackPeak who g a n = m.peak f v := by
  unfold Mod.trackPeak
  cases resPair who with
  | none => exact .inl rfl
  | some p =>
    dsimp only
    split_ifs with served
    · exact .inl rfl
    · refine .inr ⟨_, ?_, _, rfl⟩
      split <;> simp

/-- The peaks are no bytes of memory. -/
@[simp] theorem trackPeak_mem (m : Mod) (who : Initiator) (g : Region) (a n : Nat) : (m.trackPeak who g a n).mem = m.mem := by
  obtain h | ⟨f, -, v, h⟩ := trackPeak_cases m who g a n <;> rw [h]
  exact put_mem ..

/-- The peaks do not split a pair. -/
@[simp] theorem trackPeak_split (m : Mod) (who : Initiator) (g : Region) (a n : Nat) (p : Pair) :
    (m.trackPeak who g a n).split p.val = m.split p.val := by
  obtain h | ⟨f, hf, v, h⟩ := trackPeak_cases m who g a n <;> rw [h]
  have hkey : ∀ f ∈ [Reg.SYS_TXN_PEAK_PAIR0, Reg.SYS_TXN_PEAK_PAIR1, Reg.SYS_TXN_PEAK_PAIR2],
      ∀ g ∈ [Reg.SYS_PROFILE_PAIR0_MODE, Reg.SYS_PROFILE_PAIR1_MODE, Reg.SYS_PROFILE_PAIR2_MODE], g.key 0 0 ≠ f.key 0 0 := by
    decide
  have hget := fun g hg => get_put_key m f g (max (m.get f) (min (2 ^ f.width - 1) v)) 0 0 0 0 (hkey f hf g hg)
  simp only [List.forall_mem_cons, List.not_mem_nil] at hget
  obtain ⟨h0, h1, h2, -⟩ := hget
  simp only [Mod.split, Mod.peak, h0, h1, h2]

/-- A bus error answered where no byte has changed. -/
theorem answer_busError {m x : Mod} (h : x.mem = m.mem) :
    (x.answer .busError).resp = some .busError ∧ MemKept m (x.answer .busError) := ⟨rfl, rd8_of_mem h⟩

/-- The same with DECODE_ERROR before it (R622). -/
theorem decodeError_busError {m x : Mod} (a : Nat) (h : x.mem = m.mem) :
    (x.decodeError a).resp = some .busError ∧ MemKept m (x.decodeError a) :=
  answer_busError (by simp [Mod.fabricFault, h])

/-- An unmapped address: a bus error, whoever reaches for it. -/
theorem unmapped_busError (m : Mod) (who : Initiator) (op : BusOp) (a : Nat) :
    (m.unmapped who op a).resp = some .busError ∧ MemKept m (m.unmapped who op a) := by
  unfold Mod.unmapped
  split
  · exact answer_busError rfl
  · split
    · exact answer_busError rfl
    · exact decodeError_busError a rfl
  · exact decodeError_busError a rfl

/-- An access that the fabric grants in no region: a bus error, and neither a byte nor the Daybook changes. -/
theorem fabric_not_granted (m : Mod) (d : Daybook) (who : Initiator) (op : BusOp) (a : Nat)
    (h : ∀ g, regionOf a (opWidth op) = some g → ∀ m' : Mod, m'.verdict who op a g ≠ .granted) :
    ∃ m', m.fabric d who op a = (m', d) ∧ m'.resp = some .busError ∧ MemKept m m' := by
  unfold Mod.fabric
  cases hg : regionOf a (opWidth op) with
  | none => exact ⟨_, rfl, unmapped_busError m who op a⟩
  | some g =>
    have hmem : (m.trackPeak who g a (opWidth op)).mem = m.mem := trackPeak_mem ..
    dsimp only
    cases hv : (m.trackPeak who g a (opWidth op)).verdict who op a g with
    | granted => exact absurd hv (h g hg _)
    | refused => exact ⟨_, rfl, answer_busError hmem⟩
    | barred => exact ⟨_, rfl, decodeError_busError a hmem⟩
    | firewall => exact ⟨_, rfl, answer_busError (by cases who <;> exact hmem)⟩
    | debug => exact ⟨_, rfl, answer_busError hmem⟩

/-- A read that no cache serves answers the bytes that its initiator sees, and nothing else changes. -/
theorem memAccess_read (m : Mod) (d : Daybook) {who : Initiator} {g : Region} (w : Width) (a : Nat)
    (hc : cachedBy who g = none) : m.memAccess d who (.read w) g a = m.answer (.data (m.memRead d a w.bytes)) := by
  simp [Mod.memAccess, Mod.loadBytes, Mod.memRead, hc, opWidth]

/-- A lockstep pair reads the MRAM: data, and neither a byte nor the Daybook changes. -/
theorem fabric_pairReadsMram (m : Mod) (d : Daybook) (p : Pair) (w : Width) (a : Nat) (hs : m.split p.val = false)
    (hg : regionOf a w.bytes = some .mram) :
    ∃ m', m.fabric d (.pair p) (.read w) a = (m', d) ∧ (∃ x, m'.resp = some (.data x)) ∧ MemKept m m' := by
  have hmem : (m.trackPeak (.pair p) .mram a w.bytes).mem = m.mem := trackPeak_mem ..
  have hv := pairReadsMram_granted (m.trackPeak (.pair p) .mram a w.bytes) p w a (by simp [hs])
  refine ⟨(m.trackPeak (.pair p) .mram a w.bytes).memAccess d (.pair p) (.read w) .mram a, ?_, ?_⟩
  · simp only [Mod.fabric, opWidth, hg, hv]
    rfl
  · rw [memAccess_read _ d w a rfl]
    exact ⟨⟨_, rfl⟩, rd8_of_mem hmem⟩

/-- FABRIC_ACCESS completes with what the fabric makes of the module, where it leaves the Daybook as it was. -/
theorem fabricAccess_completes {who : Initiator} {op : BusOp} {addr : Addr} {s : State} {P : Mod → Prop}
    (h : ∃ m, s.mod.fresh.fabric s.daybook who op addr.toNat = (m, s.daybook) ∧ P m) :
    Completes (.fabricAccess who op addr) s P := by
  obtain ⟨m, hm, hP⟩ := h
  refine ⟨{ s with mod := m }, ?_, rfl, rfl, hP⟩
  simp [exec, execFabricAccess, runDb, hm]

/-! ### O10 -/

/-- Settles O10: the pair's read is granted in its region, and a write by any initiator but LGR is granted in none of the
regions that it can meet. -/
theorem mramRights : Obligations.MramRights := by
  refine ⟨fun p w addr s hs ha hn => fabricAccess_completes ?_, fun who op addr s hw ho ha hn => fabricAccess_completes ?_⟩
  · exact fabric_pairReadsMram s.mod.fresh s.daybook p w addr.toNat hs (regionOf_mram ha hn)
  · exact fabric_not_granted s.mod.fresh s.daybook who op addr.toNat fun g hg m =>
      mramWrite_not_granted m addr.toNat hw ho (regionOf_mramDevices ha hn hg)

end Sys2Proof.Proofs
end

section
/-!
PROOF. O11: the rights to the TIM registers (R514, R624). The verdict of the fabric and the initiator check stop every write
but a lockstep pair's and the management core's; what a split core's read changes before it is answered is no part of the
word that it reads.
-/

namespace Sys2Proof.Proofs

open Sys2Proof.Machine Sys2Proof.Laws

/-! ### Registers by address -/

/-- A register found at an offset is a row of the map, and the offset follows from its strides. -/
theorem findReg_word {o i j : Nat} {r : RegRow} (h : findReg o = some (r, i, j)) :
    r ∈ Reg.all ∧ o = r.off + r.s1 * i + r.s2 * j ∧ i < r.n1 ∧ j < r.n2 := by
  obtain ⟨r', hr, h⟩ := List.exists_of_findSome?_eq_some h
  obtain ⟨⟨a, b⟩, hat, he⟩ := Option.map_eq_some_iff.1 h
  obtain ⟨rfl, rfl, rfl⟩ : r' = r ∧ a = i ∧ b = j := by simpa using he
  obtain ⟨⟨ho, hi, hj⟩, hab⟩ := Option.ite_none_right_eq_some.1 hat
  simp only [Option.some.injEq, Prod.mk.injEq] at hab
  obtain ⟨rfl, rfl⟩ := hab
  exact ⟨hr, ho.symm, hi, hj⟩

/-- Registers stand at whole words. -/
theorem findReg_aligned {o : Nat} (h : (findReg o).isSome = true) : o % 4 = 0 := by
  obtain ⟨⟨r, i, j⟩, hf⟩ := Option.isSome_iff_exists.1 h
  obtain ⟨hr, rfl, -, -⟩ := findReg_word hf
  have hmap : ∀ r ∈ Reg.all, 4 ∣ r.off ∧ 4 ∣ r.s1 ∧ 4 ∣ r.s2 := by decide +kernel
  obtain ⟨h0, h1, h2⟩ := hmap r hr
  exact Nat.mod_eq_zero_of_dvd ((h0.add (h1.mul_right i)).add (h2.mul_right j))

/-- The fields of the register at an offset lie in its word. -/
theorem findReg_fieldKey {o i j : Nat} {r : RegRow} {f : Fld} (h : findReg o = some (r, i, j)) (hf : f ∈ r.flds) :
    f.key i j / 32 = o := by
  obtain ⟨hr, rfl, -, -⟩ := findReg_word h
  have hmap : ∀ r ∈ Reg.all, ∀ f ∈ r.flds, f.off = r.off ∧ f.s1 = r.s1 ∧ f.s2 = r.s2 ∧ f.lo < 32 := by decide +kernel
  obtain ⟨h0, h1, h2, hlo⟩ := hmap r hr f hf
  rw [Fld.key, h0, h1, h2]
  omega

/-- A register lies in one block with its fields, whatever its indices. -/
theorem findReg_fieldBlock {o i j : Nat} {r : RegRow} {f : Fld} (h : findReg o = some (r, i, j)) (hf : f ∈ r.flds) :
    blockOf f.off = blockOf o := by
  obtain ⟨hr, rfl, hi, hj⟩ := findReg_word h
  have hmap : ∀ r ∈ Reg.all, blockOf (r.off + r.s1 * (r.n1 - 1) + r.s2 * (r.n2 - 1)) = blockOf r.off ∧
      ∀ f ∈ r.flds, f.off = r.off := by decide +kernel
  obtain ⟨hlast, hoff⟩ := hmap r hr
  have h1 : r.s1 * i ≤ r.s1 * (r.n1 - 1) := Nat.mul_le_mul_left _ (by omega)
  have h2 : r.s2 * j ≤ r.s2 * (r.n2 - 1) := Nat.mul_le_mul_left _ (by omega)
  rw [hoff f hf]
  unfold blockOf at hlast ⊢
  omega

/-! ### What a read of a TIM register shows -/

/-- Of the fields that show engine state, the TIM block holds the upper seconds and the lower half of the monotonic time. -/
theorem liveFields_find_tim (m : Mod) (db : Daybook) (f : Fld) (i : Nat) (hf : blockOf f.off = 1) :
    (m.liveFields db i).find? (fun x => x.1 == f) =
      if f = Reg.TIM_SEC_HI_SEC_HI then some (Reg.TIM_SEC_HI_SEC_HI, m.secs / 2 ^ 32)
      else if f = Reg.TIM_MONO_LO_MONO_LO then some (Reg.TIM_MONO_LO_MONO_LO, m.now)
      else none := by
  split_ifs with hsec hmono
  · subst hsec; rfl
  · subst hmono; rfl
  · have hblock : ∀ g ∈ (m.liveFields db i).map (·.1), blockOf g.off = 1 →
        g = Reg.TIM_SEC_HI_SEC_HI ∨ g = Reg.TIM_MONO_LO_MONO_LO := by
      simp only [Mod.liveFields, List.map]
      decide
    rw [List.find?_eq_none]
    rintro x hx he
    obtain rfl : x.1 = f := by simpa using he
    exact (hblock x.1 (List.mem_map_of_mem hx) hf).elim hsec hmono

/-- A field of the TIM block reads the same where time and the field's own value are the same. -/
theorem fieldNow_tim {m x : Mod} (db : Daybook) {f : Fld} {i j : Nat} (hf : blockOf f.off = 1) (hn : x.now = m.now)
    (ht : x.modTime = m.modTime) (hg : x.get f i j = m.get f i j) : x.fieldNow db f i j = m.fieldNow db f i j := by
  have htask : isTaskField f = false := by
    simp only [blockOf] at hf
    simp only [isTaskField, Bool.and_eq_false_iff, decide_eq_false_iff_not]
    omega
  simp only [Mod.fieldNow, htask, Bool.false_eq_true, if_false, liveFields_find_tim _ _ _ _ hf, Mod.secs, hn, ht, hg]

/-- What the read of a word latches stands in other words. -/
theorem latchRead_get (m : Mod) (db : Daybook) {o : Nat} {f : Fld} {i j : Nat} (h : f.key i j / 32 = o) :
    (m.latchRead db o).get f i j = m.get f i j := by
  have other : ∀ (n : Mod) (g : Fld) (v a : Nat), g.key a 0 / 32 ≠ o → (n.put g v a).get f i j = n.get f i j :=
    fun n g v a hg => get_put_key _ _ _ _ _ _ _ _ fun e => hg (e ▸ h)
  unfold Mod.latchRead
  split_ifs with h1 h2 h3 h4 h5 h6 h7
  · rw [other _ _ _ _ (by rw [h1]; decide), other _ _ _ _ (by rw [h1]; decide)]
  · exact other _ _ _ _ (by rw [h2]; decide)
  · exact other _ _ _ _ (by rw [h3]; decide)
  · exact other _ _ _ _ (by rw [h4]; decide)
  · exact other _ _ _ _ (by rw [h5]; decide)
  · exact other _ _ _ _ (by rw [h6]; decide)
  · simp only [Reg.CAN_TSCAP_CNT_CAP_CNT] at h7 ⊢
    rw [other, other] <;> simp only [Fld.key, Reg.CAN_TSCAP_MONO_LO_CAP_MONO_LO, Reg.CAN_TSCAP_MONO_HI_CAP_MONO_HI] <;> omega
  · rfl

@[simp] theorem latchRead_now (m : Mod) (db : Daybook) (o : Nat) : (m.latchRead db o).now = m.now := by
  unfold Mod.latchRead; split_ifs <;> simp

@[simp] theorem latchRead_modTime (m : Mod) (db : Daybook) (o : Nat) : (m.latchRead db o).modTime = m.modTime := by
  unfold Mod.latchRead; split_ifs <;> simp

/-- A word of the TIM block reads the same where time and the fields of the word are the same. -/
theorem readWord_tim {m x : Mod} (db : Daybook) {o : Nat} (ho : blockOf o = 1) (hn : x.now = m.now)
    (ht : x.modTime = m.modTime) (hg : ∀ (f : Fld) (i j : Nat), f.key i j / 32 = o → x.get f i j = m.get f i j) :
    x.readWord db o = m.readWord db o := by
  have hin : ∀ n : Mod, (n.absentReg o || (n.porterDown o && !isPrtStatus o)) = false := fun n => by
    unfold blockOf at ho
    rw [absentReg_block n o (by omega) (by omega) (by omega), porterDown_block n o (by omega)]
    rfl
  unfold Mod.readWord
  cases h : findReg o with
  | none => rfl
  | some w =>
    obtain ⟨r, i, j⟩ := w
    simp only [hin, Bool.false_eq_true, if_false]
    congr 1
    refine List.map_congr_left fun f hf => ?_
    rw [fieldNow_tim db ((findReg_fieldBlock h hf).trans ho) hn ht (hg f i j (findReg_fieldKey h hf))]

/-! ### Peaks and the firewall -/

/-- The peaks of R24 stand in the SYS block. -/
theorem trackPeak_only (m : Mod) (who : Initiator) (g : Region) (a n : Nat) : Only [0] m (m.trackPeak who g a n) := by
  have hblock : ∀ f ∈ [Reg.SYS_TXN_PEAK_PAIR0, Reg.SYS_TXN_PEAK_PAIR1, Reg.SYS_TXN_PEAK_PAIR2], keyBlock (f.key 0 0) ∈ [0] := by
    decide
  obtain h | ⟨f, hf, v, h⟩ := trackPeak_cases m who g a n <;> rw [h]
  · exact .refl _ _
  · exact (Only.refl _ m).peak f v 0 0 (hblock f hf)

/-- They are no time. -/
theorem trackPeak_time (m : Mod) (who : Initiator) (g : Region) (a n : Nat) :
    (m.trackPeak who g a n).now = m.now ∧ (m.trackPeak who g a n).modTime = m.modTime := by
  obtain h | ⟨f, -, v, h⟩ := trackPeak_cases m who g a n <;> rw [h]
  · exact ⟨rfl, rfl⟩
  · exact ⟨put_now .., put_modTime ..⟩

/-- Bytes read the same where memory is the same. -/
theorem rdBytes_of_mem {m x : Mod} (h : x.mem = m.mem) (a n : Nat) : x.rdBytes a n = m.rdBytes a n := by
  induction n generalizing a with
  | zero => rfl
  | succ n ih => simp only [Mod.rdBytes, rd8_of_mem h, ih]

/-- The firewall is the table in memory that the LANE block names (R44). -/
theorem firewallReads_keep {m x : Mod} (hm : x.mem = m.mem) (hr : Only [0] m x) (p c a n : Nat) :
    x.firewallReads p c a n = m.firewallReads p c a n := by
  have hbase : x.get Reg.LANE_FIREWALL_BASE_OFFSET p = m.get Reg.LANE_FIREWALL_BASE_OFFSET p := by
    refine hr _ _ _ ?_
    simp only [keyBlock, Fld.key, Reg.LANE_FIREWALL_BASE_OFFSET, List.mem_singleton]
    omega
  have htrd : x.trd = m.trd := by
    funext b o k
    simp only [Mod.trd, Mod.rdLE, rdBytes_of_mem hm]
  have htby : x.tby = m.tby := by
    funext b o k
    simp only [Mod.tby, rdBytes_of_mem hm]
  simp only [Mod.firewallReads, Mod.firewall, hbase, htrd, htby]

/-! ### The path of an access to a register -/

/-- Each address lies in at most one region (R621). -/
theorem regionOf_of_mem {r : Nat × Nat × Region} {a n : Nat} (hr : r ∈ regionMap) (ha : r.1 ≤ a) (hn : a + n ≤ r.1 + r.2.1)
    (h0 : 0 < n) : regionOf a n = some r.2.2 := by
  have hapart : ∀ r ∈ regionMap, ∀ q ∈ regionMap, r = q ∨ r.1 + r.2.1 ≤ q.1 ∨ q.1 + q.2.1 ≤ r.1 := by decide
  have hsome : (regionMap.find? (fun q => q.1 ≤ a && a + n ≤ q.1 + q.2.1)).isSome = true :=
    List.find?_isSome.2 ⟨r, hr, by simp [ha, hn]⟩
  obtain ⟨q, hq⟩ := Option.isSome_iff_exists.1 hsome
  have hin : q.1 ≤ a ∧ a + n ≤ q.1 + q.2.1 := by simpa using List.find?_some hq
  obtain rfl | h | h := hapart r hr q (List.mem_of_find?_eq_some hq)
  · simp [regionOf, hq]
  · omega
  · omega

/-- A word of the TIM block lies in the register region. -/
theorem regionOf_tim {o : Nat} (ho : blockOf o = 1) : regionOf (regBase + o) 4 = some .regs := by
  unfold blockOf at ho
  have hr : (0x100000000, 0x140000, Region.regs) ∈ regionMap := by decide
  exact regionOf_of_mem hr (by simp [regBase]) (by simp only [regBase]; omega) (by decide)

/-- Its address, on the bus. -/
theorem timAddr_toNat {o : Nat} (ho : blockOf o = 1) : (BitVec.ofNat 40 (regBase + o)).toNat = regBase + o := by
  unfold blockOf at ho
  rw [BitVec.toNat_ofNat, Nat.mod_eq_of_lt]
  simp only [regBase]
  omega

/-- An access that the fabric stops in its region: a bus error, and beside the SYS block no register changes. -/
theorem fabric_stopped {m : Mod} (d : Daybook) {who : Initiator} {op : BusOp} {a : Nat} {g : Region}
    (hg : regionOf a (opWidth op) = some g) (hv : (m.trackPeak who g a (opWidth op)).verdict who op a g ≠ .granted) :
    ∃ m', m.fabric d who op a = (m', d) ∧ m'.resp = some .busError ∧ BlocksBut [0] m m' := by
  have hkeep : Only [0] m (m.trackPeak who g a (opWidth op)) := trackPeak_only _ _ _ _ _
  unfold Mod.fabric
  simp only [hg]
  cases hw : (m.trackPeak who g a (opWidth op)).verdict who op a g with
  | granted => exact absurd hw hv
  | refused => exact ⟨_, rfl, rfl, hkeep⟩
  | barred => exact ⟨_, rfl, rfl, (hkeep.raise _ _ _ _).put _ _ _ _ (by decide)⟩
  | firewall => exact ⟨_, rfl, rfl, by cases who <;> exact hkeep⟩
  | debug => exact ⟨_, rfl, rfl, hkeep⟩

/-- REGISTER_WRITE completes with what the fabric makes of the module, where it leaves the Daybook as it was. -/
theorem registerWrite_completes {who : Initiator} {addr : Addr} {v : Word32} {s : State} {P : Mod → Prop}
    (h : ∃ m, s.mod.fresh.fabric s.daybook who (.write .b4 (v.setWidth 64)) addr.toNat = (m, s.daybook) ∧ P m) :
    Completes (.registerWrite who addr v) s P :=
  fabricAccess_completes h

/-! ### Rights to the TIM registers (R514) -/

/-- The initiator check lets a lockstep pair write the whole block. -/
theorem timMayWrite_pair (m : Mod) (p : Pair) {o : Nat} (v : Nat) (hs : m.split p.val = false) (ho : blockOf o = 1) :
    m.mayWrite (.pair p) o v = true := by
  simp [Mod.mayWrite, hs, ho]

/-- It lets the management core write what lies below the triggers. -/
theorem timMayWrite_mc (m : Mod) {o : Nat} (v : Nat) (ho : blockOf o = 1) :
    m.mayWrite .mc o v = true ↔ o < 0x10100 := by
  simp [Mod.mayWrite, ho, mcOwned, safeSide, Reg.TIM_TRIGn_CTL_ENABLE]
  exact decide_eq_true_iff

/-- The fabric grants a write there to no initiator but a lockstep pair and the management core. -/
theorem timWrite_not_granted (m : Mod) {who : Initiator} (w : Width) (v : BitVec 64) {o : Nat} (ho : blockOf o = 1)
    (hp : ∀ p, who = .pair p → m.split p.val = true) (hm : who ≠ .mc) :
    m.verdict who (.write w v) (regBase + o) .regs ≠ .granted := by
  have hr : opReads (.write w v) = false := rfl
  cases who with
  | pair p => simp [Mod.verdict, hp p rfl]
  | split p c => simp only [Mod.verdict, Mod.splitVerdict, hr]; split <;> simp
  | mc => exact absurd rfl hm
  | debug => unfold Mod.verdict Mod.debugVerdict; simp [hr, opFetches, ho]
  | cyc | lgr | gw | lbb => unfold Mod.verdict engineVerdict; simp [hr, opFetches]

/-- A write that the initiator check turns away leaves the Daybook as it was. -/
theorem regAccess_write_refused {m : Mod} (d : Daybook) {who : Initiator} (v : BitVec 64) {o : Nat} (ho : blockOf o = 1)
    (hf : (findReg o).isSome = true) (hw : m.mayWrite who o (v.toNat % 2 ^ 32) = false) :
    m.regAccess d who (.write .b4 v) o = (m.writeRefused who o, d) := by
  obtain ⟨x, hx⟩ := Option.isSome_iff_exists.1 hf
  have h4 := findReg_aligned hf
  unfold blockOf at ho
  have ha := absentReg_block m o (by omega) (by omega) (by omega)
  have hresp : (m.writeRefused who o).resp ≠ some .ok := by simp [Mod.writeRefused]
  simp only [Mod.regAccess, h4, ne_eq, not_true_eq_false, if_false, Mod.busWriteDb, busWrite_refused m who o _ 2 x h4 ha hx hw,
    hresp, and_false]

/-- The management core's write to a register of the triggers is turned away behind the fabric. -/
theorem fabric_mcTrigWrite (m : Mod) (d : Daybook) (v : BitVec 64) {o : Nat} (ho : blockOf o = 1)
    (hf : (findReg o).isSome = true) (ht : 0x10100 ≤ o) :
    m.fabric d .mc (.write .b4 v) (regBase + o) = (m.answer .busError, d) := by
  have hw : m.mayWrite .mc o (v.toNat % 2 ^ 32) = false := by
    rw [Bool.eq_false_iff, ne_eq, timMayWrite_mc m _ ho]
    omega
  have hg : regionOf (regBase + o) (opWidth (.write .b4 v)) = some .regs := regionOf_tim ho
  have hv : m.verdict .mc (.write .b4 v) (regBase + o) .regs = .granted := rfl
  have hoff : regBase + o - regBase = o := Nat.add_sub_cancel_left ..
  simp only [Mod.fabric, hg, Mod.trackPeak, resPair, hv, hoff, regAccess_write_refused d v ho hf hw]
  rfl

/-- Every write to the block but those of a lockstep pair, and of the management core below the triggers. -/
theorem fabric_timWrite_refused (m : Mod) (d : Daybook) {who : Initiator} (v : BitVec 64) {o : Nat} (ho : blockOf o = 1)
    (hf : (findReg o).isSome = true) (hp : ∀ p, who = .pair p → m.split p.val = true) (hm : who = .mc → 0x10100 ≤ o) :
    ∃ m', m.fabric d who (.write .b4 v) (regBase + o) = (m', d) ∧ m'.resp = some .busError ∧ BlocksBut [0] m m' := by
  by_cases hmc : who = .mc
  · subst hmc
    exact ⟨_, fabric_mcTrigWrite m d v ho hf (hm rfl), rfl, fun _ _ _ _ => rfl⟩
  · exact fabric_stopped d (regionOf_tim ho) (timWrite_not_granted _ .b4 v ho (fun p h => by simp [hp p h]) hmc)

/-- A core of a SPLIT pair is granted a read of a register exactly as its firewall lets it. -/
theorem splitReadsReg_verdict {m : Mod} (p : Pair) (c : Fin 2) (a : Nat) (hs : m.split p.val = true) :
    m.verdict (.split p c) (.read .b4) a .regs = if m.firewallReads p.val c.val a 4 then .granted else .firewall := by
  have hr : opReads (.read .b4) = true := rfl
  have hw : opWidth (.read .b4) = 4 := rfl
  cases h : m.firewallReads p.val c.val a 4 <;> simp [Mod.verdict, hs, Mod.splitVerdict, hr, hw, h]

/-- A granted read of the block: the word as it stood, and the Daybook is left as it was. -/
theorem regAccess_timRead (m : Mod) (d : Daybook) (p : Pair) (c : Fin 2) {o : Nat} (ho : blockOf o = 1)
    (hf : (findReg o).isSome = true) :
    m.regAccess d (.split p c) (.read .b4) o = ((m.latchRead d o).answer (.data (m.readWord d o)), d) := by
  have hword : (m.latchRead d o).readWord d o = m.readWord d o :=
    readWord_tim d ho (latchRead_now ..) (latchRead_modTime ..) fun _ _ _ hk => latchRead_get m d hk
  have hnone : (findReg o).isNone = false := by rw [Option.isNone_eq_false_iff, hf]
  simp [Mod.regAccess, findReg_aligned hf, hnone, hword]

/-- A core of a SPLIT pair reads a word of the block where its firewall lets it, and receives a bus error elsewhere. -/
theorem fabric_splitReadsTim (m : Mod) (d : Daybook) (p : Pair) (c : Fin 2) {o : Nat} (hs : m.split p.val = true)
    (ho : blockOf o = 1) (hf : (findReg o).isSome = true) :
    ∃ m', m.fabric d (.split p c) (.read .b4) (regBase + o) = (m', d) ∧
      if m.firewallReads p.val c.val (regBase + o) 4 then m'.resp = some (.data (m.readWord d o)) else m'.resp = some .busError := by
  have hg : regionOf (regBase + o) (opWidth (.read .b4)) = some .regs := regionOf_tim ho
  have hkeep := trackPeak_only m (.split p c) .regs (regBase + o) (opWidth (.read .b4))
  have hv := splitReadsReg_verdict (m := m.trackPeak (.split p c) .regs (regBase + o) (opWidth (.read .b4))) p c (regBase + o)
    (by simp [hs])
  rw [firewallReads_keep (trackPeak_mem ..) hkeep] at hv
  split_ifs at hv ⊢ with hfw
  · obtain ⟨hnow, htime⟩ := trackPeak_time m (.split p c) .regs (regBase + o) (opWidth (.read .b4))
    have hword := readWord_tim d ho hnow htime fun f i j hk => hkeep f i j (by
      unfold blockOf at ho
      rw [keyBlock, List.mem_singleton]
      omega)
    have hoff : regBase + o - regBase = o := Nat.add_sub_cancel_left ..
    simp only [Mod.fabric, hg, hv, hoff, regAccess_timRead _ d p c ho hf, hword]
    exact ⟨_, rfl, rfl⟩
  · obtain ⟨m', hm, hresp, -⟩ := fabric_stopped d hg (by rw [hv]; decide)
    exact ⟨m', hm, hresp⟩

/-! ### O11 -/

/-- Settles O11: the initiator check by cases of the writer, a refused write stopped by the fabric or by that check, and a
split core's read let through by its firewall alone. -/
theorem timRights : Obligations.TimRights := by
  refine ⟨fun p o v m hs ho => timMayWrite_pair m p v hs ho, fun o v m ho => timMayWrite_mc m v ho,
    fun who o v s ho hf hp hm => registerWrite_completes ?_, fun p c o s hs ho hf => fabricAccess_completes ?_⟩
  · rw [timAddr_toNat ho]
    exact fabric_timWrite_refused s.mod.fresh s.daybook _ ho hf hp hm
  · have hfw := firewallReads_keep (m := s.mod) (x := s.mod.fresh) rfl (.of_regs rfl) p.val c.val (regBase + o) 4
    have hword := readWord_tim (m := s.mod) (x := s.mod.fresh) s.daybook ho rfl rfl fun _ _ _ _ => rfl
    rw [timAddr_toNat ho, ← hfw, ← hword]
    exact fabric_splitReadsTim s.mod.fresh s.daybook p c hs ho hf

end Sys2Proof.Proofs
end
